-- ==== Sys2Proof/Word.lean ====
section
/-! DEFINITION. The octets, words and small index types the whole model is written in, with the integer
arithmetic of the Conventions (R1): div, mod, ceil, clamp and the saturating count. -/

namespace Sys2Proof

/-- An octet of a frame, a request body or a result body (R178). -/
abbrev Byte := BitVec 8

/-- A 32-bit word of a profile bank (R173, R181). -/
abbrev Word32 := BitVec 32

/-- The tag a sender gives its request, 0..255 (R158, R160). -/
abbrev Tag := BitVec 8

/-- The index of a cadence table entry, 0..63 (R2). -/
abbrev Idx := Fin 64

/-- A station address, held as the address less one: `x : Addr` is the station at address `x.val + 1`, 1..30 (R121). -/
abbrev Addr := Fin 30

/-- The number of a timing output, 0..15 (R106). -/
abbrev OutNo := Fin 16

/-- The least integer not below `a / b` (R1's ceil on a quotient), for naturals. -/
def ceilDiv (a b : Nat) : Nat := (a + (b - 1)) / b

/-- R1: clamp(x, [lo, hi]) on naturals. -/
def clampNat (lo hi x : Nat) : Nat := if x < lo then lo else if hi < x then hi else x

/-- R1: clamp(x, [lo, hi]) on integers. -/
def clampInt (lo hi x : Int) : Int := if x < lo then lo else if hi < x then hi else x

/-- R1: a saturating count of `n` more events, which stops at `top`. -/
def satAdd (top x n : Nat) : Nat := min top (x + n)

end Sys2Proof
end

