-- ==== Sys2Proof/Syntax.lean ====
section
/-! DEFINITION. The commands of the part: one constructor of `Instr` for each row of the table of operations and
events, with the row's operands. Numeric operands are the numbers the sender wrote, in range or not; the checks
and clamps of the rules are made by the meanings. -/

namespace Sys2Proof

/-- A link of the request handler (R160): the management port, or a station. As an owner, `mgmt` is owner 0 (R2). -/
inductive Link where
  | mgmt
  | station (x : Addr)
  deriving DecidableEq, Repr

/-- The number a link is shown by: 0 for the management owner, 1..30 for a station (R2). -/
def Link.number : Link → Nat
  | .mgmt => 0
  | .station x => x.val + 1

/-- A handle as a request carries it (R3, R178): two octets, index then generation. An index above 63 can be written. -/
structure Handle where
  index : Nat
  gen : BitVec 8
  deriving DecidableEq, Repr

/-- An instant as a request carries it (R178): whole seconds, then ns. -/
structure Instant where
  sec : Nat
  ns : Nat
  deriving DecidableEq, Repr

/-- The fields of CREATE (R10). An optional field is `none` when its mask bit is clear; a policy or label mode is the
enumeration octet as written; an empty name list is a name field of length 0. -/
structure CreateReq where
  num : Nat
  den : Nat
  name : Option (List Byte)
  phi : Option Int
  policy : Option Nat
  slew : Option Nat
  label : Option Nat
  deriving DecidableEq, Repr

/-- The fields of SET (R14). -/
structure SetReq where
  handle : Handle
  rate : Option (Nat × Nat)
  phi : Option Int
  policy : Option Nat
  slew : Option Nat
  label : Option Nat
  name : Option (List Byte)
  deriving DecidableEq, Repr

/-- The fields of SAMPLE (R82). -/
structure SampleReq where
  seq : BitVec 8
  sec : Nat
  ns : Nat
  grade : Nat
  deriving DecidableEq, Repr

/-- The twelve optional fields of SERVO, in the order of the table of R100. -/
structure ServoReq where
  sth : Option Nat
  lockWin : Option Nat
  lockCount : Option Nat
  unlockWin : Option Nat
  persist : Option Nat
  kp : Option Nat
  ki : Option Nat
  limit : Option Nat
  timeout : Option Nat
  ageLimit : Option Nat
  minGrade : Option Nat
  slewRange : Option Nat
  deriving DecidableEq, Repr

/-- The pending action of CIVIL (R56); `other` is an octet that names no action. -/
inductive PendingAction where
  | keep
  | set (newOffset : Int) (effective : Nat)
  | cancel
  | other (code : Nat)
  deriving DecidableEq, Repr

/-- The fields of CIVIL (R56). -/
structure CivilReq where
  offset : Option Int
  jam : Option Nat
  action : PendingAction
  deriving DecidableEq, Repr

/-- The binding action of BIND (R115). -/
inductive BindAction where
  | keep
  | bind (h : Handle)
  | unbind
  | other (code : Nat)
  deriving DecidableEq, Repr

/-- The fields of BIND (R115). -/
structure BindReq where
  output : Nat
  action : BindAction
  enabled : Option Bool
  divider : Option Nat
  delay : Option Nat
  width : Option Nat
  polarity : Option Nat
  clear : Bool
  deriving DecidableEq, Repr

/-- The settings of CHAIN (R130). -/
structure ChainReq where
  timeout : Option Nat
  orphan : Option Nat
  autoRelease : Option Bool
  deriving DecidableEq, Repr

/-- The action of a CHAIN request that is neither HOLD nor RELEASE: KEEP, or an octet that names no action (R130). -/
inductive KeepAction where
  | keep
  | other (code : Nat)
  deriving DecidableEq, Repr

/-- The attention action of STATUS (R172): KEEP, SET with a mask octet and a mode octet, or an octet that names none. -/
inductive AttnAction where
  | keep
  | set (mask : BitVec 8) (mode : Nat)
  | other (code : Nat)
  deriving DecidableEq, Repr

/-- One request with its fields, as its body spells it (R178). RETIRE and CHAIN each stand for more than one row of the
table, by the presence of an end instant and by the action. -/
inductive Req where
  | find (name : List Byte)
  | read (h : Handle)
  | list (start : Nat)
  | next (h : Handle) (n : Nat)
  | stations (address : Nat)
  | notices
  | create (q : CreateReq)
  | set (q : SetReq)
  | realign (h : Handle)
  | retire (h : Handle)
  | retireWithEnd (h : Handle) (e : Instant)
  | watch (h : Handle)
  | unwatch (h : Handle)
  | stream (h : Handle) (step lead : Nat)
  | unstream
  | sample (q : SampleReq)
  | servo (q : ServoReq)
  | civil (q : CivilReq)
  | bind (q : BindReq)
  | chain (act : KeepAction) (q : ChainReq)
  | chainHold (q : ChainReq)
  | chainRelease (q : ChainReq)
  | save (bank : Nat)
  | load (bank : Nat)
  | reset
  | status (clear : Bool) (act : AttnAction)
  deriving DecidableEq, Repr

/-- R170: how much of a read transaction a command carries. -/
inductive ReadPart where
  /-- The whole of it: the part has clocked out `clocked` octets after the 52h when SCS rises. -/
  | whole (clocked : Nat)
  /-- Its beginning, up to the status octet: the read is in progress from here on. -/
  | start
  /-- Its end: SCS rises when the part has clocked out `clocked` octets after the 52h. -/
  | finish (clocked : Nat)
  deriving DecidableEq, Repr

/-- The commands. The first twenty-six are the acceptance of a request of link `l` with tag `t` (R160); the rest are the
transactions of the SPI port, the edges on pins, the frames on CRX and the events of the part's own clock. -/
inductive Instr where
  | find (l : Link) (t : Tag) (name : List Byte)
  | read (l : Link) (t : Tag) (h : Handle)
  | list (l : Link) (t : Tag) (start : Nat)
  | next (l : Link) (t : Tag) (h : Handle) (n : Nat)
  | stations (l : Link) (t : Tag) (address : Nat)
  | notices (l : Link) (t : Tag)
  | create (l : Link) (t : Tag) (q : CreateReq)
  | set (l : Link) (t : Tag) (q : SetReq)
  | realign (l : Link) (t : Tag) (h : Handle)
  | retire (l : Link) (t : Tag) (h : Handle)
  | retireWithEnd (l : Link) (t : Tag) (h : Handle) (e : Instant)
  | watch (l : Link) (t : Tag) (h : Handle)
  | unwatch (l : Link) (t : Tag) (h : Handle)
  | stream (l : Link) (t : Tag) (h : Handle) (d lead : Nat)
  | unstream (l : Link) (t : Tag)
  | sample (l : Link) (t : Tag) (q : SampleReq)
  | servo (l : Link) (t : Tag) (q : ServoReq)
  | civil (l : Link) (t : Tag) (q : CivilReq)
  | bind (l : Link) (t : Tag) (q : BindReq)
  | chain (l : Link) (t : Tag) (act : KeepAction) (q : ChainReq)
  | chainHold (l : Link) (t : Tag) (q : ChainReq)
  | chainRelease (l : Link) (t : Tag) (q : ChainReq)
  | save (l : Link) (t : Tag) (bank : Nat)
  | load (l : Link) (t : Tag) (bank : Nat)
  | reset (l : Link) (t : Tag)
  | status (l : Link) (t : Tag) (clear : Bool) (act : AttnAction)
  /-- The octets clocked on SDI in one transaction, the first of them included (R169, R181). -/
  | spiWrite (octets : List Byte)
  /-- A read transaction, or one of its ends (R170, R181). -/
  | spiRead (part : ReadPart)
  /-- The words the store reads back from the bank it has written (R174). -/
  | saveCompletion (stored : List Word32)
  | loadCompletion
  | startBankLoadCompletion
  | hardReset
  /-- The release of RESET with the BANK1 and BANK0 straps read as a number (R176). -/
  | resetRelease (straps : Fin 4)
  /-- A rising edge of STROBE at position `p` ns within its REFCLK cycle (R80). -/
  | strobeEdge (p : Fin 8)
  | inhibitAssertion
  | inhibitRelease
  | markDue (i : Idx)
  | endDue (i : Idx)
  | jamEvent
  | activeEdge (o : OutNo)
  | inactiveEdge (o : OutNo)
  | holdoverTimerExpiry
  | holdoverAgeLimitPassed
  | attnPulseEnd
  /-- The bits received on CRX since the last ones given, ending with the bit whose period begins `p` ns into the present
  REFCLK cycle; delimiters included, fill as a delimiter with nothing before it (R122 to R124, R127). -/
  | returnFrame (p : Fin 8) (line : List Bool)
  | answerWindowOpen
  | answerWindowClose
  | pollSend
  | discoverSend
  | rangeSend
  | reportStart
  | reportSent
  | silenceTimerExpiry
  | liveRunReached
  | orphanTimerExpiry (x : Addr)
  | conflictTimerExpiry (x : Addr)
  | streamHoldExpiry (x : Addr)
  | reRangeTimerExpiry (x : Addr)
  | timebaseSecondsWrap
  deriving DecidableEq, Repr

/-- The command by which the request handler accepts request `r` of link `l` (R160). -/
def Req.toInstr (l : Link) (t : Tag) : Req → Instr
  | .find name => .find l t name
  | .read h => .read l t h
  | .list start => .list l t start
  | .next h n => .next l t h n
  | .stations a => .stations l t a
  | .notices => .notices l t
  | .create q => .create l t q
  | .set q => .set l t q
  | .realign h => .realign l t h
  | .retire h => .retire l t h
  | .retireWithEnd h e => .retireWithEnd l t h e
  | .watch h => .watch l t h
  | .unwatch h => .unwatch l t h
  | .stream h d lead => .stream l t h d lead
  | .unstream => .unstream l t
  | .sample q => .sample l t q
  | .servo q => .servo l t q
  | .civil q => .civil l t q
  | .bind q => .bind l t q
  | .chain act q => .chain l t act q
  | .chainHold q => .chainHold l t q
  | .chainRelease q => .chainRelease l t q
  | .save b => .save l t b
  | .load b => .load l t b
  | .reset => .reset l t
  | .status c act => .status l t c act

end Sys2Proof
end

