-- ==== Sys2Proof/Decode.lean ====
section
/-! DEFINITION. The word of a command, as the table of operations and events numbers its bits. No row of the table gives
bits, so no word spells a command. -/

namespace Sys2Proof

/-- The command that the `nbits` low bits of `w` spell: none, since no row of the table has bits. -/
def decodeTableWord (_nbits _w : Nat) : Option Instr := none

end Sys2Proof
end

