-- ==== Sys2Proof/Config.lean ====
section
/-! DEFINITION. The constants the spec fixes for the part (one place each), and the free values: opaque constants with
no body, for the values the spec leaves unstated. -/

namespace Sys2Proof.Config

/-- Nanoseconds in a second. -/
abbrev second : Nat := 1000000000
/-- R11, R36: the start guard G, 1,000,000 ns. -/
abbrev startGuard : Nat := 1000000
/-- R19: the farthest end instant past T_req, 86,400 s. -/
abbrev endReach : Nat := 86400000000000
/-- R74, R76: the seconds field holds 48 bits. -/
abbrev secondsWrap : Nat := 281474976710656
/-- R76: 2^48 × 10^9 ns. -/
abbrev wrapSpan : Nat := secondsWrap * second
/-- R74: the fraction field counts 2^32 units to the ns. -/
abbrev fracUnit : Nat := 4294967296
/-- R75: the nominal rate word, 8 × 2^32. -/
abbrev nominalRate : Int := 34359738368
/-- Seconds of the civil day. -/
abbrev day : Nat := 86400
/-- R73: REFCLK cycles in a second. -/
abbrev cyclesPerSecond : Nat := 125000000
/-- R73, R142: REFCLK cycles in a microsecond. -/
abbrev cyclesPerMicro : Nat := 125
/-- R79: the strobe glitch window, 100 µs. -/
abbrev glitchWindow : Nat := 12500
/-- R128: the silence timer, 1 ms. -/
abbrev silenceLimit : Nat := 125000
/-- R128: the greatest gap inside a live run, 100 µs. -/
abbrev liveGap : Nat := 12500
/-- R129: the live run that makes the chain RUNNING. -/
abbrev liveRunGoal : Nat := 125000
/-- R134: 60 s of conflict time. -/
abbrev conflictLimit : Nat := 7500000000
/-- R155: the stream hold limit, 2 s. -/
abbrev holdLimit : Nat := 250000000
/-- R141: the re-range timer, 1 s. -/
abbrev reRangeLimit : Nat := 125000000
/-- R171: an ATTN pulse, 1 µs. -/
abbrev attnPulse : Nat := 125
/-- R122: REFCLK cycles to a bit of the chain. -/
abbrev cyclesPerBit : Nat := 5
/-- R146: REFCLK cycles to a delimiter of fill. -/
abbrev cyclesPerDelimiter : Nat := 50
/-- R146: REFCLK cycles of the gap after a report. -/
abbrev reportGap : Nat := 125
/-- R148: the station's turnaround, ns. -/
abbrev turnaround : Nat := 1280
/-- R154: the least countdown of a report, ns. -/
abbrev minCountdown : Int := 2000
/-- Greatest value of a 16-bit saturating counter (R103, R127, R169). -/
abbrev counterTop : Nat := 65535
/-- R106: the delay limit of an unbound output. -/
abbrev freeDelay : Nat := 65534999999999
/-- R106: the width limit of an unbound output. -/
abbrev freeWidth : Nat := 32767500000000
/-- R180: octets of a result in one POLL segment. -/
abbrev segmentOctets : Nat := 45
/-- R181: the largest body of the SPI port. -/
abbrev spiBody : Nat := 512
/-- R181: the marker word of a bank. -/
abbrev bankMarker : Word32 := 0x5A3C0B16#32

/-- FREE VALUE (log entry 14): what the store writes over the marker word of bank `b` when a SAVE fails its verify. R174
says only that it is a value that fails. -/
opaque failMarker : Nat → Word32

/-- FREE VALUE (log entry 15): the eight octets, as one number, that carry an offset θ outside the signed 64-bit range.
R178 gives no width that holds such a value. -/
opaque wideOffset : Int → BitVec 64

/-- FREE VALUE (log entry 45): timebase time, modulo 2^48 × 10^9, after a step whose sum T + θ lies below 0. R77 holds that
no step has such a sum and gives no time for one. -/
opaque timeBelowZero : Int → Nat

/-- FREE VALUE (log entry 52): the ten octets, as one number, that carry an instant below 0 or at or past 2^48 × 10^9 ns.
R178 gives seconds in six octets and ns in four, and no octets for such an instant. -/
opaque wideInstant : Int → BitVec 80

/-- FREE VALUE (log entry 65): the six octets, as one number, that carry a next jam instant tn at or past 2^48 s, in the last
civil day before the seconds wrap. R59 lets tn lie there, and R178 gives no octets for it. -/
opaque wideSecond : Nat → BitVec 48

end Sys2Proof.Config
end

