-- ==== Sys2Proof/Machine/State.lean ====
section
/-! DEFINITION. The state of the part as plain data: every record, register, counter, buffer and pin the spec gives
it, block by block, the queue of waiting commands, and the state under hard reset.

Timers are held as the REFCLK cycle at which they started (`none` when stopped); the cycles a timer has counted are
the cycle count less that number (R73). -/

namespace Sys2Proof.Machine

open Sys2Proof

/-! ## The cadence table (chapters 1 to 3) -/

/-- R2: the lifecycle state of an entry. -/
inductive EntryState where
  | vacant | pending | running | slewing | held | ending
  deriving DecidableEq, Repr

/-- R2: the state an entry moves by. -/
inductive Motion where
  | pending | running | slewing | held
  deriving DecidableEq, Repr

/-- R2: the response to timebase steps and phase changes. -/
inductive Policy where
  | snap | slew | hold
  deriving DecidableEq, Repr

/-- R64: the label mode. -/
inductive LabelMode where
  | none | count | drop
  deriving DecidableEq, Repr

/-- R62: a label base, the mark `kb` at which labels begin and the label count `nj` it carries. -/
structure Base where
  kb : Nat
  nj : Int
  deriving DecidableEq, Repr

/-- R2: one entry record. `rate absent` (a VACANT entry) is `num = den = pf = 0`. -/
structure Entry where
  gen : BitVec 8
  state : EntryState
  motion : Motion
  owner : Link
  name : Option (List Byte)
  num : Nat
  den : Nat
  pf : Nat
  phi : Int
  eps : Int
  policy : Policy
  slew : Nat
  label : LabelMode
  /-- R62: the current base, present when the label mode is not NONE. -/
  base : Option Base
  /-- R63: the next base, absent between a switch and the jam event. -/
  next : Option Base
  ks : Option Nat
  kl : Option Nat
  /-- R39: the last mark instant Lm. -/
  lm : Option Int
  endAt : Option Nat
  /-- R20: an end due already taken, that waits for the mark due at or before E. -/
  endTaken : Bool
  watchers : List Addr
  mgmtWatch : Bool
  realigns : Nat
  deriving DecidableEq, Repr

/-- R2: a VACANT entry of generation `g`, every other field cleared. -/
def Entry.vacantAt (g : BitVec 8) : Entry :=
  { gen := g, state := .vacant, motion := .pending, owner := .mgmt, name := none, num := 0, den := 0, pf := 0,
    phi := 0, eps := 0, policy := .snap, slew := 0, label := .none, base := none, next := none, ks := none,
    kl := none, lm := none, endAt := none, endTaken := false, watchers := [], mgmtWatch := false, realigns := 0 }

/-- A reference the part holds to an entry: a handle that passed R3 when it was taken. -/
structure EntryRef where
  index : Idx
  gen : BitVec 8
  deriving DecidableEq, Repr

/-- R55: the civil settings and the jam schedule. -/
structure Civil where
  offset : Int
  jam : Nat
  /-- The pending change: new offset O′ and effective instant Eo. -/
  pending : Option (Int × Nat)
  tB : Nat
  tL : Option Nat
  tn : Nat
  deriving DecidableEq, Repr

/-! ## Timebase and discipline (chapters 4 and 5) -/

/-- R74: timebase time. -/
structure Timebase where
  seconds : Nat
  ns : Nat
  frac : Nat
  deriving DecidableEq, Repr

/-- R81: the state of a capture slot. -/
inductive SlotState where
  | empty | filled | consumed | void
  deriving DecidableEq, Repr

/-- R81: a capture slot. -/
structure CaptureSlot where
  state : SlotState
  seq : BitVec 8
  time : Nat
  deriving DecidableEq, Repr

/-- R88: the servo state. -/
inductive ServoState where
  | free | acquire | locked | holdover
  deriving DecidableEq, Repr

/-- R100: the twelve parameters, the slew range of R41 among them. -/
structure ServoParams where
  sth : Nat
  lockWin : Nat
  lockCount : Nat
  unlockWin : Nat
  persist : Nat
  kp : Nat
  ki : Nat
  limit : Nat
  timeout : Nat
  ageLimit : Nat
  minGrade : Nat
  slewRange : Nat
  deriving DecidableEq, Repr

/-- R100: the built-in defaults. -/
def ServoParams.builtIn : ServoParams :=
  { sth := 100000, lockWin := 1000, lockCount := 4, unlockWin := 20000, persist := 3, kp := 2200, ki := 550,
    limit := 3435974, timeout := 3, ageLimit := 14400, minGrade := 6, slewRange := 1000000 }

/-- R103: the five counters. -/
structure ServoCounters where
  accepted : Nat
  ignored : Nat
  outliers : Nat
  steps : Nat
  glitches : Nat
  deriving DecidableEq, Repr

/-- R88: the discipline unit. -/
structure Servo where
  state : ServoState
  integral : Int
  correction : Int
  good : Nat
  outliers : Nat
  /-- R98: cycle of the last restart of the holdover timer; `none` when stopped. -/
  timer : Option Nat
  /-- R99: cycle of entry to HOLDOVER; `none` outside it. -/
  ageStart : Option Nat
  lastOffset : Option Int
  /-- R90: the quality class as last reported by the SERVO cause. -/
  noted : Nat
  params : ServoParams
  counters : ServoCounters
  deriving DecidableEq, Repr

/-! ## Timing outputs (chapter 6) -/

/-- R106: output polarity. -/
inductive Polarity where
  | activeHigh | activeLow
  deriving DecidableEq, Repr

/-- R106: a pulse: the index of its mark, its active edge and its inactive edge. -/
structure Pulse where
  mark : Nat
  active : Int
  inactive : Int
  deriving DecidableEq, Repr

/-- R106: one output record. -/
structure Output where
  enabled : Bool
  binding : Option EntryRef
  divider : Nat
  delay : Nat
  width : Nat
  polarity : Polarity
  pendingPol : Option Polarity
  waiting : List Pulse
  inProgress : Option Pulse
  lastInactive : Option Int
  skipped : Nat
  deriving DecidableEq, Repr

/-- R118: the built-in defaults of an output. -/
def Output.builtIn : Output :=
  { enabled := false, binding := none, divider := 1, delay := 0, width := 1000, polarity := .activeHigh,
    pendingPol := none, waiting := [], inProgress := none, lastInactive := none, skipped := 0 }

/-- R107: the state of an output. -/
inductive OutputState where
  | disabled | unbound | waiting | driving
  deriving DecidableEq, Repr

/-! ## Requests and results (chapters 9 to 11) -/

/-- R168: the reply statuses. -/
inductive Status where
  | ok | clamped | partially | busy | stale | notOwner | notPermitted | full | nameTaken | notFound | badField
  | unknown | noCapture | sampleStale | duplicate | ignored | storeFault
  deriving DecidableEq, Repr

/-- R65, R68: a label. -/
structure Label where
  hh : Nat
  mm : Nat
  ss : Nat
  ff : Nat
  drop : Bool
  deriving DecidableEq, Repr

/-- R133: station states. -/
inductive StationState where
  | absent | joining | present | silent | conflict
  deriving DecidableEq, Repr

/-- R129: chain states. -/
inductive ChainState where
  | held | running | broken
  deriving DecidableEq, Repr

/-- R150: stream states. -/
inductive StreamState where
  | active | suspended
  deriving DecidableEq, Repr

/-- R150: a stream. -/
structure Stream where
  entry : EntryRef
  step : Nat
  lead : Nat
  kr : Option Nat
  s0 : Option Int
  last : Option Nat
  skipped : Nat
  state : StreamState
  /-- R155: cycle at which the stream was suspended. -/
  holdStart : Option Nat
  deriving DecidableEq, Repr

/-- R167: what a slot is shown to hold. -/
inductive SlotKind where
  | empty | request | result
  deriving DecidableEq, Repr

/-- R52: the result of NEXT. -/
structure NextView where
  handle : Handle
  state : EntryState
  motion : Motion
  index : Nat
  instant : Int
  label : Option Label
  afterEnd : Bool
  deriving DecidableEq, Repr

/-- R167: the snapshot of STATIONS. -/
structure StationView where
  address : Nat
  state : StationState
  delta : Option Nat
  trip : Option Nat
  lastRange : Option Nat
  rangeDue : Bool
  dueSince : Option Nat
  missed : Nat
  garbled : Nat
  silentSince : Option Nat
  conflictSince : Option Nat
  slot : SlotKind
  owed : Bool
  stream : Option Stream
  owned : Nat
  watchList : List Idx
  noticeCount : Nat
  deriving DecidableEq, Repr

/-- R84: the result of a SAMPLE answered OK. -/
structure SampleView where
  seq : BitVec 8
  captured : Nat
  offset : Int
  stepped : Bool
  servo : ServoState
  cls : Nat
  deriving DecidableEq, Repr

/-- R57: the result of CIVIL. -/
structure CivilView where
  offset : Int
  jam : Nat
  pending : Option (Int × Nat)
  tB : Nat
  tn : Nat
  deriving DecidableEq, Repr

/-- R127: the line counters, with broken (R129), UNEXPECTED (R145), range-rejected (R148) and late-report (R154). -/
structure LineCounters where
  short : Nat
  format : Nat
  check : Nat
  abort : Nat
  broken : Nat
  unexpected : Nat
  rangeRejected : Nat
  lateReport : Nat
  deriving DecidableEq, Repr

/-- R132: the line counters after hard reset. -/
def LineCounters.zero : LineCounters := ⟨0, 0, 0, 0, 0, 0, 0, 0⟩

/-- R138: the number of stations in each station state. -/
structure StationCounts where
  absent : Nat
  joining : Nat
  present : Nat
  silent : Nat
  conflict : Nat
  deriving DecidableEq, Repr

/-- R130: the result of CHAIN. -/
structure ChainView where
  state : ChainState
  timeout : Nat
  orphan : Nat
  autoRelease : Bool
  counts : StationCounts
  deriving DecidableEq, Repr

/-- The attention causes (section 10.2). -/
inductive Cause where
  | servo | chain | stations | entries | store
  deriving DecidableEq, Repr

/-- R171: a set of attention causes. -/
structure CauseSet where
  servo : Bool
  chain : Bool
  stations : Bool
  entries : Bool
  store : Bool
  deriving DecidableEq, Repr

/-- The empty cause set. -/
def CauseSet.none : CauseSet := ⟨false, false, false, false, false⟩
/-- R171: all five causes, the mask at hard reset. -/
def CauseSet.all : CauseSet := ⟨true, true, true, true, true⟩

/-- R171: the attention mode. -/
inductive AttnMode where
  | level | pulse
  deriving DecidableEq, Repr

/-- R173: the kinds of store operation; the start-bank read after a hard reset has no request to answer. -/
inductive OpKind where
  | save | load | startBank
  deriving DecidableEq, Repr

/-- R172: the result of STATUS. -/
structure StatusView where
  causes : CauseSet
  mask : CauseSet
  mode : AttnMode
  servo : ServoState
  correction : Int
  integral : Int
  cls : Nat
  ageSeconds : Nat
  lastOffset : Option Int
  good : Nat
  outliers : Nat
  counters : ServoCounters
  chain : ChainState
  line : LineCounters
  counts : StationCounts
  errors : Nat
  losses : Nat
  op : Option (OpKind × Fin 4)
  startBank : Fin 4
  startOk : Bool
  deriving DecidableEq, Repr

/-- R166: the values of an entry that a CREATE or SET may have clamped or degraded, as they are stored. -/
structure StoredView where
  phi : Int
  slew : Nat
  label : LabelMode
  deriving DecidableEq, Repr

/-- The fields of a result, by request. A snapshot is a copy of the record as it stood at T_req (R160). -/
inductive Body where
  /-- No field. -/
  | empty
  /-- FIND and CREATE: a handle (R11, R24). -/
  | handle (h : Handle)
  /-- CREATE answered CLAMPED: the handle and the values as stored (R11, R166, log entry 47). -/
  | created (h : Handle) (v : StoredView)
  /-- SET answered CLAMPED: the values as stored (R14, R166, log entry 47). -/
  | stored (v : StoredView)
  /-- RETIRE with an end instant answered CLAMPED: the end instant as stored (R19, R166, log entry 47). -/
  | storedEnd (e : Nat)
  /-- STREAM answered CLAMPED: the step and the lead as stored (R151, R166, log entry 47). -/
  | storedStream (step lead : Nat)
  /-- READ: the record of entry `i` (R25). -/
  | entry (i : Idx) (e : Entry)
  /-- LIST (R26). -/
  | handles (hs : List Handle) (more : Bool)
  /-- NEXT (R52). -/
  | next (v : NextView)
  /-- STATIONS (R167). -/
  | station (v : StationView)
  /-- NOTICES (R27). -/
  | notices (items : List (Handle × EntryState)) (more : Bool)
  /-- SAMPLE with a status of pairing: seq alone (R84). -/
  | seq (q : BitVec 8)
  /-- SAMPLE answered OK (R84). -/
  | sample (v : SampleView)
  /-- SERVO (R101). -/
  | servo (p : ServoParams) (state : ServoState) (cls : Nat)
  /-- CIVIL (R57). -/
  | civil (v : CivilView)
  /-- BIND: output `o`, its state and its record (R117). -/
  | output (o : OutNo) (state : OutputState) (r : Output)
  /-- CHAIN (R130). -/
  | chain (v : ChainView)
  /-- LOAD: the handles created and the positions skipped (R175). -/
  | loaded (hs : List Handle) (skipped : List Nat)
  /-- RESET: whether the start bank passed its check (R177). -/
  | resetDone (ok : Bool)
  /-- STATUS (R172). -/
  | status (v : StatusView)
  deriving DecidableEq, Repr

/-- R160: a result: the request's code, the tag its sender gave it, one status and the body. -/
structure Result where
  code : Byte
  tag : Tag
  status : Status
  body : Body
  deriving DecidableEq, Repr

/-- R160: a link's slot: nothing, one request awaiting acceptance (its body octets as they arrived), or one result
awaiting delivery. -/
inductive Slot where
  | empty
  | request (body : List Byte)
  | result (r : Result)
  deriving DecidableEq, Repr

/-! ## The chain (chapters 7 and 8) -/

/-- R133: a station record, with the ties the table and the request handler keep for it. -/
structure Station where
  state : StationState
  delta : Option Nat
  trip : Option Nat
  lastRange : Option Nat
  rangeDue : Bool
  /-- R141: due-since. -/
  dueSince : Option Nat
  missed : Nat
  silentSince : Option Nat
  /-- Cycle of entry to SILENT; `none` when the orphan timer is stopped. -/
  orphanStart : Option Nat
  conflictSince : Option Nat
  /-- Cycle of entry to CONFLICT; `none` when the conflict timer is stopped. -/
  conflictStart : Option Nat
  garbled : Nat
  /-- R141: cycle of the last valid range while the re-range timer runs. -/
  reRangeStart : Option Nat
  stream : Option Stream
  slot : Slot
  /-- R180: the number of the lowest segment of the result not yet delivered. -/
  segment : Nat
  /-- R158: the tag of a request refused BUSY, while the refusal is owed. -/
  owed : Option Tag
  owned : Nat
  watchList : List Idx
  /-- R7: the notice set, in ascending index order. -/
  notices : List Idx
  deriving DecidableEq, Repr

/-- R132, R136: an ABSENT record with every field cleared. -/
def Station.cleared : Station :=
  { state := .absent, delta := none, trip := none, lastRange := none, rangeDue := false, dueSince := none,
    missed := 0, silentSince := none, orphanStart := none, conflictSince := none, conflictStart := none,
    garbled := 0, reRangeStart := none, stream := none, slot := .empty, segment := 0, owed := none, owned := 0,
    watchList := [], notices := [] }

/-- R125: the outbound frame kinds. -/
inductive FrameKind where
  | poll | discover | range | report
  deriving DecidableEq, Repr

/-- R142: an answer window: the cycle and timebase time of its opening, its length in cycles, and the cycle of the first
timebase step applied since it opened (R148). -/
structure Window where
  openCycle : Nat
  openTime : Nat
  length : Nat
  steppedAt : Option Nat
  deriving DecidableEq, Repr

/-- The service frame that waits for its answer (R139, R142): what it is, whom it addresses, the segment (with its final
flag) and refusal a POLL carried, and its window once open. -/
structure Service where
  kind : FrameKind
  addr : Addr
  segment : Option (Nat × Bool)
  refusal : Option Tag
  window : Option Window
  deriving DecidableEq, Repr

/-- The frame on CTX (R125, R146): content before the check, the cycle and timebase time of its start, its length in bits. -/
structure TxFrame where
  kind : FrameKind
  addr : Addr
  body : List Byte
  startCycle : Nat
  startTime : Nat
  bits : Nat
  /-- A report: its kr, and whether the stream that made it still stands (R152, R154). -/
  mark : Nat
  live : Bool
  deriving DecidableEq, Repr

/-- R124: a frame that was cut short on CTX: the level of the bit that was on the line, and the cycle at which the nine 1s
begin. -/
structure CutFrame where
  bit : Bool
  start : Nat
  deriving DecidableEq, Repr

/-- R139: the steps of the service cycle. -/
inductive CycleStep where
  | polls | discover | range
  deriving DecidableEq, Repr

/-- R124, R127: what the receiver is doing between delimiters. -/
inductive RxMode where
  /-- No opening delimiter yet, or its frame was dropped: waiting for the next delimiter. -/
  | idle
  /-- Between delimiters, taking content. -/
  | content
  /-- After nine 1s: the frame was aborted. -/
  | aborted
  deriving DecidableEq, Repr

/-- The receiver on CRX: its mode, the run of 1s it has counted, the content bits so far (last first), and the arrival of
the last delimiter's final 0: its timebase time, whether it fell in the open answer window, and whether a step had by then
been applied since that window opened. -/
structure Receiver where
  mode : RxMode
  ones : Nat
  bits : List Bool
  arrival : Nat
  inWindow : Bool
  stepped : Bool
  deriving DecidableEq, Repr

/-- The chain controller (R121 to R132, R139). -/
structure Chain where
  state : ChainState
  timeout : Nat
  orphan : Nat
  autoRelease : Bool
  line : LineCounters
  /-- R139: the service-cycle position: step, poll cursor 0..30 and discovery pointer 1..30. -/
  step : CycleStep
  cursor : Nat
  pointer : Nat
  /-- R139: the addressee chosen for the frame of the present step, which waits for the transmitter. -/
  chosen : Option Addr
  svc : Option Service
  tx : Option TxFrame
  /-- R124: the last frame that was cut short; nine 1s stand on CTX from its `start`. None once a service frame has gone out
behind it. -/
  cut : Option CutFrame
  /-- R146: the cycle of the last frame end (or of the release of RESET), from which the delimiter boundaries count. -/
  lineBase : Nat
  /-- R146: the cycle at which the last frame ended, when that frame was a report. -/
  reportEnd : Option Nat
  rx : Receiver
  /-- R128: cycle of the last restart of the silence timer. -/
  silenceStart : Nat
  /-- R128: cycle of the delimiter that started the live run. -/
  liveStart : Option Nat
  /-- R128: cycle of the last delimiter received. -/
  lastDelim : Option Nat
  deriving DecidableEq, Repr

/-! ## Management port, attention and store (chapter 10) -/

/-- R170: a read transaction in progress: the octets it returns after 52h, and whether the slot still holds the result it
returns. -/
structure PortRead where
  answer : List Byte
  holds : Bool
  deriving DecidableEq, Repr

/-- The management port (R161, R169, R170). -/
structure Port where
  slot : Slot
  /-- R161: the slot shows a SAVE, LOAD or RESET as pending. -/
  pendingShown : Bool
  /-- A completion result that found a request awaiting acceptance in the slot (log entry 20). -/
  deferred : Option Result
  errors : Nat
  losses : Nat
  /-- R170: the read transaction in progress. -/
  reading : Option PortRead
  /-- The octets SDO carried behind the first octet of the last transaction (R181). -/
  sdo : List Byte
  deriving DecidableEq, Repr

/-- R171: attention. -/
structure Attention where
  causes : CauseSet
  mask : CauseSet
  mode : AttnMode
  /-- Cycle of the last addition that keeps an ATTN pulse in progress. -/
  pulse : Option Nat
  deriving DecidableEq, Repr

/-- R173: a store operation in progress: its kind, bank, the tag of its request (`none` for the start-bank read of a hard
reset) and, for SAVE, the snapshot. -/
structure StoreOp where
  kind : OpKind
  bank : Fin 4
  tag : Option Tag
  snapshot : List Word32
  deriving DecidableEq, Repr

/-- R173, R176: the profile bank store. A bank with no words is an erased bank or one whose content was lost. -/
structure Store where
  banks : Vector (List Word32) 4
  op : Option StoreOp
  startBank : Fin 4
  startOk : Bool
  deriving DecidableEq, Repr

/-- The count of the timebase, in 2^−32 ns, at a cycle from which it runs at one rate word to the next reading. -/
structure Reading where
  cycle : Nat
  count : Nat
  rate : Nat
  deriving DecidableEq, Repr

/-- The whole part, with the queue of commands that wait. -/
structure State where
  /-- R73: the cycle count since RESET was released. -/
  cycle : Nat
  tb : Timebase
  /-- The MODEL's own record, newest first: the readings from which the timebase time of a past cycle is told (R122, log
  entry 32). -/
  readings : List Reading
  /-- The RESET pin is asserted. -/
  resetPin : Bool
  /-- R111: the INHIBIT pin is asserted. -/
  inhibit : Bool
  /-- R79: cycle of the last accepted STROBE edge since the last hard reset. -/
  lastEdge : Option Nat
  slots : Vector CaptureSlot 4
  /-- R80: the latest sequence. -/
  latest : Option (BitVec 8)
  servo : Servo
  civil : Civil
  entries : Vector Entry 64
  /-- R7: the management notice set, in ascending index order. -/
  mgmtNotices : List Idx
  outs : Vector Output 16
  chain : Chain
  stations : Vector Station 30
  /-- R160: the links whose slot holds a request awaiting acceptance, in order of arrival. -/
  arrivals : List Link
  port : Port
  attn : Attention
  store : Store
  /-- The commands that wait, first in, first out. -/
  pending : List Instr
  deriving DecidableEq, Repr

/-- The part never stops with a fault: the spec gives every command an effect in every state, so this closed type has no
constructor. Safe. -/
inductive Fault where
  deriving DecidableEq, Repr

/-- Why a command would have no meaning. -/
inductive Refusal where
  /-- Raised by `exec` alone, for a row of the table that has no meaning yet; no row is in that case. Safe. -/
  | notModelled (mnemonic : String)
  deriving DecidableEq, Repr

/-- R104: the discipline unit under hard reset. -/
def Servo.reset : Servo :=
  { state := .free, integral := 0, correction := 0, good := 0, outliers := 0, timer := none, ageStart := none,
    lastOffset := none, noted := 4, params := ServoParams.builtIn, counters := ⟨0, 0, 0, 0, 0⟩ }

/-- R71: the label unit under hard reset; `tn` is the first daily jam after the origin. -/
def Civil.reset : Civil :=
  { offset := 0, jam := 0, pending := none, tB := 0, tL := none, tn := 86400 }

/-- R128: a receiver that has seen no delimiter; a count of 9 keeps a run of 1s with no 0 before it from closing one. -/
def Receiver.reset : Receiver :=
  { mode := .idle, ones := 9, bits := [], arrival := 0, inWindow := false, stepped := false }

/-- R132, R139: the chain controller under hard reset. -/
def Chain.reset : Chain :=
  { state := .held, timeout := 20, orphan := 30, autoRelease := false, line := LineCounters.zero, step := .polls,
    cursor := 0, pointer := 30, chosen := none, svc := none, tx := none, cut := none, lineBase := 0, reportEnd := none, rx := Receiver.reset,
    silenceStart := 0, liveStart := none, lastDelim := none }

/-- R170: the management port under hard reset. -/
def Port.reset : Port :=
  { slot := .empty, pendingShown := false, deferred := none, errors := 0, losses := 0, reading := none,
    sdo := [] }

/-- R171: attention under hard reset. -/
def Attention.reset : Attention :=
  { causes := CauseSet.none, mask := CauseSet.all, mode := .level, pulse := none }

/-- R173: the store as it leaves the factory, all banks erased. -/
def Store.reset : Store :=
  { banks := Vector.replicate 4 [], op := none, startBank := 0, startOk := false }

/-- The part at power-up, with RESET asserted, the banks erased, the INHIBIT pin low and no command waiting (R28, R71,
R86, R104, R118, R132, R170, R171, R176). -/
def State.reset : State :=
  { tb := ⟨0, 0, 0⟩, cycle := 0, readings := [], resetPin := true, inhibit := false, lastEdge := none,
    slots := Vector.replicate 4 ⟨.empty, 0, 0⟩, latest := none, servo := Servo.reset, civil := Civil.reset,
    entries := Vector.replicate 64 (Entry.vacantAt 0), mgmtNotices := [], outs := Vector.replicate 16 Output.builtIn,
    chain := Chain.reset, stations := Vector.replicate 30 Station.cleared, arrivals := [], port := Port.reset,
    attn := Attention.reset, store := Store.reset, pending := [] }

end Sys2Proof.Machine
end

