-- ==== Sys2Proof/Machine/Operands.lean ====
section
/-! DEFINITION. What the commands read from the records and from their own fields: the mark arithmetic of chapter 2,
the clamps of R36 and R110, the labels of chapter 3, names, handles and enumerations. -/

namespace Sys2Proof.Machine

open Sys2Proof Config

/-- R74: T in whole ns. -/
def State.now (s : State) : Nat := s.tb.seconds * second + s.tb.ns

/-! ## Marks (R31 to R34) -/

/-- R31: the whole period of a rate. -/
def wholePeriod (num den : Nat) : Nat := den * second / num

/-- R32: N(k), the nominal instant of mark `k`. -/
def nominal (num den k : Nat) : Nat := ceilDiv (k * den * second) num

/-- R34: k(T) under a phase and a carried offset: the largest index with A(k) ≤ T, or −1. -/
def indexAt (num den : Nat) (phi eps t : Int) : Int :=
  if t - phi - eps < 0 then -1 else (t - phi - eps) * num / (den * second)

/-- R34: the first mark strictly after `t`. -/
def firstAfter (num den : Nat) (phi eps t : Int) : Nat := (indexAt num den phi eps t + 1).toNat

/-- R34: the first mark at or after `t`. -/
def firstFrom (num den : Nat) (phi eps t : Int) : Nat := firstAfter num den phi eps (t - 1)

/-- R33: A(k) with the offset as it stands. -/
def Entry.applied (e : Entry) (k : Nat) : Int := nominal e.num e.den k + e.phi + e.eps

/-- R12, R13: the index of the entry's next mark, `ks` before the start and `kl + 1` after it. -/
def Entry.nextMark (e : Entry) : Nat :=
  match e.motion, e.kl with
  | .pending, _ => e.ks.getD 0
  | _, some k => k + 1
  | _, none => 0

/-- R52: the offset with which mark `k` will be emitted if no event reaches the entry before it. -/
def Entry.projected (e : Entry) (k : Nat) : Int :=
  match e.motion with
  | .slewing =>
    let left : Int := max ((e.eps.natAbs : Int) - ((k - e.nextMark) * e.slew : Nat)) 0
    if e.eps < 0 then -left else left
  | _ => e.eps

/-- R52, R153: A(k) with the projected offset. -/
def Entry.foreseen (e : Entry) (k : Nat) : Int := nominal e.num e.den k + e.phi + e.projected k

/-- R153, R154, R156: A(kr) of a report: with the projected offset for a mark yet to come, and the instant at which it was
emitted, Lm, for mark kl, which the report has waited past. DEDUCED (log entry 66): of a mark before kl the model keeps no
instant and takes Lm, which is no earlier; no countdown from there reaches 2,000 ns either. -/
def Entry.reportInstant (e : Entry) (k : Nat) : Int :=
  if e.nextMark ≤ k then e.foreseen k else e.lm.getD (e.foreseen k)

/-- R37: the first mark of an entry that waits to start, at reference instant `r`. -/
def startMark (num den : Nat) (phi r : Int) : Nat := firstFrom num den phi 0 (r + startGuard)

/-- R36: the range of a carried offset. -/
def inOffsetRange (x : Int) : Bool := (-(2 : Int) ^ 63 ≤ x) && (x ≤ (2 : Int) ^ 63 - 1)

/-- R44: the motion a carried offset gives under policy SLEW. -/
def slewMotion (range : Nat) (eps : Int) : Motion :=
  if eps = 0 then .running else if eps.natAbs ≤ range then .slewing else .held

/-- R45: the motion a carried offset gives under policy HOLD. -/
def holdMotion (eps : Int) : Motion := if eps = 0 then .running else .held

/-- R40: ε after one move toward 0 by min(|ε|, s). -/
def slewMove (eps : Int) (s : Nat) : Int :=
  if eps < 0 then eps + (min eps.natAbs s : Nat) else eps - (min eps.natAbs s : Nat)

/-- The state that shows a motion. -/
def Motion.toState : Motion → EntryState
  | .pending => .pending
  | .running => .running
  | .slewing => .slewing
  | .held => .held

/-- R9: a change of motion; the state follows unless the entry is ENDING. -/
def Entry.withMotion (e : Entry) (m : Motion) : Entry :=
  { e with motion := m, state := if e.state = .ending then .ending else m.toState }

/-! ## Clamps (R36, R110) -/

/-- R36: the limits of φ at whole period `pf`. -/
def clampPhase (pf : Nat) (x : Int) : Int := clampInt (-((pf : Int) - 1)) ((pf : Int) - 1) x

/-- R36: the limits of the slew step at whole period `pf`. -/
def clampSlew (pf x : Nat) : Nat := clampNat 1 (pf / 4) x

/-- R110: the delay of a bound output. -/
def clampDelay (d pf x : Nat) : Nat := clampNat 0 (d * pf - 1) x

/-- R110: the width of a bound output. -/
def clampWidth (d pf x : Nat) : Nat := clampNat 8 (d * pf / 2) x

/-- R110: delay and width of an output clamped against the whole period of its entry. -/
def Output.fitTo (o : Output) (pf : Nat) : Output :=
  { o with delay := clampDelay o.divider pf o.delay, width := clampWidth o.divider pf o.width }

/-- R110: delay and width of an unbound output clamped to the limits of R106. -/
def Output.fitFree (o : Output) : Output :=
  { o with delay := clampNat 0 freeDelay o.delay, width := clampNat 8 freeWidth o.width }

/-- R151: the least stream step that keeps reports 1 ms apart. -/
def leastStep (pf : Nat) : Nat := ceilDiv 1000000 pf

/-! ## Labels (R64 to R67) -/

/-- R64: labels per second. -/
def labelsPerSecond (num den : Nat) : Nat := ceilDiv num den

/-- R64: the drop count of a rate that allows DROP. -/
def dropCount (num den : Nat) : Option Nat :=
  if num * 1001 = 30000 * den then some 2 else if num * 1001 = 60000 * den then some 4 else none

/-- R64: the label mode stored when `m` is asked for at a rate. -/
def degrade (m : LabelMode) (num den : Nat) : LabelMode :=
  match m with
  | .none => .none
  | .count => if labelsPerSecond num den ≤ 120 then .count else .none
  | .drop =>
    if (dropCount num den).isSome then .drop
    else if labelsPerSecond num den ≤ 120 then .count else .none

/-- R65, R67: the start count of a jam whose civil second is `c`. -/
def jamCount (m : LabelMode) (num den c : Nat) : Int :=
  let nL := labelsPerSecond num den
  match m with
  | .drop =>
    let d := (dropCount num den).getD 0
    let mt := c / 60
    (nL * c : Int) - d * (mt - mt / 10 : Nat) + (if c % 60 = 0 ∧ mt % 10 ≠ 0 then (d : Int) else 0)
  | _ => nL * c

/-- R66: the frame number of a label count under drop `d`. -/
def frameNumber (nL d : Nat) (nc : Int) : Int :=
  let block : Int := 600 * nL - 9 * d
  let q := nc / block
  let r := nc % block
  if r < d then nc + 9 * d * q else nc + 9 * d * q + d * ((r - d) / (60 * nL - d))

/-- R65, R66: the label of count `nc`. -/
def labelOf (m : LabelMode) (num den : Nat) (nc : Int) : Label :=
  let nL := labelsPerSecond num den
  let f : Int := match m with
    | .drop => frameNumber nL ((dropCount num den).getD 0) nc
    | _ => nc
  { hh := ((f / (3600 * nL)) % 24).toNat, mm := ((f / (60 * nL)) % 60).toNat, ss := ((f / nL) % 60).toNat,
    ff := (f % nL).toNat, drop := m = .drop }

/-- R62: the label of mark `k` under a base. -/
def Entry.labelUnder (e : Entry) (b : Base) (k : Nat) : Label :=
  labelOf e.label e.num e.den (b.nj + ((k : Int) - b.kb))

/-- R63: the label of mark `k`, from the next base at or above kb′ and from the current base below it. -/
def Entry.labelAt (e : Entry) (k : Nat) : Option Label :=
  match e.label, e.base with
  | .none, _ => none
  | _, none => none
  | _, some b =>
    match e.next with
    | some b' => if b'.kb ≤ k then some (e.labelUnder b' k) else some (e.labelUnder b k)
    | none => some (e.labelUnder b k)

/-- R52, R68: the label of mark `k` from the current base alone. -/
def Entry.labelUnprojected (e : Entry) (k : Nat) : Option Label :=
  match e.label, e.base with
  | .none, _ => none
  | _, none => none
  | _, some b => some (e.labelUnder b k)

/-- R55: the civil second of the day of timebase second `t` under offset `o`. -/
def civilSecond (t : Nat) (o : Int) : Nat := (((t : Int) + o) % 86400).toNat

/-- R58: the most recent daily jam second at or before instant `r` ns, or the origin. -/
def recentDaily (o : Int) (j r : Nat) : Nat :=
  let sec := r / second
  ((sec : Int) - (((sec : Int) + o - j) % 86400)).toNat

/-- R59: the next jam instant. -/
def Civil.nextJam (c : Civil) : Nat :=
  let daily := c.tB + 1 + (((c.jam : Int) - c.offset - c.tB - 1) % 86400).toNat
  match c.pending with
  | some (_, eo) => min daily eo
  | none => daily

/-- R59: the offset in force after the jam at tn: O′ when it is a leap jam. -/
def Civil.offsetAfter (c : Civil) : Int :=
  match c.pending with
  | some (o', eo) => if eo = c.tn then o' else c.offset
  | none => c.offset

/-- R62: the base that belongs to a jam at second `tj` whose civil second is `cs`. -/
def Entry.baseAt (e : Entry) (tj cs : Nat) : Base :=
  { kb := firstFrom e.num e.den 0 0 (tj * second), nj := jamCount e.label e.num e.den cs }

/-- R62: the current base of a labelled entry, from tB. -/
def Entry.currentBase (e : Entry) (c : Civil) : Base := e.baseAt c.tB (civilSecond c.tB c.offset)

/-- R63: the next base of a labelled entry, from tn. -/
def Entry.nextBase (e : Entry) (c : Civil) : Base := e.baseAt c.tn (civilSecond c.tn c.offsetAfter)

/-- R62, R63: both bases computed anew; an entry whose label mode is NONE holds none. -/
def Entry.withBases (e : Entry) (c : Civil) : Entry :=
  if e.label = .none then { e with base := none, next := none }
  else { e with base := some (e.currentBase c), next := some (e.nextBase c) }

/-- R63: the next base computed anew. -/
def Entry.withNextBase (e : Entry) (c : Civil) : Entry :=
  if e.label = .none then { e with next := none } else { e with next := some (e.nextBase c) }

/-! ## Request fields (R4, R166) -/

/-- R166: a rate that is refused. -/
def badRate (num den : Nat) : Bool := den = 0 || 1001 < den || num < den || 240000 * den < num

/-- R4: a name field that is refused where length 0 is allowed. -/
def badName (nm : List Byte) : Bool := 12 < nm.length || nm.any fun c => c < 0x20#8 || 0x7E#8 < c

/-- R4: the name a field gives; a field of length 0 carries none. -/
def nameField (nm : List Byte) : Option (List Byte) := if nm = [] then none else some nm

/-- R178: the policies in the order of R2. -/
def policyOf : Nat → Option Policy
  | 0 => some .snap
  | 1 => some .slew
  | 2 => some .hold
  | _ => none

/-- R178: the label modes in the order of R2. -/
def labelModeOf : Nat → Option LabelMode
  | 0 => some .none
  | 1 => some .count
  | 2 => some .drop
  | _ => none

/-- R178: the polarities in the order of R106. -/
def polarityOf : Nat → Option Polarity
  | 0 => some .activeHigh
  | 1 => some .activeLow
  | _ => none

/-- R178: the attention modes in the order of R171. -/
def attnModeOf : Nat → Option AttnMode
  | 0 => some .level
  | 1 => some .pulse
  | _ => none

/-- An optional enumeration field that names no value (R166). -/
def badCode {α : Type} (f : Nat → Option α) : Option Nat → Bool
  | some c => (f c).isNone
  | none => false

/-- An instant field as ns, its ns part brought to 999,999,999 when above, and whether that was needed. -/
def instantNs (e : Instant) : Nat × Bool :=
  (e.sec * second + min e.ns 999999999, decide (999999999 < e.ns))

/-- The handle of entry `i` at generation `g`. -/
def handleOf (i : Idx) (g : BitVec 8) : Handle := ⟨i.val, g⟩

/-- The reference as a handle. -/
def EntryRef.handle (r : EntryRef) : Handle := handleOf r.index r.gen

/-- R3: the handle check. -/
def checkHandle (s : State) (h : Handle) : Except Status Idx :=
  if hi : h.index < 64 then
    let e := s.entries[h.index]
    if e.gen ≠ h.gen then .error .stale
    else if e.state = .vacant then .error .notFound
    else .ok ⟨h.index, hi⟩
  else .error .badField

/-- R163: authority over an entry. -/
def authority (l : Link) (e : Entry) : Bool := l = .mgmt || l = e.owner

/-- R166: the values of an entry that a CREATE or SET may have clamped or degraded. -/
def Entry.storedView (e : Entry) : StoredView := ⟨e.phi, e.slew, e.label⟩

/-- R168: OK, or CLAMPED when any value was clamped or degraded. -/
def okOr (clamped : Bool) : Status := if clamped then .clamped else .ok

/-! ## Search -/

/-- The least `j` in `lo..hi` with `p j`, for a `p` that stays true once true and holds at `hi`; `fuel` halvings. -/
def searchLeast (p : Nat → Bool) : Nat → Nat → Nat → Nat
  | 0, _, hi => hi
  | fuel + 1, lo, hi =>
    if hi ≤ lo then hi
    else if p ((lo + hi) / 2) then searchLeast p fuel lo ((lo + hi) / 2)
    else searchLeast p fuel ((lo + hi) / 2 + 1) hi

end Sys2Proof.Machine
end

