-- ==== Sys2Proof/Machine/Flags.lean ====
section
/-! DEFINITION. The figures and flags other parts of the model read: the quality class (R89), the attention causes and
the ATTN pin (R171), the state of an output (R107), the levels of the TO pins, and the counts of stations (R138). -/

namespace Sys2Proof.Machine

open Sys2Proof Config

/-- R171: whether a cause is in a set. -/
def CauseSet.has (c : CauseSet) : Cause → Bool
  | .servo => c.servo
  | .chain => c.chain
  | .stations => c.stations
  | .entries => c.entries
  | .store => c.store

/-- A set with one cause put in or taken out. -/
def CauseSet.put (c : CauseSet) (b : Bool) : Cause → CauseSet
  | .servo => { c with servo := b }
  | .chain => { c with chain := b }
  | .stations => { c with stations := b }
  | .entries => { c with entries := b }
  | .store => { c with store := b }

/-- R171: whether two sets share a cause. -/
def CauseSet.meets (c m : CauseSet) : Bool :=
  (c.servo && m.servo) || (c.chain && m.chain) || (c.stations && m.stations) || (c.entries && m.entries)
    || (c.store && m.store)

/-- R178: a cause set as an octet. -/
def CauseSet.toByte (c : CauseSet) : Byte :=
  (if c.servo then 1 else 0) ||| (if c.chain then 2 else 0) ||| (if c.stations then 4 else 0)
    ||| (if c.entries then 8 else 0) ||| (if c.store then 16 else 0)

/-- R178: the cause set an octet gives. -/
def CauseSet.ofByte (b : Byte) : CauseSet :=
  ⟨b.getLsbD 0, b.getLsbD 1, b.getLsbD 2, b.getLsbD 3, b.getLsbD 4⟩

/-- R171: a cause is raised. One already present changes nothing; an addition of a masked cause in PULSE mode starts the
pulse anew. -/
def State.raise (c : Cause) (s : State) : State :=
  if s.attn.causes.has c then s
  else { s with attn := { s.attn with
          causes := s.attn.causes.put true c
          pulse := if s.attn.mode = .pulse ∧ s.attn.mask.has c then some s.cycle else s.attn.pulse } }

/-- R171: ATTN is asserted. -/
def State.attnAsserted (s : State) : Bool :=
  match s.attn.mode with
  | .level => s.attn.causes.meets s.attn.mask
  | .pulse => s.attn.pulse.isSome

/-- R171: the mask and mode take new values; a change between LEVEL and PULSE ends any pulse. -/
def State.setAttention (mode : AttnMode) (mask : CauseSet) (s : State) : State :=
  { s with attn := { s.attn with mode := mode, mask := mask,
                                 pulse := if mode = s.attn.mode then s.attn.pulse else none } }

/-- R99: the cycles of holdover age. -/
def State.ageCycles (s : State) : Nat :=
  match s.servo.ageStart with
  | some c => s.cycle - c
  | none => 0

/-- R99: the holdover age as STATUS shows it. -/
def State.ageSeconds (s : State) : Nat := min 4294967295 (s.ageCycles / cyclesPerSecond)

/-- R89: the quality class. -/
def State.quality (s : State) : Nat :=
  match s.servo.state with
  | .locked => 0
  | .acquire => 1
  | .holdover => if s.ageCycles ≤ s.servo.params.ageLimit * cyclesPerSecond then 2 else 3
  | .free => 4

/-- R90: the SERVO cause is raised when the quality class has changed since it was last reported. -/
def State.noteClass (s : State) : State :=
  if s.quality = s.servo.noted then s
  else State.raise .servo { s with servo := { s.servo with noted := s.quality } }

/-- Whether an output is bound to entry `i`. -/
def Output.boundTo (o : Output) (i : Idx) : Bool := o.binding.any fun r => r.index = i

/-- R107: the state of an output. -/
def State.outputState (s : State) (o : Output) : OutputState :=
  if o.enabled then
    match o.binding with
    | none => .unbound
    | some r => if s.entries[r.index].motion = .pending then .waiting else .driving
  else .disabled

/-- R107, R111: the level of a TO pin, true for high. -/
def State.pinHigh (s : State) (o : OutNo) : Bool :=
  let r := s.outs[o]
  let active := r.inProgress.isSome && !s.inhibit
  match r.polarity with
  | .activeHigh => active
  | .activeLow => !active

/-- How many stations are in state `k`. -/
def State.stationCount (s : State) (k : StationState) : Nat :=
  ((List.finRange 30).filter fun x => s.stations[x].state = k).length

/-- R138: the number of stations in each state. -/
def State.stationCounts (s : State) : StationCounts :=
  ⟨s.stationCount .absent, s.stationCount .joining, s.stationCount .present, s.stationCount .silent,
   s.stationCount .conflict⟩

/-- R128: the length in cycles of the live run in progress, if there is one. -/
def State.liveRun (s : State) : Option Nat :=
  match s.chain.liveStart, s.chain.lastDelim with
  | some a, some d => if s.cycle - d ≤ liveGap then some (s.cycle - a) else none
  | _, _ => none

end Sys2Proof.Machine
end

