-- ==== Sys2Proof/Machine/Formats.lean ====
section
/-! DEFINITION. The layouts of chapter 11 and the line coding of chapter 7: fields, request bodies, result bodies, chain
frames with their check and transparency, and SPI transactions. -/

namespace Sys2Proof.Machine

open Sys2Proof Config

/-! ## Numbers as octets (R178) -/

/-- A number in `w` octets, least significant first. -/
def leOctets : Nat → Nat → List Byte
  | 0, _ => []
  | w + 1, x => BitVec.ofNat 8 x :: leOctets w (x / 256)

/-- The number that octets give, least significant first. -/
def leValue : List Byte → Nat
  | [] => 0
  | b :: bs => b.toNat + 256 * leValue bs

/-- A signed number in `w` octets, two's complement. -/
def leSigned (w : Nat) (x : Int) : List Byte := leOctets w (x % (2 ^ (8 * w) : Nat)).toNat

/-- The signed number that `w` octets of value `v` give. -/
def signedOf (w v : Nat) : Int := if v < 2 ^ (8 * w - 1) then v else (v : Int) - (2 ^ (8 * w) : Nat)

/-- R178: an instant, seconds (6) then ns (4); an instant that the two fields cannot hold gives a free value (log entry
52). -/
def instantOctets (t : Int) : List Byte :=
  if 0 ≤ t ∧ t < wrapSpan then leOctets 6 (t.toNat / second) ++ leOctets 4 (t.toNat % second)
  else leOctets 10 (wideInstant t).toNat

/-- R178: a timebase second, six octets (log entry 13); one that they cannot hold gives a free value (log entry 65). -/
def secondOctets (t : Nat) : List Byte := if t < secondsWrap then leOctets 6 t else leOctets 6 (wideSecond t).toNat

/-- R178: an instant that is never below 0. -/
def timeOctets (t : Nat) : List Byte := instantOctets t

/-- R178: a flag. -/
def flagOctet (b : Bool) : Byte := if b then 1 else 0

/-- R178: a handle. -/
def handleOctets (h : Handle) : List Byte := [BitVec.ofNat 8 h.index, h.gen]

/-- R178: a name field; absence is length 0. -/
def nameOctets (n : Option (List Byte)) : List Byte :=
  match n with
  | none => [0]
  | some cs => BitVec.ofNat 8 cs.length :: cs

/-- R178: an optional field of a result, with its presence octet. -/
def optOctets {α : Type} (f : α → List Byte) : Option α → List Byte
  | none => [0]
  | some x => 1 :: f x

/-- R178: a label; FFh in all four octets means absent. -/
def labelOctets : Option Label → List Byte
  | none => [0xFF, 0xFF, 0xFF, 0xFF]
  | some l => [BitVec.ofNat 8 l.hh, BitVec.ofNat 8 l.mm, BitVec.ofNat 8 l.ss,
               BitVec.ofNat 8 l.ff ||| (if l.drop then 0x80 else 0)]

/-- An offset θ in eight octets; outside the signed 64-bit range the octets are a free value (log entry 15). -/
def offsetOctets (x : Int) : List Byte :=
  if inOffsetRange x then leSigned 8 x else leOctets 8 (wideOffset x).toNat

/-! ## Enumerations (R178) -/

/-- R178: entry states. -/
def EntryState.code : EntryState → Byte
  | .vacant => 0 | .pending => 1 | .running => 2 | .slewing => 3 | .held => 4 | .ending => 5

/-- R178: policies. -/
def Policy.code : Policy → Byte
  | .snap => 0 | .slew => 1 | .hold => 2

/-- R178: label modes. -/
def LabelMode.code : LabelMode → Byte
  | .none => 0 | .count => 1 | .drop => 2

/-- R178: servo states, in the order of R88. -/
def ServoState.code : ServoState → Byte
  | .free => 0 | .acquire => 1 | .locked => 2 | .holdover => 3

/-- R178: polarities. -/
def Polarity.code : Polarity → Byte
  | .activeHigh => 0 | .activeLow => 1

/-- R178: output states, in the order of R107. -/
def OutputState.code : OutputState → Byte
  | .disabled => 0 | .unbound => 1 | .waiting => 2 | .driving => 3

/-- R178: chain states, in the order of R129. -/
def ChainState.code : ChainState → Byte
  | .held => 0 | .running => 1 | .broken => 2

/-- R178: station states, in the order of R133. -/
def StationState.code : StationState → Byte
  | .absent => 0 | .joining => 1 | .present => 2 | .silent => 3 | .conflict => 4

/-- R178: stream states, in the order of R150. -/
def StreamState.code : StreamState → Byte
  | .active => 0 | .suspended => 1

/-- R178: what a slot holds, in the order of R167. -/
def SlotKind.code : SlotKind → Byte
  | .empty => 0 | .request => 1 | .result => 2

/-- R178: attention modes. -/
def AttnMode.code : AttnMode → Byte
  | .level => 0 | .pulse => 1

/-- R178: store operations, in the order of R173. -/
def OpKind.code : OpKind → Byte
  | .save => 0 | .load => 1 | .startBank => 2

/-- R178: status codes. -/
def Status.code : Status → Byte
  | .ok => 0x00 | .clamped => 0x01 | .partially => 0x02 | .busy => 0x10 | .stale => 0x11 | .notOwner => 0x12
  | .notPermitted => 0x13 | .full => 0x14 | .nameTaken => 0x15 | .notFound => 0x16 | .badField => 0x17
  | .unknown => 0x18 | .noCapture => 0x19 | .sampleStale => 0x1A | .duplicate => 0x1B | .ignored => 0x1C
  | .storeFault => 0x1D

/-- R178: the request codes; RETIRE and CHAIN keep one code for all their rows. -/
def requestCode : Req → Byte
  | .find _ => 0x01 | .read _ => 0x02 | .list _ => 0x03 | .next _ _ => 0x04 | .stations _ => 0x05 | .notices => 0x06
  | .create _ => 0x10 | .set _ => 0x11 | .realign _ => 0x12 | .retire _ => 0x13 | .retireWithEnd _ _ => 0x13
  | .watch _ => 0x14 | .unwatch _ => 0x15 | .stream _ _ _ => 0x16 | .unstream => 0x17
  | .sample _ => 0x20 | .servo _ => 0x21 | .civil _ => 0x22 | .bind _ => 0x23 | .chain _ _ => 0x24
  | .chainHold _ => 0x24 | .chainRelease _ => 0x24 | .save _ => 0x25 | .load _ => 0x26 | .reset => 0x27
  | .status _ _ => 0x28

/-- R164: the codes of the management-only requests. -/
def managementOnly (c : Byte) : Bool := 0x20#8 ≤ c && c ≤ 0x28#8

/-- R164: the codes of the requests that belong to the stations. -/
def stationOnly (c : Byte) : Bool := c = 0x16#8 || c = 0x17#8

/-- R178: the codes of the request table. -/
def knownCode (c : Byte) : Bool :=
  (0x01#8 ≤ c && c ≤ 0x06#8) || (0x10#8 ≤ c && c ≤ 0x17#8) || (0x20#8 ≤ c && c ≤ 0x28#8)

/-! ## Reading a request body (R165, R178) -/

/-- An unsigned field of `w` octets. -/
def rdNat (w : Nat) (b : List Byte) : Option (Nat × List Byte) :=
  if b.length < w then none else some (leValue (b.take w), b.drop w)

/-- A signed field of `w` octets. -/
def rdInt (w : Nat) (b : List Byte) : Option (Int × List Byte) :=
  (rdNat w b).map fun (v, r) => (signedOf w v, r)

/-- A flag: 0 or 1 (log entry 8 for any other octet). -/
def rdFlag (b : List Byte) : Option (Bool × List Byte) :=
  match b with
  | x :: r => if x = 0 then some (false, r) else if x = 1 then some (true, r) else none
  | [] => none

/-- An octet. -/
def rdByte (b : List Byte) : Option (Byte × List Byte) :=
  match b with
  | x :: r => some (x, r)
  | [] => none

/-- A handle. -/
def rdHandle (b : List Byte) : Option (Handle × List Byte) :=
  match b with
  | i :: g :: r => some (⟨i.toNat, g⟩, r)
  | _ => none

/-- A name field: a length octet, then so many characters. -/
def rdName (b : List Byte) : Option (List Byte × List Byte) :=
  match b with
  | n :: r => if r.length < n.toNat then none else some (r.take n.toNat, r.drop n.toNat)
  | [] => none

/-- A rate: num (4), den (2). -/
def rdRate (b : List Byte) : Option ((Nat × Nat) × List Byte) := do
  let (n, b) ← rdNat 4 b
  let (d, b) ← rdNat 2 b
  some ((n, d), b)

/-- A field that is present when its mask bit is set. -/
def rdOpt {α : Type} (present : Bool) (rd : List Byte → Option (α × List Byte)) (b : List Byte) :
    Option (Option α × List Byte) :=
  if present then (rd b).map fun (x, r) => (some x, r) else some (none, b)

/-- The whole body has been read. -/
def rdEnd {α : Type} (x : α) (b : List Byte) : Option α := if b = [] then some x else none

/-- A body that is one handle. -/
def rdOneHandle (f : Handle → Req) (b : List Byte) : Option Req := do
  let (h, b) ← rdHandle b
  rdEnd (f h) b

/-- CREATE: rate, mask, then the masked fields of R165. -/
def rdCreate (b : List Byte) : Option Req := do
  let ((num, den), b) ← rdRate b
  let (m, b) ← rdNat 1 b
  let (name, b) ← rdOpt (m.testBit 0) rdName b
  let (phi, b) ← rdOpt (m.testBit 1) (rdInt 4) b
  let (policy, b) ← rdOpt (m.testBit 2) (rdNat 1) b
  let (slew, b) ← rdOpt (m.testBit 3) (rdNat 4) b
  let (label, b) ← rdOpt (m.testBit 4) (rdNat 1) b
  rdEnd (.create ⟨num, den, name, phi, policy, slew, label⟩) b

/-- SET: handle, mask, then the masked fields of R165. -/
def rdSet (b : List Byte) : Option Req := do
  let (h, b) ← rdHandle b
  let (m, b) ← rdNat 1 b
  let (rate, b) ← rdOpt (m.testBit 0) rdRate b
  let (phi, b) ← rdOpt (m.testBit 1) (rdInt 4) b
  let (policy, b) ← rdOpt (m.testBit 2) (rdNat 1) b
  let (slew, b) ← rdOpt (m.testBit 3) (rdNat 4) b
  let (label, b) ← rdOpt (m.testBit 4) (rdNat 1) b
  let (name, b) ← rdOpt (m.testBit 5) rdName b
  rdEnd (.set ⟨h, rate, phi, policy, slew, label, name⟩) b

/-- RETIRE: handle, then the end instant behind its presence octet. -/
def rdRetire (b : List Byte) : Option Req := do
  let (h, b) ← rdHandle b
  let (p, b) ← rdFlag b
  if p then
    let (sec, b) ← rdNat 6 b
    let (ns, b) ← rdNat 4 b
    rdEnd (.retireWithEnd h ⟨sec, ns⟩) b
  else rdEnd (.retire h) b

/-- STREAM: handle, step, lead. -/
def rdStream (b : List Byte) : Option Req := do
  let (h, b) ← rdHandle b
  let (d, b) ← rdNat 2 b
  let (lead, b) ← rdNat 4 b
  rdEnd (.stream h d lead) b

/-- SAMPLE: seq, network seconds, network ns, grade. -/
def rdSample (b : List Byte) : Option Req := do
  let (seq, b) ← rdByte b
  let (sec, b) ← rdNat 6 b
  let (ns, b) ← rdNat 4 b
  let (grade, b) ← rdNat 1 b
  rdEnd (.sample ⟨seq, sec, ns, grade⟩) b

/-- SERVO: a mask of two octets, then the masked parameters of R100. -/
def rdServo (b : List Byte) : Option Req := do
  let (m, b) ← rdNat 2 b
  let (sth, b) ← rdOpt (m.testBit 0) (rdNat 4) b
  let (lockWin, b) ← rdOpt (m.testBit 1) (rdNat 4) b
  let (lockCount, b) ← rdOpt (m.testBit 2) (rdNat 1) b
  let (unlockWin, b) ← rdOpt (m.testBit 3) (rdNat 4) b
  let (persist, b) ← rdOpt (m.testBit 4) (rdNat 1) b
  let (kp, b) ← rdOpt (m.testBit 5) (rdNat 2) b
  let (ki, b) ← rdOpt (m.testBit 6) (rdNat 2) b
  let (limit, b) ← rdOpt (m.testBit 7) (rdNat 4) b
  let (timeout, b) ← rdOpt (m.testBit 8) (rdNat 1) b
  let (ageLimit, b) ← rdOpt (m.testBit 9) (rdNat 4) b
  let (minGrade, b) ← rdOpt (m.testBit 10) (rdNat 1) b
  let (slewRange, b) ← rdOpt (m.testBit 11) (rdNat 4) b
  rdEnd (.servo ⟨sth, lockWin, lockCount, unlockWin, persist, kp, ki, limit, timeout, ageLimit, minGrade, slewRange⟩) b

/-- CIVIL: mask, offset, jam time, pending action, and for SET the new offset and its instant. -/
def rdCivil (b : List Byte) : Option Req := do
  let (m, b) ← rdNat 1 b
  let (off, b) ← rdOpt (m.testBit 0) (rdInt 4) b
  let (jam, b) ← rdOpt (m.testBit 1) (rdNat 4) b
  let (act, b) ← rdNat 1 b
  match act with
  | 0 => rdEnd (.civil ⟨off, jam, .keep⟩) b
  | 1 =>
    let (o', b) ← rdInt 4 b
    let (eo, b) ← rdNat 6 b
    rdEnd (.civil ⟨off, jam, .set o' eo⟩) b
  | 2 => rdEnd (.civil ⟨off, jam, .cancel⟩) b
  | c => some (.civil ⟨off, jam, .other c⟩)

/-- The fields of BIND after its binding action. -/
def rdBindTail (o : Nat) (a : BindAction) (b : List Byte) : Option Req := do
  let (m, b) ← rdNat 1 b
  let (en, b) ← rdOpt (m.testBit 0) rdFlag b
  let (dv, b) ← rdOpt (m.testBit 1) (rdNat 2) b
  let (dl, b) ← rdOpt (m.testBit 2) (rdNat 6) b
  let (wd, b) ← rdOpt (m.testBit 3) (rdNat 6) b
  let (pol, b) ← rdOpt (m.testBit 4) (rdNat 1) b
  let (clear, b) ← rdFlag b
  rdEnd (.bind ⟨o, a, en, dv, dl, wd, pol, clear⟩) b

/-- BIND: output, binding action (with a handle for BIND), mask, masked fields, clear flag. -/
def rdBind (b : List Byte) : Option Req := do
  let (o, b) ← rdNat 1 b
  let (act, b) ← rdNat 1 b
  match act with
  | 0 => rdBindTail o .keep b
  | 1 =>
    let (h, b) ← rdHandle b
    rdBindTail o (.bind h) b
  | 2 => rdBindTail o .unbind b
  | c => some (.bind ⟨o, .other c, none, none, none, none, none, false⟩)

/-- CHAIN: action, mask, masked settings. -/
def rdChain (b : List Byte) : Option Req := do
  let (act, b) ← rdNat 1 b
  let (m, b) ← rdNat 1 b
  let (timeout, b) ← rdOpt (m.testBit 0) (rdNat 1) b
  let (orphan, b) ← rdOpt (m.testBit 1) (rdNat 2) b
  let (auto, b) ← rdOpt (m.testBit 2) rdFlag b
  match act with
  | 0 => rdEnd (.chain .keep ⟨timeout, orphan, auto⟩) b
  | 1 => rdEnd (.chainHold ⟨timeout, orphan, auto⟩) b
  | 2 => rdEnd (.chainRelease ⟨timeout, orphan, auto⟩) b
  | c => rdEnd (.chain (.other c) ⟨timeout, orphan, auto⟩) b

/-- STATUS: clear flag, attention action, and for SET a mask and a mode. -/
def rdStatus (b : List Byte) : Option Req := do
  let (clear, b) ← rdFlag b
  let (act, b) ← rdNat 1 b
  match act with
  | 0 => rdEnd (.status clear .keep) b
  | 1 =>
    let (mask, b) ← rdByte b
    let (mode, b) ← rdNat 1 b
    rdEnd (.status clear (.set mask mode)) b
  | c => some (.status clear (.other c))

/-- The fields of the request of a known code. -/
def rdFields (code : Byte) (b : List Byte) : Option Req :=
  match code.toNat with
  | 0x01 => do let (n, b) ← rdName b; rdEnd (.find n) b
  | 0x02 => rdOneHandle .read b
  | 0x03 => do let (n, b) ← rdNat 1 b; rdEnd (.list n) b
  | 0x04 => do let (h, b) ← rdHandle b; let (n, b) ← rdNat 4 b; rdEnd (.next h n) b
  | 0x05 => do let (a, b) ← rdNat 1 b; rdEnd (.stations a) b
  | 0x06 => rdEnd .notices b
  | 0x10 => rdCreate b
  | 0x11 => rdSet b
  | 0x12 => rdOneHandle .realign b
  | 0x13 => rdRetire b
  | 0x14 => rdOneHandle .watch b
  | 0x15 => rdOneHandle .unwatch b
  | 0x16 => rdStream b
  | 0x17 => rdEnd .unstream b
  | 0x20 => rdSample b
  | 0x21 => rdServo b
  | 0x22 => rdCivil b
  | 0x23 => rdBind b
  | 0x24 => rdChain b
  | 0x25 => do let (n, b) ← rdNat 1 b; rdEnd (.save n) b
  | 0x26 => do let (n, b) ← rdNat 1 b; rdEnd (.load n) b
  | 0x27 => rdEnd .reset b
  | 0x28 => rdStatus b
  | _ => none

/-- What a body in a slot is found to be at acceptance (checks 1 and 3 of R162). -/
inductive Parsed where
  /-- The code names no request. -/
  | unknown (code : Byte) (t : Tag)
  /-- The code is known and the rest does not form a whole request. -/
  | malformed (code : Byte) (t : Tag)
  | whole (t : Tag) (r : Req)
  deriving DecidableEq, Repr

/-- R178: a request body is the code, the tag and the fields. A body with no tag octet is taken with tag 0 (log entry 9). -/
def parseBody (b : List Byte) : Parsed :=
  match b with
  | [] => .unknown 0 0
  | c :: rest =>
    match rest with
    | [] => if knownCode c then .malformed c 0 else .unknown c 0
    | t :: fields =>
      if knownCode c then
        match rdFields c fields with
        | some r => .whole t r
        | none => .malformed c t
      else .unknown c t

/-! ## Writing a result body (R178) -/

/-- R25: the fields of READ. -/
def entryOctets (i : Idx) (e : Entry) : List Byte :=
  handleOctets (handleOf i e.gen) ++ [e.state.code]
  ++ optOctets (fun m : EntryState => [m.code]) (if e.state = .ending then some e.motion.toState else none)
  ++ [BitVec.ofNat 8 e.owner.number] ++ nameOctets e.name ++ leOctets 4 e.num ++ leOctets 2 e.den ++ leOctets 4 e.pf
  ++ leSigned 4 e.phi ++ leSigned 8 e.eps ++ [e.policy.code] ++ leOctets 4 e.slew ++ [e.label.code]
  ++ optOctets (leOctets 8) (if e.motion = .pending then e.ks else none)
  ++ optOctets (leOctets 8) e.kl ++ optOctets timeOctets e.endAt
  ++ BitVec.ofNat 8 e.watchers.length :: e.watchers.map (fun x => BitVec.ofNat 8 (x.val + 1))
  ++ [flagOctet e.mgmtWatch, BitVec.ofNat 8 e.realigns]

/-- R150, R167: the fields of a stream. -/
def streamOctets (st : Stream) : List Byte :=
  handleOctets st.entry.handle ++ leOctets 2 st.step ++ leOctets 4 st.lead ++ [st.state.code]
  ++ optOctets (leOctets 8) st.kr ++ optOctets instantOctets st.s0
  ++ optOctets (leOctets 8) st.last ++ [BitVec.ofNat 8 st.skipped]

/-- R167: the fields of STATIONS. -/
def stationOctets (v : StationView) : List Byte :=
  [BitVec.ofNat 8 v.address, v.state.code]
  ++ optOctets (leOctets 4) v.delta ++ optOctets (leOctets 4) v.trip ++ optOctets timeOctets v.lastRange
  ++ flagOctet v.rangeDue :: optOctets timeOctets v.dueSince
  ++ [BitVec.ofNat 8 v.missed, BitVec.ofNat 8 v.garbled]
  ++ optOctets timeOctets v.silentSince ++ optOctets timeOctets v.conflictSince
  ++ [v.slot.code, flagOctet v.owed] ++ optOctets streamOctets v.stream ++ [BitVec.ofNat 8 v.owned]
  ++ BitVec.ofNat 8 v.watchList.length :: v.watchList.map (fun i => BitVec.ofNat 8 i.val)
  ++ [BitVec.ofNat 8 v.noticeCount]

/-- R52: the fields of NEXT. -/
def nextOctets (v : NextView) : List Byte :=
  handleOctets v.handle ++ [v.state.code]
  ++ optOctets (fun m : EntryState => [m.code]) (if v.state = .ending then some v.motion.toState else none)
  ++ leOctets 8 v.index ++ instantOctets v.instant ++ labelOctets v.label ++ [flagOctet v.afterEnd]

/-- R100: the twelve parameters. -/
def paramOctets (p : ServoParams) : List Byte :=
  leOctets 4 p.sth ++ leOctets 4 p.lockWin ++ leOctets 1 p.lockCount ++ leOctets 4 p.unlockWin ++ leOctets 1 p.persist
  ++ leOctets 2 p.kp ++ leOctets 2 p.ki ++ leOctets 4 p.limit ++ leOctets 1 p.timeout ++ leOctets 4 p.ageLimit
  ++ leOctets 1 p.minGrade ++ leOctets 4 p.slewRange

/-- R138: the counts of stations. -/
def countOctets (c : StationCounts) : List Byte :=
  leOctets 1 c.absent ++ leOctets 1 c.joining ++ leOctets 1 c.present ++ leOctets 1 c.silent ++ leOctets 1 c.conflict

/-- R127: the line counters. -/
def lineOctets (c : LineCounters) : List Byte :=
  leOctets 2 c.short ++ leOctets 2 c.format ++ leOctets 2 c.check ++ leOctets 2 c.abort ++ leOctets 2 c.broken
  ++ leOctets 2 c.unexpected ++ leOctets 2 c.rangeRejected ++ leOctets 2 c.lateReport

/-- R172: the fields of STATUS. -/
def statusOctets (v : StatusView) : List Byte :=
  [v.causes.toByte, v.mask.toByte, v.mode.code, v.servo.code] ++ leSigned 4 v.correction ++ leSigned 4 v.integral
  ++ leOctets 1 v.cls ++ leOctets 4 v.ageSeconds ++ optOctets offsetOctets v.lastOffset ++ leOctets 1 v.good
  ++ leOctets 1 v.outliers ++ leOctets 2 v.counters.accepted ++ leOctets 2 v.counters.ignored
  ++ leOctets 2 v.counters.outliers ++ leOctets 2 v.counters.steps ++ leOctets 2 v.counters.glitches
  ++ [v.chain.code] ++ lineOctets v.line ++ countOctets v.counts ++ leOctets 2 v.errors ++ leOctets 2 v.losses
  ++ optOctets (fun (k, b) => [k.code, BitVec.ofNat 8 b.val]) v.op ++ leOctets 1 v.startBank.val
  ++ [flagOctet v.startOk]

/-- R166: the values that a CREATE or SET stored, in the order R11 gives them. -/
def storedOctets (v : StoredView) : List Byte := leSigned 4 v.phi ++ leOctets 4 v.slew ++ [v.label.code]

/-- R178: the fields of a result. -/
def Body.octets : Body → List Byte
  | .empty => []
  | .handle h => handleOctets h
  | .created h v => handleOctets h ++ storedOctets v
  | .stored v => storedOctets v
  | .storedEnd e => timeOctets e
  | .storedStream step lead => leOctets 2 step ++ leOctets 4 lead
  | .entry i e => entryOctets i e
  | .handles hs more => BitVec.ofNat 8 hs.length :: (hs.map handleOctets).flatten ++ [flagOctet more]
  | .next v => nextOctets v
  | .station v => stationOctets v
  | .notices items more =>
    BitVec.ofNat 8 items.length :: (items.map fun (h, st) => handleOctets h ++ [st.code]).flatten ++ [flagOctet more]
  | .seq q => [q]
  | .sample v =>
    v.seq :: timeOctets v.captured ++ offsetOctets v.offset ++ [flagOctet v.stepped, v.servo.code]
    ++ leOctets 1 v.cls
  | .servo p st cls => paramOctets p ++ [st.code] ++ leOctets 1 cls
  | .civil v =>
    leSigned 4 v.offset ++ leOctets 4 v.jam ++ optOctets (fun (o, eo) => leSigned 4 o ++ leOctets 6 eo) v.pending
    ++ leOctets 6 v.tB ++ secondOctets v.tn
  | .output o st r =>
    [BitVec.ofNat 8 o.val, st.code, flagOctet r.enabled]
    ++ optOctets (fun b : EntryRef => handleOctets b.handle) r.binding ++ leOctets 2 r.divider ++ leOctets 6 r.delay
    ++ leOctets 6 r.width ++ [r.polarity.code] ++ optOctets (fun p : Polarity => [p.code]) r.pendingPol
    ++ leOctets 1 r.waiting.length ++ leOctets 2 r.skipped
  | .chain v =>
    [v.state.code] ++ leOctets 1 v.timeout ++ leOctets 2 v.orphan ++ [flagOctet v.autoRelease] ++ countOctets v.counts
  | .loaded hs skipped =>
    BitVec.ofNat 8 hs.length :: (hs.map handleOctets).flatten
    ++ BitVec.ofNat 8 skipped.length :: skipped.map (BitVec.ofNat 8)
  | .resetDone ok => [flagOctet ok]
  | .status v => statusOctets v

/-- R178: a result body is the request code, the tag, the status and the fields. -/
def Result.octets (r : Result) : List Byte := r.code :: r.tag :: r.status.code :: r.body.octets

/-! ## Bits, check and transparency (R122 to R126) -/

/-- An octet least significant bit first, as the chain sends it (R125). -/
def bitsLow (b : Byte) : List Bool := (List.range 8).map b.getLsbD

/-- An octet most significant bit first, as the SPI port sends it (R181). -/
def bitsHigh (b : Byte) : List Bool := (bitsLow b).reverse

/-- R126: one bit into the check register. -/
def checkStep (r : BitVec 16) (bit : Bool) : BitVec 16 :=
  if r.getLsbD 15 != bit then (r <<< 1) ^^^ 0x8005#16 else r <<< 1

/-- R126: the check of a run of bits. -/
def checkOf (bits : List Bool) : BitVec 16 := bits.foldl checkStep 0xFFFF#16

/-- The check top bit first (R126). -/
def checkBits (c : BitVec 16) : List Bool := ((List.range 16).map c.getLsbD).reverse

/-- The value of bits, least significant first. -/
def lowValue : List Bool → Nat
  | [] => 0
  | b :: bs => (if b then 1 else 0) + 2 * lowValue bs

/-- Octets from bits sent least significant bit first. -/
def octetsOf : Nat → List Bool → List Byte
  | 0, _ => []
  | n + 1, bits => BitVec.ofNat 8 (lowValue (bits.take 8)) :: octetsOf n (bits.drop 8)

/-- R124: content with a 0 inserted after every run of seven 1s; `run` is the run before it. -/
def stuff : Nat → List Bool → List Bool
  | _, [] => []
  | run, b :: bs =>
    if b then
      if run = 6 then true :: false :: stuff 0 bs else true :: stuff (run + 1) bs
    else false :: stuff 0 bs

/-- R123: the delimiter. -/
def delimiter : List Bool := [false, true, true, true, true, true, true, true, true, false]

/-- R179: the kind octets of outbound frames. -/
def FrameKind.code : FrameKind → Byte
  | .poll => 0x51 | .discover => 0x52 | .range => 0x53 | .report => 0x54

/-- The content bits of a frame before transparency: address, kind, body, check (R125, R126). -/
def contentBits (addr kind : Byte) (body : List Byte) : List Bool :=
  let data := ((addr :: kind :: body).map bitsLow).flatten
  data ++ checkBits (checkOf data)

/-- A frame as it stands on the line, delimiters included (R123 to R125). -/
def lineOf (addr kind : Byte) (body : List Byte) : List Bool :=
  delimiter ++ stuff 0 (contentBits addr kind body) ++ delimiter

/-- The octet of a station's address. -/
def addrByte (x : Addr) : Byte := BitVec.ofNat 8 (x.val + 1)

/-- R125: the length in bit periods of an outbound frame. -/
def frameBits (k : FrameKind) (x : Addr) (body : List Byte) : Nat := (lineOf (addrByte x) k.code body).length

/-! ## Writing a request body (R165, R178) -/

/-- An optional field of a masked request: nothing when it is absent. -/
def maskedOctets {α : Type} (f : α → List Byte) : Option α → List Byte
  | none => []
  | some x => f x

/-- R178: a field mask in `w` octets, bit i for the i-th optional field. -/
def maskOctets (w : Nat) (present : List Bool) : List Byte := leOctets w (lowValue present)

/-- R178: a name field of a request. -/
def charOctets (cs : List Byte) : List Byte := BitVec.ofNat 8 cs.length :: cs

/-- R178: a rate. -/
def rateOctets (r : Nat × Nat) : List Byte := leOctets 4 r.1 ++ leOctets 2 r.2

/-- R165, R178: the fields of CREATE. -/
def createOctets (q : CreateReq) : List Byte :=
  rateOctets (q.num, q.den)
  ++ maskOctets 1 [q.name.isSome, q.phi.isSome, q.policy.isSome, q.slew.isSome, q.label.isSome]
  ++ maskedOctets charOctets q.name ++ maskedOctets (leSigned 4) q.phi ++ maskedOctets (leOctets 1) q.policy
  ++ maskedOctets (leOctets 4) q.slew ++ maskedOctets (leOctets 1) q.label

/-- R165, R178: the fields of SET. -/
def setOctets (q : SetReq) : List Byte :=
  handleOctets q.handle
  ++ maskOctets 1 [q.rate.isSome, q.phi.isSome, q.policy.isSome, q.slew.isSome, q.label.isSome, q.name.isSome]
  ++ maskedOctets rateOctets q.rate ++ maskedOctets (leSigned 4) q.phi ++ maskedOctets (leOctets 1) q.policy
  ++ maskedOctets (leOctets 4) q.slew ++ maskedOctets (leOctets 1) q.label ++ maskedOctets charOctets q.name

/-- R165, R178: the fields of SERVO, whose mask has two octets. -/
def servoOctets (q : ServoReq) : List Byte :=
  maskOctets 2 [q.sth.isSome, q.lockWin.isSome, q.lockCount.isSome, q.unlockWin.isSome, q.persist.isSome, q.kp.isSome,
    q.ki.isSome, q.limit.isSome, q.timeout.isSome, q.ageLimit.isSome, q.minGrade.isSome, q.slewRange.isSome]
  ++ maskedOctets (leOctets 4) q.sth ++ maskedOctets (leOctets 4) q.lockWin ++ maskedOctets (leOctets 1) q.lockCount
  ++ maskedOctets (leOctets 4) q.unlockWin ++ maskedOctets (leOctets 1) q.persist ++ maskedOctets (leOctets 2) q.kp
  ++ maskedOctets (leOctets 2) q.ki ++ maskedOctets (leOctets 4) q.limit ++ maskedOctets (leOctets 1) q.timeout
  ++ maskedOctets (leOctets 4) q.ageLimit ++ maskedOctets (leOctets 1) q.minGrade
  ++ maskedOctets (leOctets 4) q.slewRange

/-- R56, R178: the pending action of CIVIL. -/
def pendingOctets : PendingAction → List Byte
  | .keep => [0]
  | .set o' eo => 1 :: leSigned 4 o' ++ leOctets 6 eo
  | .cancel => [2]
  | .other c => leOctets 1 c

/-- R115, R178: the binding action of BIND. -/
def bindingOctets : BindAction → List Byte
  | .keep => [0]
  | .bind h => 1 :: handleOctets h
  | .unbind => [2]
  | .other c => leOctets 1 c

/-- R115, R165, R178: the fields of BIND. -/
def bindOctets (q : BindReq) : List Byte :=
  leOctets 1 q.output ++ bindingOctets q.action
  ++ maskOctets 1 [q.enabled.isSome, q.divider.isSome, q.delay.isSome, q.width.isSome, q.polarity.isSome]
  ++ maskedOctets (fun b => [flagOctet b]) q.enabled ++ maskedOctets (leOctets 2) q.divider
  ++ maskedOctets (leOctets 6) q.delay ++ maskedOctets (leOctets 6) q.width ++ maskedOctets (leOctets 1) q.polarity
  ++ [flagOctet q.clear]

/-- R130, R165, R178: the settings of CHAIN behind its action. -/
def chainOctets (q : ChainReq) : List Byte :=
  maskOctets 1 [q.timeout.isSome, q.orphan.isSome, q.autoRelease.isSome]
  ++ maskedOctets (leOctets 1) q.timeout ++ maskedOctets (leOctets 2) q.orphan
  ++ maskedOctets (fun b => [flagOctet b]) q.autoRelease

/-- R172, R178: the attention action of STATUS. -/
def attnOctets : AttnAction → List Byte
  | .keep => [0]
  | .set mask mode => 1 :: mask :: leOctets 1 mode
  | .other c => leOctets 1 c

/-- R178: the fields of a request. -/
def requestFields : Req → List Byte
  | .find name => charOctets name
  | .read h => handleOctets h
  | .list start => leOctets 1 start
  | .next h n => handleOctets h ++ leOctets 4 n
  | .stations a => leOctets 1 a
  | .notices => []
  | .create q => createOctets q
  | .set q => setOctets q
  | .realign h => handleOctets h
  | .retire h => handleOctets h ++ [0]
  | .retireWithEnd h e => handleOctets h ++ 1 :: leOctets 6 e.sec ++ leOctets 4 e.ns
  | .watch h => handleOctets h
  | .unwatch h => handleOctets h
  | .stream h d lead => handleOctets h ++ leOctets 2 d ++ leOctets 4 lead
  | .unstream => []
  | .sample q => q.seq :: leOctets 6 q.sec ++ leOctets 4 q.ns ++ leOctets 1 q.grade
  | .servo q => servoOctets q
  | .civil q =>
    maskOctets 1 [q.offset.isSome, q.jam.isSome] ++ maskedOctets (leSigned 4) q.offset
    ++ maskedOctets (leOctets 4) q.jam ++ pendingOctets q.action
  | .bind q => bindOctets q
  | .chain .keep q => 0 :: chainOctets q
  | .chain (.other c) q => leOctets 1 c ++ chainOctets q
  | .chainHold q => 1 :: chainOctets q
  | .chainRelease q => 2 :: chainOctets q
  | .save b => leOctets 1 b
  | .load b => leOctets 1 b
  | .reset => []
  | .status clear act => flagOctet clear :: attnOctets act

/-- R178: a request body: the code, the tag and the fields. -/
def requestOctets (t : Tag) (r : Req) : List Byte := requestCode r :: t :: requestFields r

/-! ## What the receiver finds between two delimiters (R127) -/

/-- R179: the return kinds. -/
inductive ReturnKind where
  | request | empty | echo
  deriving DecidableEq, Repr

/-- R127: the judgement of what stood between two delimiters. -/
inductive Judgement where
  /-- Zero bits: fill, not counted (R123). -/
  | fill
  | abort
  | short
  | format
  | check
  | valid (addr : Addr) (kind : ReturnKind) (body : List Byte)
  deriving DecidableEq, Repr

/-- R127, R179: a frame whose check is right, by its octets. -/
def judgeOctets : List Byte → Judgement
  | a :: k :: body =>
    if h : 1 ≤ a.toNat ∧ a.toNat ≤ 30 then
      let x : Addr := ⟨a.toNat - 1, by omega⟩
      if k = 0x61#8 ∧ 2 ≤ body.length ∧ body.length ≤ 48 then .valid x .request body
      else if k = 0x62#8 ∧ body = [] then .valid x .empty []
      else if k = 0x63#8 ∧ body = [] then .valid x .echo []
      else .format
    else .format
  | _ => .format

/-- R127: the content bits between two delimiters, inserted bits removed; a frame past 52 octets never comes here. -/
def judgeBits (bits : List Bool) : Judgement :=
  let n := bits.length
  if n = 0 then .fill
  else if n < 32 then .short
  else if n % 8 ≠ 0 then .format
  else
    let data := bits.take (n - 16)
    if checkBits (checkOf data) = bits.drop (n - 16) then judgeOctets (octetsOf (n / 8 - 2) data) else .check

/-! ## Frame bodies (R157, R179, R180) -/

/-- R180: the octets of segment `k` of a result, and whether it is the final one. -/
def segmentOf (r : Result) (k : Nat) : List Byte × Bool :=
  let rest := r.octets.drop (k * segmentOctets)
  (rest.take segmentOctets, decide (rest.length ≤ segmentOctets))

/-- R179: the body of a POLL from a station record, with the quality class. -/
def pollBody (r : Station) (cls : Nat) : List Byte :=
  let head (st : Nat) : Byte :=
    BitVec.ofNat 8 (st + (if r.owed.isSome then 4 else 0) + (if r.notices = [] then 0 else 8) + 16 * cls)
  let tag := r.owed.getD 0
  match r.slot with
  | .empty => [head 0, tag, 0]
  | .request _ => [head 1, tag, 0]
  | .result res =>
    let (octets, final) := segmentOf res r.segment
    head 2 :: tag :: BitVec.ofNat 8 (r.segment % 64 + if final then 128 else 0) :: octets

/-- R154, R179: the body of a REPORT. -/
def reportBody (st : Stream) (e : Entry) (k : Nat) (countdown : Int) (cls : Nat) : List Byte :=
  handleOctets st.entry.handle ++ leOctets 4 k ++ leSigned 3 countdown ++ labelOctets (e.labelAt k)
  ++ [BitVec.ofNat 8 (cls + 8 * e.state.code.toNat), BitVec.ofNat 8 st.skipped]

/-! ## SPI transactions (R169, R181) -/

/-- R181: the check octets of a length and body, most significant octet first. -/
def spiCheck (octets : List Byte) : List Byte :=
  let c := checkOf (octets.map bitsHigh).flatten
  [c.extractLsb' 8 8, c.extractLsb' 0 8]

/-- R169, R181: the body a write transaction brings, when it is not discarded; `rest` is what follows 57h. -/
def spiWriteBody (rest : List Byte) : Option (List Byte) :=
  match rest with
  | l0 :: l1 :: more =>
    let n := l0.toNat + 256 * l1.toNat
    if n = 0 ∨ spiBody < n then none
    else if more.length = n + 2 ∧ spiCheck (l0 :: l1 :: more.take n) = more.drop n then some (more.take n)
    else none
  | _ => none

/-- R181: a result as a read transaction carries it after the status octet: length, body, check. -/
def spiResult (r : Result) : List Byte :=
  let body := leOctets 2 r.octets.length ++ r.octets
  body ++ spiCheck body

end Sys2Proof.Machine
end

