-- ==== Sys2Proof/Machine/Ops.lean ====
section
/-! DEFINITION. The shared operations over the records: updates, notices, pulses, streams, the mark engine's snap and
carried offset, retirement, timebase steps, the label unit's re-base, stations becoming SILENT and ABSENT, and the
request handler's slots. -/

namespace Sys2Proof.Machine

open Sys2Proof Config

/-! ## Record updates -/

/-- Entry `i` replaced. -/
def State.setEntry (i : Idx) (e : Entry) (s : State) : State := { s with entries := s.entries.set i e }

/-- Station `x`'s record replaced. -/
def State.setStation (x : Addr) (r : Station) (s : State) : State := { s with stations := s.stations.set x r }

/-- Output `o` replaced. -/
def State.setOutput (o : OutNo) (r : Output) (s : State) : State := { s with outs := s.outs.set o r }

/-- Every entry changed by `f`. -/
def State.mapEntries (f : Idx → Entry → Entry) (s : State) : State :=
  { s with entries := Vector.ofFn fun i => f i s.entries[i] }

/-- Every station record changed by `f`. -/
def State.mapStations (f : Addr → Station → Station) (s : State) : State :=
  { s with stations := Vector.ofFn fun x => f x s.stations[x] }

/-- Every output changed by `f`. -/
def State.mapOutputs (f : Output → Output) (s : State) : State :=
  { s with outs := Vector.ofFn fun o => f s.outs[o] }

/-- The line counters changed by `f`. -/
def State.countLine (f : LineCounters → LineCounters) (s : State) : State :=
  { s with chain := { s.chain with line := f s.chain.line } }

/-- R74: timebase time set to `t` ns, the fraction kept. -/
def State.setTime (t : Nat) (s : State) : State :=
  { s with tb := { s.tb with seconds := t / second, ns := t % second } }

/-! ## Notices (R7, R8) -/

/-- A set in ascending order with one more member. -/
def insertIdx (i : Idx) : List Idx → List Idx
  | [] => [i]
  | j :: js => if i < j then i :: j :: js else if i = j then j :: js else j :: insertIdx i js

/-- R8: an index enters the management notice set. -/
def State.noteManagement (i : Idx) (s : State) : State :=
  let s' := { s with mgmtNotices := insertIdx i s.mgmtNotices }
  if s.mgmtNotices = [] then s'.raise .entries else s'

/-- R7: entry `i` enters the notice sets of its watchers. -/
def State.notify (i : Idx) (s : State) : State :=
  let e := s.entries[i]
  let s' := s.mapStations fun x r =>
    if x ∈ e.watchers then { r with notices := insertIdx i r.notices } else r
  if e.mgmtWatch then s'.noteManagement i else s'

/-- R8: ENTRIES leaves the set when the management notice set is empty. -/
def State.settleEntries (s : State) : State :=
  if s.mgmtNotices = [] then { s with attn := { s.attn with causes := s.attn.causes.put false .entries } } else s

/-! ## Pulses (R108 to R114) -/

/-- R106, R108: a pulse takes its place by active-edge instant. DESIGN CHOICE (log entry 57): behind those of an equal
instant. -/
def insertPulse (p : Pulse) : List Pulse → List Pulse
  | [] => [p]
  | q :: qs => if p.active < q.active then p :: q :: qs else q :: insertPulse p qs

/-- R106: so many more pulses skipped. -/
def Output.skip (o : Output) (n : Nat) : Output := { o with skipped := satAdd counterTop o.skipped n }

/-- R107: the waiting pulses are discarded and counted. -/
def Output.discard (o : Output) : Output := { o.skip o.waiting.length with waiting := [] }

/-- R114: the binding is dropped; a pulse in progress is left to complete. -/
def Output.unbind (o : Output) : Output := { o.discard with binding := none }

/-- R106, R111, R116: the pulse in progress ends at instant `t`, and a pending polarity takes effect. -/
def Output.endPulse (o : Output) (t : Int) : Output :=
  match o.inProgress with
  | none => o
  | some _ => { o with inProgress := none, lastInactive := some t, polarity := o.pendingPol.getD o.polarity,
                       pendingPol := none }

/-- R108: mark `k`, at applied instant `a`, fixes a pulse when `k` is a multiple of the divider. -/
def Output.fix (o : Output) (k : Nat) (a : Int) : Output :=
  if k % o.divider ≠ 0 then o
  else if 4 ≤ o.waiting.length then o.skip 1
  else
    let x := a + o.delay
    { o with waiting := insertPulse ⟨k, x, x + o.width⟩ o.waiting }

/-- R113: the waiting pulses move by `delta`, and those then before instant `t` are skipped. -/
def Output.shift (o : Output) (delta t : Int) : Output :=
  let moved := o.waiting.map fun p => { p with active := p.active + delta, inactive := p.inactive + delta }
  let kept := moved.filter fun p => t ≤ p.active
  { o.skip (moved.length - kept.length) with waiting := kept }

/-- R113: shift on every output bound to entry `i`. -/
def State.shiftPulses (i : Idx) (delta t : Int) (s : State) : State :=
  s.mapOutputs fun o => if o.boundTo i then o.shift delta t else o

/-- R112: every output bound to entry `i` goes to WAITING, its waiting pulses discarded. -/
def State.stopPulses (i : Idx) (s : State) : State :=
  s.mapOutputs fun o => if o.boundTo i then o.discard else o

/-- R17, R114: every output bound to entry `i` drops its binding. -/
def State.dropBindings (i : Idx) (s : State) : State :=
  s.mapOutputs fun o => if o.boundTo i then o.unbind else o

/-- R108: a mark of entry `i` is handed to every DRIVING output bound to it. -/
def State.fixPulses (i : Idx) (k : Nat) (a : Int) (s : State) : State :=
  s.mapOutputs fun o => if o.enabled && o.boundTo i then o.fix k a else o

/-- R112: at the start of entry `i`, every output bound to it is clamped against its whole period. -/
def State.fitOutputs (i : Idx) (s : State) : State :=
  s.mapOutputs fun o => if o.boundTo i then o.fitTo s.entries[i].pf else o

/-! ## Streams (R150 to R156) -/

/-- R153: the entry is ENDING and the instant lies after its end instant. -/
def Entry.pastEnd (e : Entry) (a : Int) : Bool := e.state = .ending && e.endAt.any fun x => (x : Int) < a

/-- R153: kr and S0 chosen at instant `t`: the smallest multiple of the step at or above the next mark, and above the
previous kr when one is given, whose S0 is at or after `t`. `counted` adds the multiples passed over to the skipped count.
DESIGN CHOICE (log entry 55): where the chosen mark lies past the end instant of an ENDING entry, and kr is held absent, a
counted choice adds none. -/
def Stream.choose (st : Stream) (e : Entry) (delta : Option Nat) (t : Int) (above : Option Nat) (counted : Bool) :
    Stream :=
  match delta with
  | none => { st with kr := none, s0 := none }
  | some d =>
    let first := ceilDiv e.nextMark st.step
    let lo := match above with
      | some k => max first (k / st.step + 1)
      | none => first
    let x := t + d + st.lead
    let hi := max lo (ceilDiv (firstFrom e.num e.den (e.phi + min e.eps 0) 0 x) st.step)
    let j := searchLeast (fun j => x ≤ e.foreseen (j * st.step)) ((hi - lo).log2 + 1) lo hi
    let a := e.foreseen (j * st.step)
    if e.pastEnd a then { st with kr := none, s0 := none }
    else { st with kr := some (j * st.step), s0 := some (a - d - st.lead),
                   skipped := if counted then satAdd 255 st.skipped (j - first) else st.skipped }

/-- R156: how an event at the entry acts on its streams. -/
inductive Replan where
  /-- A step, phase change, REALIGN, SET of s, change of motion or new end instant; the entry as it was before. -/
  | recompute (old : Entry)
  /-- A snap. -/
  | snapped
  /-- A SET of rate that restarts the entry. -/
  | restarted
  deriving DecidableEq, Repr

/-- R156: one stream after an event at its entry, which now is `e`, at instant `t`, be it ACTIVE or SUSPENDED; at a rate restart
the multiples passed over count as R153 states. A report that had waited past its mark
already keeps kr and S0 when the event leaves A(kr) as it was, and is left to R154. -/
def Stream.replan (st : Stream) (how : Replan) (e : Entry) (delta : Option Nat) (t : Int) : Stream :=
  match how with
  | .snapped => st.choose e delta t none false
  | .restarted =>
    { st with step := max st.step (leastStep e.pf) }.choose e delta t none true
  | .recompute old =>
    match st.kr, delta with
    | some k, some d =>
      if k < e.nextMark then
        if k < old.nextMark ∧ e.reportInstant k = old.reportInstant k then st else st.choose e delta t none false
      else if e.pastEnd (e.foreseen k) then { st with kr := none, s0 := none }
      else if e.foreseen k = old.foreseen k then st
      else { st with s0 := some (e.foreseen k - d - st.lead) }
    | _, _ => st.choose e delta t none false

/-- A stream change applied to every stream on entry `i`. -/
def State.mapStreamsOn (i : Idx) (f : Station → Stream → Stream) (s : State) : State :=
  s.mapStations fun _ r =>
    match r.stream with
    | some st => if st.entry.index = i then { r with stream := some (f r st) } else r
    | none => r

/-- R156: an event at entry `i` reaches its streams. -/
def State.replan (i : Idx) (how : Replan) (t : Int) (s : State) : State :=
  s.mapStreamsOn i fun r st => st.replan how s.entries[i] r.delta t

/-- R155: a mark due of entry `i` counts as skipped on each suspended stream whose step divides it. -/
def State.skipSuspended (i : Idx) (k : Nat) (s : State) : State :=
  s.mapStreamsOn i fun _ st =>
    if st.state = .suspended ∧ k % st.step = 0 then { st with skipped := satAdd 255 st.skipped 1 } else st

/-- A report on the line to station `x` no longer has its stream. -/
def Chain.forget (c : Chain) (x : Addr) : Chain :=
  { c with tx := c.tx.map fun f => if f.kind = .report ∧ f.addr = x then { f with live := false } else f }

/-- R152: the stream of station `x` is closed; a report on the line is finished. -/
def State.closeStream (x : Addr) (s : State) : State :=
  { s.setStation x { s.stations[x] with stream := none } with chain := s.chain.forget x }

/-- Whether station record `r` streams entry `i`. -/
def Station.streams (r : Station) (i : Idx) : Bool := r.stream.any fun st => st.entry.index = i

/-- R17 step 3: every stream on entry `i` is closed. -/
def State.closeStreamsOn (i : Idx) (s : State) : State :=
  let s' := s.mapStations fun _ r => if r.streams i then { r with stream := none } else r
  match s.chain.tx with
  | some f => if s.stations[f.addr].streams i then { s' with chain := s.chain.forget f.addr } else s'
  | none => s'

/-- R150: a stream holds a scheduled report. -/
def State.holdsReport (s : State) (x : Addr) : Option Int :=
  let r := s.stations[x]
  match r.stream with
  | some st =>
    if st.state = .active ∧ r.state = .present ∧ r.delta.isSome ∧ st.kr.isSome
      ∧ s.entries[st.entry.index].state ≠ .vacant then st.s0 else none
  | none => none

/-! ## Retirement (R17, R20, R21) -/

/-- R17 step 2: the watchers of entry `i` no longer list it. -/
def State.untie (i : Idx) (s : State) : State :=
  let e := s.entries[i]
  let s' := s.mapStations fun x r => if x ∈ e.watchers then { r with watchList := r.watchList.erase i } else r
  s'.setEntry i { e with watchers := [], mgmtWatch := false }

/-- R17 step 6: the owned count of the owner decrements. -/
def State.disown (l : Link) (s : State) : State :=
  match l with
  | .mgmt => s
  | .station x => s.setStation x { s.stations[x] with owned := s.stations[x].owned - 1 }

/-- R17: immediate retirement of entry `i`. -/
def State.retire (i : Idx) (s : State) : State :=
  let e := s.entries[i]
  if e.state = .vacant then s
  else ((((((s.notify i).untie i).closeStreamsOn i).dropBindings i).disown e.owner).setEntry i
    (Entry.vacantAt (e.gen + 1)))

/-- R20: the end check made at once after an event at entry `i`: the entry retires when its next mark lies above E and
timebase time already stands at or past E. -/
def State.endCheck (i : Idx) (s : State) : State :=
  let e := s.entries[i]
  match e.state, e.endAt with
  | .ending, some x =>
    if (x : Int) < e.applied e.nextMark ∧ x ≤ s.now then s.retire i
    else s.setEntry i { e with endTaken := false }
  | _, _ => s

/-- R21: the table retires the entries of station `x` and unties it. -/
def State.orphan (x : Addr) (s : State) : State :=
  let s1 := (List.finRange 64).foldl (fun s i =>
    if s.entries[i].state ≠ .vacant ∧ s.entries[i].owner = .station x then s.retire i else s) s
  let mine := s1.stations[x].watchList
  let s2 := s1.mapEntries fun i e => if i ∈ mine then { e with watchers := e.watchers.erase x } else e
  s2.setStation x { s2.stations[x] with watchList := [], notices := [] }

/-! ## The mark engine's events (R37 to R50) -/

/-- R37: a PENDING entry's ks, at reference instant `r`. -/
def Entry.waitFrom (e : Entry) (r : Int) : Entry := { e with ks := some (startMark e.num e.den e.phi r) }

/-- R42 step 2: k*, the first mark at least half a whole period after Lm and strictly after `r`. -/
def Entry.snapMark (e : Entry) (r : Int) : Nat :=
  let after := firstAfter e.num e.den e.phi 0 r
  match e.lm with
  | some l => max (firstFrom e.num e.den e.phi 0 (l + (e.pf / 2 : Nat))) after
  | none => after

/-- R42: the entry after a snap at `r`. -/
def Entry.snapped (e : Entry) (r : Int) : Entry :=
  let e1 := { e with eps := 0, realigns := satAdd 255 e.realigns 1 }
  let k := e.snapMark r
  if k = 0 then ({ e1 with kl := none, lm := none }.waitFrom r).withMotion .pending
  else { e1 with kl := some (k - 1) }.withMotion .running

/-- R42, R113, R156: entry `i` snaps at `r`; `delta` is the change of φ + ε. -/
def State.snap (i : Idx) (delta : Int) (r : Int) (s : State) : State :=
  let e := s.entries[i].snapped r
  let s1 := (s.shiftPulses i delta r).setEntry i e
  let s2 := if e.motion = .pending then s1.stopPulses i else s1
  s2.replan i .snapped r

/-- R44, R45, R48, R49: the carried offset of entry `i` becomes ε + `dEps`, absorbed by its policy; under SNAP, and when
the range of R38 would be left, the entry snaps. `old` is the entry before the event, `moved` the change of φ + ε when
absorbed and `snapDelta` when it snaps. -/
def State.moveOffset (i : Idx) (old : Entry) (dEps moved snapDelta : Int) (r : Int) (s : State) : State :=
  let e := s.entries[i]
  let eps := e.eps + dEps
  if e.policy = .snap ∨ inOffsetRange eps = false then s.snap i snapDelta r
  else
    let m := if e.policy = .slew then slewMotion s.servo.params.slewRange eps else holdMotion eps
    ((s.shiftPulses i moved r).setEntry i ({ e with eps := eps }.withMotion m)).replan i (.recompute old) r

/-- R43 to R47: a timebase step of `theta` reaches entry `i`; timebase time is now `t`. DESIGN CHOICE (log entry 62): every
forward step that leaves timebase time at or past E retires an ENDING entry, also where time stood there before with a mark at
or before E still due. -/
def State.stepEntry (theta : Int) (t : Nat) (s : State) (i : Idx) : State :=
  let old := s.entries[i]
  if old.state = .vacant then s
  else
    let e := { old with lm := old.lm.map (· + theta) }
    let s1 := s.setEntry i e
    let s2 :=
      if e.motion = .pending then (s1.setEntry i (e.waitFrom t)).replan i (.recompute old) t
      else s1.moveOffset i old theta theta (-old.eps) t
    let s3 := s2.notify i
    if (s3.entries[i]).state = .ending ∧ 0 < theta ∧ (s3.entries[i]).endAt.any (fun x => x ≤ t) then s3.retire i
    else s3.endCheck i

/-- R48 to R50: the phase of entry `i` becomes `phi`. -/
def State.phaseChange (i : Idx) (phi : Int) (s : State) : State :=
  let old := s.entries[i]
  let d := phi - old.phi
  let e := { old with phi := phi }
  let s1 := s.setEntry i e
  if e.motion = .pending then (s1.setEntry i (e.waitFrom s.now)).replan i (.recompute old) s.now
  else s1.moveOffset i old (-d) 0 (d - old.eps) s.now

/-- R41: entries whose motion is SLEWING and whose |ε| exceeds the slew range move to HELD. -/
def State.holdWide (s : State) : State :=
  (List.finRange 64).foldl (fun s i =>
    let e := s.entries[i]
    if e.state ≠ .vacant ∧ e.motion = .slewing ∧ s.servo.params.slewRange < e.eps.natAbs then
      ((s.setEntry i (e.withMotion .held)).replan i (.recompute e) s.now).notify i
    else s) s

/-! ## The label unit (R58 to R63) -/

/-- R57 step 3, R59, R63: tn and every labelled entry's next base computed again. DESIGN CHOICE (log entry 63): an entry that
had switched to its next base before the jam event is given a next base again here too. -/
def State.reschedule (s : State) : State :=
  let c := { s.civil with tn := s.civil.nextJam }
  { s with civil := c }.mapEntries fun _ e => if e.state = EntryState.vacant then e else e.withNextBase c

/-- R58 steps 1 and 3: tB and tn at a re-base at instant `r` ns. -/
def Civil.rebased (c : Civil) (r : Nat) : Civil :=
  let daily := recentDaily c.offset c.jam r
  let c1 := { c with tB := match c.tL with
    | some l => max daily l
    | none => daily }
  { c1 with tn := c1.nextJam }

/-- R58: the civil settings from which the bases are counted stand as they stood. -/
def Civil.keepsBases (old c : Civil) : Bool := c.tB = old.tB && c.offset = old.offset && c.jam = old.jam

/-- R58: a re-base at instant `r` ns, `old` the civil settings before the event. One that leaves tB as it was, with O and J
unchanged, leaves every base as it was: that of an entry which has switched before the jam (R63) too. -/
def State.rebase (old : Civil) (r : Nat) (s : State) : State :=
  let c := s.civil.rebased r
  let s1 := { s with civil := c }
  if old.keepsBases c then s1
  else s1.mapEntries fun _ e => if e.state = EntryState.vacant then e else e.withBases c

/-- R61: a timebase step reaches the label unit; timebase time is now `t`. -/
def State.stepLabels (t : Nat) (s : State) : State :=
  let c := s.civil
  let c1 := match c.pending with
    | some (o', eo) => if eo * second ≤ t then { c with offset := o', pending := none, tL := some eo } else c
    | none => c
  let c2 := match c1.tL with
    | some l => if t < l * second then { c1 with tL := none } else c1
    | none => c1
  { s with civil := c2 }.rebase c t

/-! ## Timebase steps (R76, R77) -/

/-- R77 steps 2 and 3, R106, R113: a step of `theta`, with timebase time already `t`, reaches the capture slots, the
outputs, an open answer window, the mark engine and the label unit. -/
def State.stepEffects (theta : Int) (t : Nat) (s : State) : State :=
  let s1 : State := { s with
    slots := Vector.ofFn fun k =>
      if s.slots[k].state = .filled then { s.slots[k] with state := .void } else s.slots[k]
    chain := { s.chain with svc := s.chain.svc.map fun v =>
      { v with window := v.window.map fun w => { w with steppedAt := w.steppedAt.or (some s.cycle) } } } }
  let s2 := s1.mapOutputs fun o =>
    { o with inProgress := o.inProgress.map (fun p => { p with active := p.active + theta,
                                                               inactive := p.inactive + theta })
             lastInactive := o.lastInactive.map (· + theta) }
  ((List.finRange 64).foldl (State.stepEntry theta t) s2).stepLabels t

/-- R76: the seconds wrap, taken when timebase time stands at 2^48 × 10^9 ns or beyond. -/
def State.wrap (s : State) : State :=
  let t := s.now - wrapSpan
  ((s.setTime t).mapOutputs Output.discard).stepEffects (-(wrapSpan : Int)) t

/-- R77: T_new = T + θ before any wrap; a sum below 0 gives a free value (log entry 45). -/
def State.stepTarget (theta : Int) (s : State) : Nat :=
  let t := (s.now : Int) + theta
  if 0 ≤ t then t.toNat else timeBelowZero t % wrapSpan

/-- R77: a timebase step of `theta`. DESIGN CHOICE (log entry 56): the step reaches every block first, and the wrap it brings
about follows as a step of its own. -/
def State.applyStep (theta : Int) (s : State) : State :=
  let t := s.stepTarget theta
  let s1 := (s.setTime t).stepEffects theta t
  if wrapSpan ≤ t then s1.wrap else s1

/-! ## Stations and the line (R129, R135, R136) -/

/-- R155: a stream is suspended at cycle `c`. DESIGN CHOICE (log entry 61): kr and S0 stay in the record, and events at the
entry go on moving them. -/
def Stream.suspend (st : Stream) (c : Nat) : Stream := { st with state := .suspended, holdStart := some c }

/-- R135: station `x` enters SILENT. DESIGN CHOICE (log entry 59): its missed count stays as it stands, below 4 when the
chain's entry into BROKEN is the cause. -/
def State.silence (x : Addr) (s : State) : State :=
  let r := s.stations[x]
  (s.setStation x { r with state := .silent, silentSince := some s.now, orphanStart := some s.cycle,
                           reRangeStart := none, stream := r.stream.map fun st => st.suspend s.cycle }).raise .stations

/-- R136 steps 2 to 5: the chain controller's share of station `x` becoming ABSENT. -/
def State.clearStation (x : Addr) (s : State) : State :=
  let s1 := s.closeStream x
  let r := s1.stations[x]
  let s2 := s1.setStation x { Station.cleared with owned := r.owned, watchList := r.watchList, notices := r.notices }
  State.raise .stations { s2 with arrivals := s2.arrivals.erase (.station x) }

/-- R136: station `x` becomes ABSENT. -/
def State.stationAbsent (x : Addr) (s : State) : State := (s.orphan x).clearStation x

/-- R123, R146: the level of fill whose delimiters begin at cycle `base`, in cycle `c`, true for high. -/
def fillLevel (base c : Nat) : Bool := delimiter.getD ((c - base) / cyclesPerBit % 10) false

/-- R123 to R125: a frame as it stands on the line. -/
def TxFrame.line (f : TxFrame) : List Bool := lineOf (addrByte f.addr) f.kind.code f.body

/-- R122, R123: the level that frame `f`, and the fill behind it, give CTX in cycle `c`. -/
def TxFrame.level (f : TxFrame) (c : Nat) : Bool :=
  f.line.getD ((c - f.startCycle) / cyclesPerBit) (fillLevel (f.startCycle + cyclesPerBit * f.line.length) c)

/-- R124: the cycle at which the nine 1s of an abort end and fill begins. -/
def CutFrame.stop (x : CutFrame) : Nat := x.start + cyclesPerBit * 9

/-- R122 to R124: the level of CTX in the present cycle, true for high: 1 while RESET is asserted; the frame on the line; the
nine 1s of an abort behind the bit they cut short; else fill. In the last bit of a service frame, whose window is open
already, the 0 of that bit. -/
def State.ctxHigh (s : State) : Bool :=
  if s.resetPin then true
  else
    match s.chain.tx, s.chain.cut with
    | some f, _ => f.level s.cycle
    | none, none => fillLevel s.chain.lineBase s.cycle
    | none, some x =>
      if s.cycle < x.start then x.bit else if s.cycle < x.stop then true else fillLevel s.chain.lineBase s.cycle

/-- R124: the frame on CTX is cut short as `x` says. -/
def State.cutLine (x : CutFrame) (s : State) : State :=
  { s with chain := { s.chain with tx := none, reportEnd := none, cut := some x, lineBase := x.stop } }

/-- R124, R125, R146: the last bit of a service frame whose window has opened is on CTX, up to the cycle `lineBase`. -/
def State.lastBit (s : State) : Bool := s.chain.cut.isNone && s.cycle < s.chain.lineBase

/-- R124, R154: a frame on CTX is ended with an abort, nine 1s behind the bit that is on the line (log entry 38), be it the last
bit of a service frame; a report cut short counts as skipped. DESIGN CHOICE (log entry 60): a report whose last bit has ended
in this very cycle, REPORT_SENT not taken yet, is still on CTX, so that the nine 1s go out behind the whole frame and the report
counts as skipped; a service frame that has ended is off it. -/
def State.abortTx (s : State) : State :=
  match s.chain.tx with
  | none =>
    if s.lastBit then
      s.cutLine { bit := false, start := s.chain.lineBase - cyclesPerBit * ((s.chain.lineBase - s.cycle) / cyclesPerBit) }
    else s
  | some f =>
    let s1 := s.cutLine
      { bit := f.level s.cycle,
        start := f.startCycle + cyclesPerBit * ceilDiv (s.cycle - f.startCycle) cyclesPerBit }
    if f.kind = .report ∧ f.live then
      let r := s1.stations[f.addr]
      s1.setStation f.addr { r with stream := r.stream.map fun st => { st with skipped := satAdd 255 st.skipped 1 } }
    else s1

/-- R129, R131: the chain leaves RUNNING or BROKEN for `c`: the frame on CTX is aborted and the outstanding answer
abandoned. -/
def State.leaveChain (c : ChainState) (s : State) : State :=
  let s1 := s.abortTx
  State.raise .chain { s1 with chain := { s1.chain with state := c, svc := none, chosen := none } }

/-- R139: the service-cycle position as a hard reset, a soft reset and a HOLD set it. -/
def Chain.homePosition (c : Chain) : Chain := { c with step := .polls, cursor := 0, pointer := 30, chosen := none }

/-- R139: the chain enters RUNNING, and the service cycle begins again at POLLS. -/
def State.enterRunning (s : State) : State :=
  State.raise .chain { s with chain := { s.chain with state := .running, step := .polls, cursor := 0, chosen := none } }

/-- R129: the chain enters BROKEN from RUNNING. -/
def State.enterBroken (s : State) : State :=
  let s1 := s.leaveChain .broken
  let s2 := s1.countLine fun c => { c with broken := satAdd counterTop c.broken 1 }
  (List.finRange 30).foldl (fun s x =>
    if s.stations[x].state = .present ∨ s.stations[x].state = .joining then s.silence x else s) s2

/-- R131: HOLD. -/
def State.holdChain (s : State) : State :=
  if s.chain.state = .held then s
  else
    let s1 := s.leaveChain .held
    let s2 := (List.finRange 30).foldl (fun s x =>
      if s.stations[x].state ≠ .absent then s.stationAbsent x else s) s1
    { s2 with chain := s2.chain.homePosition }

/-- R131: RELEASE. -/
def State.releaseChain (s : State) : State :=
  if s.chain.state = .held then
    if s.liveRun.any fun n => liveRunGoal ≤ n then s.enterRunning
    else State.raise .chain { s with chain := { s.chain with state := .broken } }
  else s

/-- R130 steps 1 to 4: the chain settings take new values, and a new orphan time is compared with every SILENT station. -/
def State.chainSettings (timeout orphan : Nat) (auto : Bool) (s : State) : State :=
  let s1 : State := { s with chain := { s.chain with timeout := timeout, orphan := orphan, autoRelease := auto } }
  if orphan = s.chain.orphan then s1
  else (List.finRange 30).foldl (fun s x =>
    if s.stations[x].state = .silent
      ∧ s.stations[x].orphanStart.any (fun c => orphan * cyclesPerSecond ≤ s.cycle - c)
    then s.stationAbsent x else s) s1

/-! ## Slots of the request handler (R158, R160, R161) -/

/-- The slot of a link. -/
def State.slotOf (s : State) : Link → Slot
  | .mgmt => s.port.slot
  | .station x => s.stations[x].slot

/-- The slot of a link replaced. -/
def State.setSlot (l : Link) (v : Slot) (s : State) : State :=
  match l with
  | .mgmt => { s with port := { s.port with slot := v } }
  | .station x => s.setStation x { s.stations[x] with slot := v, segment := 0 }

/-- R161: one more result or request lost at the management port. -/
def State.countLoss (s : State) : State :=
  { s with port := { s.port with losses := satAdd counterTop s.port.losses 1 } }

/-- R158, R161: a request that finds its slot occupied is discarded: a station is owed a BUSY refusal, the management port
counts a loss. -/
def State.turnAway (l : Link) (t : Tag) (s : State) : State :=
  match l with
  | .mgmt => s.countLoss
  | .station x => s.setStation x { s.stations[x] with owed := some t }

/-- R157, R163: a station that is polled. -/
def Station.polled (r : Station) : Bool := r.state = .joining || r.state = .present || r.state = .silent

/-- R158: a request of the link can arrive: any at the management port; at a station, one that is polled by a RUNNING chain. -/
def State.mayArrive (s : State) : Link → Bool
  | .mgmt => true
  | .station x => s.chain.state = .running && s.stations[x].polled

/-- The answer of the request handler to a request command. -/
inductive Admission where
  /-- The request is not accepted now; the state after. -/
  | turned (s : State)
  /-- The request is in its link's slot and its turn has come. -/
  | taken (s : State)
  deriving DecidableEq, Repr

/-- R160, R161: a request of link `l` comes to acceptance. When it waits in the slot, it is accepted in its turn. When the
slot is free (or, at the management port, holds an unread result, which is lost), it arrives and is accepted at once,
provided nothing waits before it. -/
def State.takeIn (l : Link) (t : Tag) (r : Req) (s : State) : Admission :=
  if s.resetPin then .turned s
  else
    match s.slotOf l with
    | .request b =>
      if parseBody b = .whole t r then
        if s.arrivals.head?.all (· = l) then .taken s else .turned s
      else .turned (s.turnAway l t)
    | .empty =>
      if s.mayArrive l ∧ s.arrivals = [] then
        .taken (if l = .mgmt then { s with port := { s.port with pendingShown := false, reading := none } } else s)
      else .turned s
    | .result _ =>
      match l with
      | .mgmt =>
        if s.arrivals = [] then
          .taken { s.countLoss with port := { s.countLoss.port with pendingShown := false, reading := none } }
        else .turned s
      | .station x => if s.mayArrive (.station x) then .turned (s.turnAway l t) else .turned s

/-- R161: the management slot is left empty, or with the completion result that waited for it. -/
def Port.vacate (p : Port) : Port :=
  match p.deferred with
  | none => { p with slot := .empty }
  | some d => { p with slot := .result d, deferred := none }

/-- R160, R161: the result of an accepted request enters the slot; at the management port, a completion result that waits
replaces it, and it is lost. -/
def State.complete (l : Link) (r : Result) (s : State) : State :=
  let s1 := { s with arrivals := s.arrivals.erase l }
  match l with
  | .mgmt =>
    match s1.port.deferred with
    | none => s1.setSlot .mgmt (.result r)
    | some _ => { s1.countLoss with port := s1.countLoss.port.vacate }
  | .station x => s1.setSlot (.station x) (.result r)

/-- R161: a request that started a store operation leaves the slot, which shows the operation as pending. -/
def State.leaveSlot (s : State) : State :=
  { s with arrivals := s.arrivals.erase .mgmt, port := { s.port.vacate with pendingShown := true } }

/-- R161: the result of a store operation enters the management slot; an unread result there is lost, and a request
awaiting acceptance is accepted first (log entry 20). A read of the result that is replaced goes on, and will deliver
nothing (R170). -/
def State.completeOp (r : Result) (s : State) : State :=
  let p := { s.port with pendingShown := false }
  match p.slot with
  | .empty => { s with port := { p with slot := .result r } }
  | .result _ => State.countLoss { s with port := { p with
      slot := .result r, reading := p.reading.map fun x => { x with holds := false } } }
  | .request _ => { s with port := { p with deferred := some r } }

/-- A reply: status and fields. -/
abbrev Reply := Status × Body

/-- R160, R162: link `l`'s request `r` is accepted and carried out by `h`, whose reply becomes the result; `h` gives no reply
for a request that starts a store operation. -/
def State.serve (l : Link) (t : Tag) (r : Req) (h : State → State × Option Reply) (s : State) : State :=
  match s.takeIn l t r with
  | .turned s' => s'
  | .taken s' =>
    match h s' with
    | (s2, some (st, b)) => s2.complete l ⟨requestCode r, t, st, b⟩
    | (s2, none) => s2.leaveSlot

/-- R164: a management-only request. -/
def forManagement (l : Link) (h : State → State × Option Reply) (s : State) : State × Option Reply :=
  match l with
  | .mgmt => h s
  | .station _ => (s, some (.notPermitted, .empty))

/-- R164: a request of the stations. -/
def forStation (l : Link) (h : Addr → State → State × Option Reply) (s : State) : State × Option Reply :=
  match l with
  | .mgmt => (s, some (.notPermitted, .empty))
  | .station x => h x s

/-- A refusal: nothing changes, and the result carries no field (R162, R178). -/
def refuse (st : Status) (s : State) : State × Option Reply := (s, some (st, .empty))

/-- R3: the handle check, then `h` on the entry. -/
def onEntry (hd : Handle) (h : Idx → State → State × Option Reply) (s : State) : State × Option Reply :=
  match checkHandle s hd with
  | .error st => refuse st s
  | .ok i => h i s

/-- R163: the authority check, then `h`. -/
def withAuthority (l : Link) (i : Idx) (h : State → State × Option Reply) (s : State) : State × Option Reply :=
  if authority l s.entries[i] then h s else refuse .notOwner s

/-- Commands other than a release have no effect while RESET is asserted (log entry 2). -/
def State.whenReleased (s : State) (f : State → State) : State := if s.resetPin then s else f s

end Sys2Proof.Machine
end

