-- ==== Sys2Proof/Machine/Discipline.lean ====
section
/-! DEFINITION. The timebase and the discipline unit (chapters 4 and 5): the advance of timebase time by the rate word, the
seconds wrap, strobe captures, SAMPLE, SERVO and holdover. -/

namespace Sys2Proof.Machine

open Sys2Proof Config

/-! ## The count (R74 to R76) -/

/-- R75: the rate word W, in units of 2^−32 ns per REFCLK cycle. -/
def State.rateWord (s : State) : Nat := (nominalRate + s.servo.correction).toNat

/-- R74: timebase time one REFCLK cycle later at rate word `w`; the seconds field is not yet wrapped. -/
def Timebase.advance (t : Timebase) (w : Nat) : Timebase :=
  let x := t.ns * fracUnit + t.frac + w
  { seconds := t.seconds + x / fracUnit / second, ns := x / fracUnit % second, frac := x % fracUnit }

/-- The timebase reading of the present cycle. -/
def State.reading (s : State) : Reading :=
  { cycle := s.cycle, count := s.now * fracUnit + s.tb.frac, rate := s.rateWord }

/-- A reading tells that of a later one when no step and no change of the rate word lies between. -/
def Reading.tells (r x : Reading) : Bool := r.rate = x.rate && r.count + (x.cycle - r.cycle) * r.rate = x.count

/-- The readings with that of the present cycle, when the newest does not tell it. -/
def State.notedReadings (s : State) : List Reading :=
  match s.readings with
  | r :: rs => if r.tells s.reading then r :: rs else s.reading :: r :: rs
  | [] => [s.reading]

/-- R73, R74: one REFCLK cycle, the seconds field not wrapped. -/
def State.tick (s : State) : State :=
  { s with tb := s.tb.advance s.rateWord, cycle := s.cycle + 1, readings := s.notedReadings }

/-- R122: timebase time in cycle `c`, on the scale in force in that cycle. -/
def State.timeAt (s : State) (c : Nat) : Nat :=
  if s.cycle ≤ c then s.now
  else
    match s.readings.find? fun r => r.cycle ≤ c with
    | some r => (r.count + (c - r.cycle) * r.rate) / fracUnit
    | none => (s.reading.count - (s.cycle - c) * s.rateWord) / fracUnit

/-- R76: the next REFCLK cycle carries the seconds field past 2^48 − 1. -/
def State.wrapDue (s : State) : Bool := secondsWrap ≤ (s.tb.advance s.rateWord).seconds

/-- TIMEBASE_SECONDS_WRAP: the REFCLK cycle that carries the seconds past 2^48 − 1, with the wrap (R76). -/
def execTimebaseSecondsWrap (s : State) : Host.Outcome State Fault Refusal :=
  .next (s.whenReleased fun s => if s.wrapDue then s.tick.wrap else s)

/-! ## Strobe edges (R79, R80) -/

/-- R80: the slot that a sequence number selects. -/
def slotNo (seq : BitVec 8) : Fin 4 := ⟨seq.toNat % 4, by omega⟩

/-- R79: an edge now is outside the glitch window. -/
def State.edgeAccepted (s : State) : Bool :=
  match s.lastEdge with
  | none => true
  | some c => glitchWindow ≤ s.cycle - c

/-- R80: the number of the next accepted edge. -/
def State.nextSeq (s : State) : BitVec 8 :=
  match s.latest with
  | none => 0
  | some q => q + 1

/-- R80: an accepted edge at position `p` is filed. -/
def State.fileEdge (p : Fin 8) (s : State) : State :=
  { s with latest := some s.nextSeq, lastEdge := some s.cycle,
           slots := s.slots.set (slotNo s.nextSeq) ⟨.filled, s.nextSeq, s.now + p.val⟩ }

/-- The discipline unit's counters changed by `f` (R103). -/
def State.countServo (f : ServoCounters → ServoCounters) (s : State) : State :=
  { s with servo := { s.servo with counters := f s.servo.counters } }

/-- STROBE_EDGE (R79, R80). -/
def execStrobeEdge (p : Fin 8) (s : State) : Host.Outcome State Fault Refusal :=
  .next (s.whenReleased fun s =>
    if s.edgeAccepted then s.fileEdge p
    else s.countServo fun c => { c with glitches := satAdd counterTop c.glitches 1 })

/-! ## An accepted sample (R91 to R97) -/

/-- R92: a PI update. -/
def Servo.pi (v : Servo) (theta : Int) : Servo :=
  let l : Int := v.params.limit
  let i := clampInt (-l) l (v.integral + theta * v.params.ki / 256)
  { v with integral := i, correction := clampInt (-l) l (theta * v.params.kp / 256 + i) }

/-- R93: a sample in FREE, and whether it orders a step. -/
def Servo.freeRow (v : Servo) (theta : Int) : Servo × Bool :=
  ({ v with integral := 0, correction := 0, good := 0, outliers := 0, state := .acquire }, decide (theta ≠ 0))

/-- R94: a sample in ACQUIRE. -/
def Servo.acquireRow (v : Servo) (theta : Int) : Servo × Bool :=
  if v.params.sth ≤ theta.natAbs then ({ v with good := 0 }, true)
  else if theta.natAbs ≤ v.params.lockWin then
    if v.params.lockCount ≤ v.good + 1 then
      ({ v.pi theta with good := 0, outliers := 0, state := .locked }, false)
    else ({ v.pi theta with good := v.good + 1 }, false)
  else ({ v.pi theta with good := 0 }, false)

/-- R95, R96: a sample in LOCKED. -/
def Servo.lockedRow (v : Servo) (theta : Int) : Servo × Bool :=
  if v.params.sth ≤ theta.natAbs then
    let v1 := { v with outliers := v.outliers + 1,
                       counters := { v.counters with outliers := satAdd counterTop v.counters.outliers 1 } }
    if v.outliers + 1 < v.params.persist then (v1, false)
    else ({ v1 with good := 0, outliers := 0, state := .acquire }, true)
  else
    let v1 := { v.pi theta with outliers := 0 }
    if v.params.unlockWin < theta.natAbs then ({ v1 with good := 0, state := .acquire }, false) else (v1, false)

/-- R93 to R97: the row that matches the servo state. -/
def Servo.row (v : Servo) (theta : Int) : Servo × Bool :=
  match v.state with
  | .free => v.freeRow theta
  | .acquire => v.acquireRow theta
  | .locked => v.lockedRow theta
  | .holdover => { v with state := .acquire }.acquireRow theta

/-- R91 steps 1 and 2: the accepted counter, the last offset, the holdover timer and the holdover age. -/
def Servo.receive (v : Servo) (theta : Int) (cycle : Nat) : Servo :=
  { v with counters := { v.counters with accepted := satAdd counterTop v.counters.accepted 1 },
           lastOffset := some theta, timer := some cycle, ageStart := none }

/-- R91 steps 1 to 3: the discipline unit after a sample, and whether it orders a step. -/
def State.judgeSample (theta : Int) (s : State) : Servo × Bool := (s.servo.receive theta s.cycle).row theta

/-- R91: the discipline unit takes the offset of an accepted sample. -/
def State.takeSample (theta : Int) (s : State) : State :=
  let (v, stepped) := s.judgeSample theta
  let s1 : State := { s with servo := v }
  let s2 := if stepped then
      (s1.applyStep theta).countServo fun c => { c with steps := satAdd counterTop c.steps 1 }
    else s1
  s2.noteClass

/-- R81: the slot of a sequence number changes state. -/
def State.markSlot (q : BitVec 8) (st : SlotState) (s : State) : State :=
  { s with slots := s.slots.set (slotNo q) { s.slots[slotNo q] with state := st } }

/-- R84: the offset of a sample against captured time `tc`. -/
def SampleReq.offset (q : SampleReq) (tc : Nat) : Int := ((q.sec * second + q.ns : Nat) : Int) - tc

/-- R84: a SAMPLE answered OK. -/
def acceptSample (q : SampleReq) (s : State) : State × Option Reply :=
  let tc := s.slots[slotNo q.seq].time
  let theta := SampleReq.offset q tc
  let stepped := (s.judgeSample theta).2
  let s1 := (s.markSlot q.seq .consumed).takeSample theta
  (s1, some (.ok, .sample { seq := q.seq, captured := tc, offset := theta, stepped := stepped, servo := s1.servo.state,
                            cls := s1.quality }))

/-- R82: the refused fields of SAMPLE. -/
def SampleReq.bad (q : SampleReq) : Bool := secondsWrap ≤ q.sec || second ≤ q.ns || 15 < q.grade

/-- R83: SAMPLE paired with its capture, by its age. -/
def pairSample (q : SampleReq) (s : State) : State × Option Reply :=
  match s.latest with
  | none => (s, some (.noCapture, .seq q.seq))
  | some sc =>
    let age := (sc - q.seq).toNat
    if 128 ≤ age then (s, some (.noCapture, .seq q.seq))
    else if 4 ≤ age then (s, some (.sampleStale, .seq q.seq))
    else
      match s.slots[slotNo q.seq].state with
      | .empty => (s, some (.noCapture, .seq q.seq))
      | .void => (s, some (.sampleStale, .seq q.seq))
      | .consumed => (s, some (.duplicate, .seq q.seq))
      | .filled =>
        if s.servo.params.minGrade < q.grade then
          ((s.markSlot q.seq .consumed).countServo fun c => { c with ignored := satAdd counterTop c.ignored 1 },
           some (.ignored, .seq q.seq))
        else acceptSample q s

/-- R82: SAMPLE. -/
def sampleReply (q : SampleReq) (s : State) : State × Option Reply :=
  if SampleReq.bad q then refuse .badField s else pairSample q s

/-- SAMPLE (R82 to R84, R91). -/
def execSample (l : Link) (t : Tag) (q : SampleReq) (s : State) : Host.Outcome State Fault Refusal :=
  .next (s.serve l t (.sample q) (forManagement l (sampleReply q)))

/-! ## Holdover (R98, R99) -/

/-- R98: the holdover timer has reached the timeout. -/
def State.holdoverDue (s : State) : Bool :=
  (s.servo.state = .acquire || s.servo.state = .locked)
    && s.servo.timer.any fun c => s.servo.params.timeout * cyclesPerSecond ≤ s.cycle - c

/-- R98: entry to HOLDOVER. -/
def State.enterHoldover (s : State) : State :=
  State.noteClass { s with servo := { s.servo with
    correction := s.servo.integral, good := 0, outliers := 0, timer := none, ageStart := some s.cycle,
    state := .holdover } }

/-- HOLDOVER_TIMER_EXPIRY (R98). -/
def execHoldoverTimerExpiry (s : State) : Host.Outcome State Fault Refusal :=
  .next (s.whenReleased fun s => if s.holdoverDue then s.enterHoldover else s)

/-- R99: the class has become 3 in HOLDOVER and the SERVO cause has not been raised for it. -/
def State.ageLimitDue (s : State) : Bool := s.servo.state = .holdover && s.quality = 3 && s.servo.noted ≠ 3

/-- HOLDOVER_AGE_LIMIT_PASSED (R99). -/
def execHoldoverAgeLimitPassed (s : State) : Host.Outcome State Fault Refusal :=
  .next (s.whenReleased fun s => if s.ageLimitDue then s.noteClass else s)

/-! ## Parameters (R100 to R102) -/

/-- A present value brought into its range, or the kept one. -/
def pick (lo hi : Nat) (q : Option Nat) (old : Nat) : Nat :=
  match q with
  | none => old
  | some x => clampNat lo hi x

/-- Whether a present value lies outside its range. -/
def cut (lo hi : Nat) (q : Option Nat) : Bool := q.any fun x => clampNat lo hi x ≠ x

/-- R101: the parameters after SERVO. -/
def ServoReq.params (q : ServoReq) (p : ServoParams) : ServoParams :=
  let win := pick 10 1000000 q.lockWin p.lockWin
  { sth := pick 1000 1000000000 q.sth p.sth, lockWin := win, lockCount := pick 1 16 q.lockCount p.lockCount,
    unlockWin := clampNat win 10000000 (q.unlockWin.getD p.unlockWin), persist := pick 1 8 q.persist p.persist,
    kp := pick 0 65535 q.kp p.kp, ki := pick 0 65535 q.ki p.ki, limit := pick 0 6871947 q.limit p.limit,
    timeout := pick 1 60 q.timeout p.timeout, ageLimit := pick 1 86400 q.ageLimit p.ageLimit,
    minGrade := pick 0 15 q.minGrade p.minGrade, slewRange := pick 0 1000000000 q.slewRange p.slewRange }

/-- R101: a value of SERVO was clamped, an unlock window raised to the lock window among them. -/
def ServoReq.clamped (q : ServoReq) (p : ServoParams) : Bool :=
  cut 1000 1000000000 q.sth || cut 10 1000000 q.lockWin || cut 1 16 q.lockCount
    || (ServoReq.params q p).unlockWin ≠ q.unlockWin.getD p.unlockWin
    || cut 1 8 q.persist || cut 0 65535 q.kp || cut 0 65535 q.ki || cut 0 6871947 q.limit || cut 1 60 q.timeout
    || cut 1 86400 q.ageLimit || cut 0 15 q.minGrade || cut 0 1000000000 q.slewRange

/-- A SERVO that carries every parameter. -/
def ServoParams.asReq (p : ServoParams) : ServoReq :=
  ⟨some p.sth, some p.lockWin, some p.lockCount, some p.unlockWin, some p.persist, some p.kp, some p.ki, some p.limit,
   some p.timeout, some p.ageLimit, some p.minGrade, some p.slewRange⟩

/-- R104: the parameters of a bank, clamped as at SERVO. -/
def ServoParams.fit (p : ServoParams) : ServoParams := ServoReq.params p.asReq p

/-- R102: I and then C clamped to a limit. -/
def Servo.limitTo (v : Servo) (l : Int) : Servo :=
  { v with integral := clampInt (-l) l v.integral, correction := clampInt (-l) l v.correction }

/-- R102: a new parameter set acts on the running servo, and by R41 on the slewing entries. -/
def State.applyParams (p : ServoParams) (s : State) : State :=
  let s1 : State := { s with servo := { s.servo with params := p }.limitTo p.limit }
  let s2 := if s1.holdoverDue then s1.enterHoldover else s1.noteClass
  s2.holdWide

/-- R101: SERVO. -/
def servoReply (q : ServoReq) (s : State) : State × Option Reply :=
  let p := ServoReq.params q s.servo.params
  let s1 := if p = s.servo.params then s else s.applyParams p
  (s1, some (okOr (ServoReq.clamped q s.servo.params), .servo s1.servo.params s1.servo.state s1.quality))

/-- SERVO (R101, R102). -/
def execServo (l : Link) (t : Tag) (q : ServoReq) (s : State) : Host.Outcome State Fault Refusal :=
  .next (s.serve l t (.servo q) (forManagement l (servoReply q)))

end Sys2Proof.Machine
end

