-- ==== Sys2Proof/Machine/Settings.lean ====
section
/-! DEFINITION. The management requests that read and change settings: CIVIL (R56, R57), BIND (R115 to R117), CHAIN with its
three actions (R130, R131) and STATUS (R172). -/

namespace Sys2Proof.Machine

open Sys2Proof Config

/-! ## CIVIL -/

/-- R55: the range of a civil offset. -/
def clampOffset (x : Int) : Int := clampInt (-86400) 86400 x

/-- R55: the range of the daily jam time. -/
def clampJam (x : Nat) : Nat := clampNat 0 86399 x

/-- R56: the refused fields of CIVIL at instant `t`. -/
def CivilReq.bad (q : CivilReq) (t : Nat) : Bool :=
  match q.action with
  | .other _ => true
  | .set _ eo => decide (secondsWrap ≤ eo) || decide (eo * second ≤ t)
  | .keep => false
  | .cancel => false

/-- R56: a value of CIVIL was clamped. -/
def CivilReq.clamped (q : CivilReq) : Bool :=
  q.offset.any (fun x => clampOffset x ≠ x) || q.jam.any (fun x => clampJam x ≠ x)
    || match q.action with
       | .set o' _ => decide (clampOffset o' ≠ o')
       | _ => false

/-- R57 step 1, R72: new values of O and J; when either differs, the leap instant goes and the labels re-base. -/
def State.setCivil (o : Int) (j : Nat) (s : State) : State :=
  if o = s.civil.offset ∧ j = s.civil.jam then s
  else State.rebase s.civil s.now { s with civil := { s.civil with offset := o, jam := j, tL := none } }

/-- R57 step 2: the pending change after the action. -/
def PendingAction.apply (a : PendingAction) (p : Option (Int × Nat)) : Option (Int × Nat) :=
  match a with
  | .set o' eo => some (clampOffset o', eo)
  | .cancel => none
  | .keep => p
  | .other _ => p

/-- R57 steps 2 and 3: a pending change that differs is stored and the schedule computed again. -/
def State.setPending (p : Option (Int × Nat)) (s : State) : State :=
  if p = s.civil.pending then s else State.reschedule { s with civil := { s.civil with pending := p } }

/-- R57: the result of CIVIL. -/
def State.civilView (s : State) : CivilView :=
  ⟨s.civil.offset, s.civil.jam, s.civil.pending, s.civil.tB, s.civil.tn⟩

/-- R57: an accepted CIVIL. -/
def State.applyCivil (q : CivilReq) (s : State) : State :=
  let s1 := s.setCivil ((q.offset.map clampOffset).getD s.civil.offset) ((q.jam.map clampJam).getD s.civil.jam)
  s1.setPending (PendingAction.apply q.action s1.civil.pending)

/-- R56, R57: CIVIL. -/
def civilReply (q : CivilReq) (s : State) : State × Option Reply :=
  if CivilReq.bad q s.now then refuse .badField s
  else (s.applyCivil q, some (okOr (CivilReq.clamped q), .civil (s.applyCivil q).civilView))

/-- CIVIL (R56, R57). -/
def execCivil (l : Link) (t : Tag) (q : CivilReq) (s : State) : Host.Outcome State Fault Refusal :=
  .next (s.serve l t (.civil q) (forManagement l (civilReply q)))

/-! ## BIND -/

/-- R116 step 1: a new binding; waiting pulses are discarded when it differs from the present one. -/
def Output.rebind (o : Output) (b : Option EntryRef) : Output :=
  if b = o.binding then o else { o.discard with binding := b }

/-- R110: delay and width clamped against the bound entry, or to the unbound limits. -/
def State.fit (s : State) (o : Output) : Output :=
  match o.binding with
  | some r => o.fitTo s.entries[r.index].pf
  | none => o.fitFree

/-- R116 step 2: the fields that BIND gives, the divider clamped. -/
def BindReq.store (q : BindReq) (o : Output) : Output :=
  { o with divider := (q.divider.map (clampNat 1 65535)).getD o.divider, delay := q.delay.getD o.delay,
           width := q.width.getD o.width }

/-- R110: BIND makes the clamp: the output is newly bound, or its divider, delay or width is given. -/
def BindReq.refits (q : BindReq) (before after : Output) : Bool :=
  q.divider.isSome || q.delay.isSome || q.width.isSome || (after.binding.isSome && after.binding ≠ before.binding)

/-- R116 step 3: the enabled flag, at instant `t`. -/
def Output.setEnabled (o : Output) (b : Option Bool) (t : Int) : Output :=
  match b with
  | none => o
  | some true => { o with enabled := true }
  | some false => { (o.endPulse t).discard with enabled := false }

/-- R116 step 4: the polarity. -/
def Output.setPolarity (o : Output) (p : Option Polarity) : Output :=
  match p with
  | none => o
  | some v =>
    if v = o.polarity then { o with pendingPol := none }
    else if o.inProgress.isNone then { o with polarity := v, pendingPol := none }
    else { o with pendingPol := some v }

/-- R116 steps 1 to 4 with the binding already looked up. -/
def State.bindOutput (q : BindReq) (b : Option EntryRef) (o : Output) (s : State) : Output :=
  let o1 := o.rebind b
  let o2 := BindReq.store q o1
  let o3 := if BindReq.refits q o o1 then s.fit o2 else o2
  (o3.setEnabled q.enabled s.now).setPolarity (q.polarity.bind polarityOf)

/-- R115: a value of BIND was clamped. -/
def State.bindClamped (q : BindReq) (b : Option EntryRef) (o : Output) (s : State) : Bool :=
  let o2 := BindReq.store q (o.rebind b)
  q.divider.any (fun x => clampNat 1 65535 x ≠ x)
    || (BindReq.refits q o (o.rebind b) && ((s.fit o2).delay ≠ o2.delay || (s.fit o2).width ≠ o2.width))

/-- R115: the binding that BIND asks for, or the status of the handle check. -/
def State.bindTarget (a : BindAction) (o : Output) (s : State) : Except Status (Option EntryRef) :=
  match a with
  | .keep => .ok o.binding
  | .unbind => .ok none
  | .other _ => .error .badField
  | .bind h => (checkHandle s h).map fun i => some ⟨i, h.gen⟩

/-- R116, R117: BIND of output `o`. -/
def State.bindReplyOn (q : BindReq) (o : OutNo) (s : State) : State × Option Reply :=
  if badCode polarityOf q.polarity then refuse .badField s
  else
    match s.bindTarget q.action s.outs[o] with
    | .error st => refuse st s
    | .ok b =>
      let r := s.bindOutput q b s.outs[o]
      (s.setOutput o (if q.clear then { r with skipped := 0 } else r),
       some (okOr (s.bindClamped q b s.outs[o]), .output o (s.outputState r) r))

/-- R115: BIND. -/
def bindReply (q : BindReq) (s : State) : State × Option Reply :=
  if h : q.output < 16 then s.bindReplyOn q ⟨q.output, h⟩ else refuse .badField s

/-- BIND (R115 to R117). -/
def execBind (l : Link) (t : Tag) (q : BindReq) (s : State) : Host.Outcome State Fault Refusal :=
  .next (s.serve l t (.bind q) (forManagement l (bindReply q)))

/-! ## CHAIN -/

/-- R130: the range of the answer timeout. -/
def clampTimeout (x : Nat) : Nat := clampNat 2 200 x

/-- R130: the range of the orphan time. -/
def clampOrphan (x : Nat) : Nat := clampNat 1 600 x

/-- R130: a setting of CHAIN was clamped. -/
def ChainReq.clamped (q : ChainReq) : Bool :=
  q.timeout.any (fun x => clampTimeout x ≠ x) || q.orphan.any (fun x => clampOrphan x ≠ x)

/-- R130 steps 1 to 4: the settings present in a CHAIN. -/
def State.applyChainReq (q : ChainReq) (s : State) : State :=
  s.chainSettings ((q.timeout.map clampTimeout).getD s.chain.timeout) ((q.orphan.map clampOrphan).getD s.chain.orphan)
    (q.autoRelease.getD s.chain.autoRelease)

/-- R130: the result of CHAIN. -/
def State.chainView (s : State) : ChainView :=
  ⟨s.chain.state, s.chain.timeout, s.chain.orphan, s.chain.autoRelease, s.stationCounts⟩

/-- R130: CHAIN with the action `act`. -/
def chainReply (act : State → State) (q : ChainReq) (s : State) : State × Option Reply :=
  let s1 := act (s.applyChainReq q)
  (s1, some (okOr (ChainReq.clamped q), .chain s1.chainView))

/-- CHAIN with KEEP; an action octet that names none is refused (R130). -/
def execChain (l : Link) (t : Tag) (act : KeepAction) (q : ChainReq) (s : State) : Host.Outcome State Fault Refusal :=
  .next (s.serve l t (.chain act q) (forManagement l fun s =>
    match act with
    | .keep => chainReply id q s
    | .other _ => refuse .badField s))

/-- CHAIN with HOLD (R130, R131). -/
def execChainHold (l : Link) (t : Tag) (q : ChainReq) (s : State) : Host.Outcome State Fault Refusal :=
  .next (s.serve l t (.chainHold q) (forManagement l (chainReply State.holdChain q)))

/-- CHAIN with RELEASE (R130, R131). -/
def execChainRelease (l : Link) (t : Tag) (q : ChainReq) (s : State) : Host.Outcome State Fault Refusal :=
  .next (s.serve l t (.chainRelease q) (forManagement l (chainReply State.releaseChain q)))

/-! ## STATUS -/

/-- R172: the result of STATUS. -/
def State.statusView (s : State) : StatusView :=
  { causes := s.attn.causes, mask := s.attn.mask, mode := s.attn.mode, servo := s.servo.state,
    correction := s.servo.correction, integral := s.servo.integral, cls := s.quality, ageSeconds := s.ageSeconds,
    lastOffset := s.servo.lastOffset, good := s.servo.good, outliers := s.servo.outliers,
    counters := s.servo.counters, chain := s.chain.state, line := s.chain.line, counts := s.stationCounts,
    errors := s.port.errors, losses := s.port.losses, op := s.store.op.map fun x => (x.kind, x.bank),
    startBank := s.store.startBank, startOk := s.store.startOk }

/-- R172 step 3: the clear. -/
def State.clearFigures (s : State) : State :=
  { s with
    attn := { s.attn with causes := { CauseSet.none with entries := s.attn.causes.entries } }
    servo := { s.servo with counters := ⟨0, 0, 0, 0, 0⟩ }
    chain := { s.chain with line := LineCounters.zero }
    port := { s.port with errors := 0, losses := 0 } }

/-- R172 step 1: the attention action; `none` for one that is refused. -/
def State.attnAction (a : AttnAction) (s : State) : Option State :=
  match a with
  | .keep => some s
  | .other _ => none
  | .set mask mode => (attnModeOf mode).map fun m => s.setAttention m (CauseSet.ofByte mask)

/-- R172: STATUS. -/
def statusReply (clear : Bool) (a : AttnAction) (s : State) : State × Option Reply :=
  match s.attnAction a with
  | none => refuse .badField s
  | some s1 => (if clear then s1.clearFigures else s1, some (.ok, .status s1.statusView))

/-- STATUS (R172). -/
def execStatus (l : Link) (t : Tag) (clear : Bool) (act : AttnAction) (s : State) : Host.Outcome State Fault Refusal :=
  .next (s.serve l t (.status clear act) (forManagement l (statusReply clear act)))

end Sys2Proof.Machine
end

