-- ==== Sys2Proof/Machine/Lookups.lean ====
section
/-! DEFINITION. The requests that read: FIND, READ, LIST, NEXT, STATIONS and NOTICES (R24 to R27, R52, R167). -/

namespace Sys2Proof.Machine

open Sys2Proof Config

/-- R4: the entry that holds a name. -/
def State.nameHolder (s : State) (nm : List Byte) : Option Idx :=
  (List.finRange 64).find? fun i => s.entries[i].state ≠ .vacant && s.entries[i].name = some nm

/-- The handle of entry `i` as it stands. -/
def State.handleAt (s : State) (i : Idx) : Handle := handleOf i s.entries[i].gen

/-- R24: FIND. -/
def findReply (nm : List Byte) (s : State) : State × Option Reply :=
  if badName nm ∨ nm = [] then refuse .badField s
  else
    match s.nameHolder nm with
    | some i => (s, some (.ok, .handle (s.handleAt i)))
    | none => refuse .notFound s

/-- R25: READ. -/
def readReply (h : Handle) (s : State) : State × Option Reply :=
  onEntry h (fun i s => (s, some (.ok, .entry i s.entries[i]))) s

/-- R26: the non-VACANT entries at or above a start index, in ascending order. -/
def State.livingFrom (s : State) (start : Nat) : List Idx :=
  (List.finRange 64).filter fun i => start ≤ i.val && s.entries[i].state ≠ .vacant

/-- R26: LIST. -/
def listReply (start : Nat) (s : State) : State × Option Reply :=
  if 63 < start then refuse .badField s
  else
    let found := s.livingFrom start
    (s, some (.ok, .handles ((found.take 8).map s.handleAt) (decide (8 < found.length))))

/-- R52: the result of NEXT for entry `i` and count `n`. -/
def State.nextView (s : State) (i : Idx) (n : Nat) : NextView :=
  let e := s.entries[i]
  let k := e.nextMark + n
  let a := e.foreseen k
  { handle := s.handleAt i, state := e.state, motion := e.motion, index := k, instant := a,
    label := e.labelUnprojected k, afterEnd := e.pastEnd a }

/-- R52: NEXT. -/
def nextReply (h : Handle) (n : Nat) (s : State) : State × Option Reply :=
  onEntry h (fun i s =>
    (s, some (okOr (decide (16777215 < n)), .next (s.nextView i (clampNat 0 16777215 n))))) s

/-- R167: what slot `v` is shown to hold. -/
def Slot.kind : Slot → SlotKind
  | .empty => .empty
  | .request _ => .request
  | .result _ => .result

/-- R167: the snapshot of station `x`, read by link `l`; a station finds its own slot shown as REQUEST. -/
def State.stationView (s : State) (l : Link) (x : Addr) : StationView :=
  let r := s.stations[x]
  { address := x.val + 1, state := r.state, delta := r.delta, trip := r.trip, lastRange := r.lastRange,
    rangeDue := r.rangeDue, dueSince := r.dueSince, missed := r.missed, garbled := r.garbled,
    silentSince := r.silentSince, conflictSince := r.conflictSince,
    slot := if l = .station x then .request else r.slot.kind, owed := r.owed.isSome, stream := r.stream,
    owned := r.owned, watchList := r.watchList, noticeCount := r.notices.length }

/-- R167: STATIONS. -/
def stationsReply (l : Link) (a : Nat) (s : State) : State × Option Reply :=
  if h : 1 ≤ a ∧ a ≤ 30 then (s, some (.ok, .station (s.stationView l ⟨a - 1, by omega⟩)))
  else refuse .badField s

/-- R7: the notice set of a link. -/
def State.noticesOf (s : State) : Link → List Idx
  | .mgmt => s.mgmtNotices
  | .station x => s.stations[x].notices

/-- R27: a notice set read, `rest` left in it. -/
def State.leaveNotices (l : Link) (rest : List Idx) (s : State) : State :=
  match l with
  | .mgmt => State.settleEntries { s with mgmtNotices := rest }
  | .station x => s.setStation x { s.stations[x] with notices := rest }

/-- R27: NOTICES. -/
def noticesReply (l : Link) (s : State) : State × Option Reply :=
  let all := s.noticesOf l
  let rest := all.drop 12
  (s.leaveNotices l rest,
   some (.ok, .notices ((all.take 12).map fun i => (s.handleAt i, s.entries[i].state)) (decide (rest ≠ []))))

/-- FIND (R24). -/
def execFind (l : Link) (t : Tag) (name : List Byte) (s : State) : Host.Outcome State Fault Refusal :=
  .next (s.serve l t (.find name) (findReply name))

/-- READ (R25). -/
def execRead (l : Link) (t : Tag) (h : Handle) (s : State) : Host.Outcome State Fault Refusal :=
  .next (s.serve l t (.read h) (readReply h))

/-- LIST (R26). -/
def execList (l : Link) (t : Tag) (start : Nat) (s : State) : Host.Outcome State Fault Refusal :=
  .next (s.serve l t (.list start) (listReply start))

/-- NEXT (R52). -/
def execNext (l : Link) (t : Tag) (h : Handle) (n : Nat) (s : State) : Host.Outcome State Fault Refusal :=
  .next (s.serve l t (.next h n) (nextReply h n))

/-- STATIONS (R167). -/
def execStations (l : Link) (t : Tag) (a : Nat) (s : State) : Host.Outcome State Fault Refusal :=
  .next (s.serve l t (.stations a) (stationsReply l a))

/-- NOTICES (R27). -/
def execNotices (l : Link) (t : Tag) (s : State) : Host.Outcome State Fault Refusal :=
  .next (s.serve l t .notices (noticesReply l))

end Sys2Proof.Machine
end

