-- ==== Sys2Proof/Machine/TableRequests.lean ====
section
/-! DEFINITION. The requests that create, change and retire entries, and tie links to them: CREATE, SET, REALIGN, RETIRE
with and without an end instant, WATCH, UNWATCH, STREAM and UNSTREAM (R10 to R23, R51, R151, R152). -/

namespace Sys2Proof.Machine

open Sys2Proof Config

/-! ## CREATE -/

/-- R10, R173: what an entry is made from: the fields of CREATE with its defaults, or a definition of a bank. -/
structure EntryDef where
  name : Option (List Byte)
  num : Nat
  den : Nat
  phi : Int
  policy : Policy
  slew : Nat
  label : LabelMode
  deriving DecidableEq, Repr

/-- R11: the entry made from `d` at instant `t` by link `l`, at generation `g`. -/
def EntryDef.entry (d : EntryDef) (g : BitVec 8) (l : Link) (t : Nat) (c : Civil) : Entry :=
  let pf := wholePeriod d.num d.den
  let e : Entry :=
    { Entry.vacantAt g with
      state := .pending, motion := .pending, owner := l, name := d.name, num := d.num, den := d.den, pf := pf,
      phi := clampPhase pf d.phi, policy := d.policy, slew := clampSlew pf d.slew,
      label := degrade d.label d.num d.den }
  (e.withBases c).waitFrom t

/-- R11: φ or s was clamped or the label mode degraded. -/
def EntryDef.clamped (d : EntryDef) : Bool :=
  let pf := wholePeriod d.num d.den
  clampPhase pf d.phi ≠ d.phi || clampSlew pf d.slew ≠ d.slew || degrade d.label d.num d.den ≠ d.label

/-- R11: the lowest-indexed VACANT entry. -/
def State.lowestVacant (s : State) : Option Idx := (List.finRange 64).find? fun i => s.entries[i].state = .vacant

/-- R5: the owned count of a station owner increments. -/
def State.own (l : Link) (s : State) : State :=
  match l with
  | .mgmt => s
  | .station x => s.setStation x { s.stations[x] with owned := s.stations[x].owned + 1 }

/-- R11: entry `i` filled from `d` for link `l`, at the present instant. -/
def State.fillEntry (i : Idx) (l : Link) (d : EntryDef) (s : State) : State :=
  (s.setEntry i (d.entry s.entries[i].gen l s.now s.civil)).own l

/-- R5: the quota of 8 entries of a station is used. -/
def State.quotaUsed (s : State) : Link → Bool
  | .mgmt => false
  | .station x => s.stations[x].owned = 8

/-- R4: a name is held by a non-VACANT entry. -/
def State.nameHeld (s : State) : Option (List Byte) → Bool
  | none => false
  | some nm => (s.nameHolder nm).isSome

/-- R10: the refused fields of CREATE. -/
def CreateReq.bad (q : CreateReq) : Bool :=
  badRate q.num q.den || badCode policyOf q.policy || badCode labelModeOf q.label || q.name.any badName

/-- R10: the fields of CREATE with the defaults in place of absent ones. -/
def CreateReq.toDef (q : CreateReq) : EntryDef :=
  { name := q.name.bind nameField, num := q.num, den := q.den, phi := q.phi.getD 0,
    policy := (q.policy.bind policyOf).getD .slew, slew := q.slew.getD (min 1000 (wholePeriod q.num q.den / 4)),
    label := (q.label.bind labelModeOf).getD .none }

/-- R10, R11: CREATE; a CLAMPED result shows the values as stored (R166). -/
def createReply (l : Link) (q : CreateReq) (s : State) : State × Option Reply :=
  if CreateReq.bad q then refuse .badField s
  else
    let d := CreateReq.toDef q
    match s.lowestVacant with
    | none => refuse .full s
    | some i =>
      if s.quotaUsed l then refuse .full s
      else if s.nameHeld d.name then refuse .nameTaken s
      else
        let s1 := s.fillEntry i l d
        (s1, some (okOr d.clamped,
          if d.clamped then .created (s.handleAt i) s1.entries[i].storedView else .handle (s.handleAt i)))

/-! ## SET -/

/-- The state in the course of a SET: whether a value was clamped or degraded, whether a notice is due, and whether the end
check is due (R14, R20). -/
structure Edit where
  state : State
  clamped : Bool
  notice : Bool
  moved : Bool
  deriving DecidableEq, Repr

/-- R15: the entry restarted at a new rate, at instant `t`. -/
def Entry.restart (e : Entry) (num den t : Nat) (c : Civil) : Entry :=
  let pf := wholePeriod num den
  let e1 : Entry :=
    { e with num := num, den := den, pf := pf, phi := clampPhase pf e.phi, slew := clampSlew pf e.slew,
             label := degrade e.label num den, eps := 0, kl := none, lm := none, endTaken := false }
  ((e1.withBases c).waitFrom t).withMotion .pending

/-- R15: a masked rate. -/
def Edit.rate (i : Idx) (rate : Option (Nat × Nat)) (x : Edit) : Edit :=
  match rate with
  | none => x
  | some (num, den) =>
    let s := x.state
    let e := s.entries[i]
    if num * e.den = e.num * den then { x with state := s.setEntry i { e with num := num, den := den } }
    else
      let e' := e.restart num den s.now s.civil
      { state := ((s.stopPulses i).setEntry i e').replan i .restarted s.now
        clamped := x.clamped || e'.phi ≠ e.phi || e'.slew ≠ e.slew || e'.label ≠ e.label
        notice := true, moved := true }

/-- R16: a masked φ. -/
def Edit.phase (i : Idx) (phi : Option Int) (x : Edit) : Edit :=
  match phi with
  | none => x
  | some v =>
    let e := x.state.entries[i]
    let v' := clampPhase e.pf v
    if v' = e.phi then { x with clamped := x.clamped || v' ≠ v }
    else { state := x.state.phaseChange i v', clamped := x.clamped || v' ≠ v, notice := true, moved := true }

/-- R16: a masked slew step. -/
def Edit.slew (i : Idx) (sl : Option Nat) (x : Edit) : Edit :=
  match sl with
  | none => x
  | some v =>
    let e := x.state.entries[i]
    let v' := clampSlew e.pf v
    { x with state := (x.state.setEntry i { e with slew := v' }).replan i (.recompute e) x.state.now
             clamped := x.clamped || v' ≠ v }

/-- R16: a masked policy. -/
def Edit.policy (i : Idx) (p : Option Policy) (x : Edit) : Edit :=
  match p with
  | none => x
  | some v =>
    let e := x.state.entries[i]
    { x with state := x.state.setEntry i { e with policy := v }, notice := x.notice || v ≠ e.policy }

/-- R16, R64: a masked label mode, degraded where the rate does not allow it. -/
def Edit.label (i : Idx) (m : Option LabelMode) (x : Edit) : Edit :=
  match m with
  | none => x
  | some v =>
    let e := x.state.entries[i]
    let v' := degrade v e.num e.den
    if v' = e.label then { x with clamped := x.clamped || v' ≠ v }
    else { x with state := x.state.setEntry i ({ e with label := v' }.withBases x.state.civil)
                  clamped := x.clamped || v' ≠ v, notice := true }

/-- R16: a masked name. -/
def Edit.name (i : Idx) (nm : Option (List Byte)) (x : Edit) : Edit :=
  match nm with
  | none => x
  | some v => { x with state := x.state.setEntry i { x.state.entries[i] with name := nameField v } }

/-- R14: the masked fields applied in order: rate, φ, s, policy, label mode, name. -/
def SetReq.apply (q : SetReq) (i : Idx) (s : State) : Edit :=
  let x0 : Edit := { state := s, clamped := false, notice := false, moved := false }
  let x1 := (x0.rate i q.rate).phase i q.phi
  let x2 := (x1.slew i q.slew).policy i (q.policy.bind policyOf)
  (x2.label i (q.label.bind labelModeOf)).name i q.name

/-- R7, R14, R20: the notice and the end check that a SET leads to. -/
def Edit.finish (i : Idx) (x : Edit) : State :=
  let s1 := if x.notice then x.state.notify i else x.state
  if x.moved then s1.endCheck i else s1

/-- R14: the refused fields of SET. -/
def SetReq.bad (q : SetReq) : Bool :=
  q.rate.any (fun r => badRate r.1 r.2) || badCode policyOf q.policy || badCode labelModeOf q.label
    || q.name.any badName

/-- R14: a masked name held by another non-VACANT entry. -/
def SetReq.nameClash (q : SetReq) (i : Idx) (s : State) : Bool :=
  match q.name.bind nameField with
  | none => false
  | some nm => (List.finRange 64).any fun j =>
      j ≠ i && s.entries[j].state ≠ .vacant && s.entries[j].name = some nm

/-- R14: SET; a CLAMPED result shows the values as stored (R166). DESIGN CHOICE (log entry 64): where the end check of the same
request retires the ENDING entry, the result shows φ, s and the label mode as the SET stored them, before the retirement. -/
def setReply (l : Link) (q : SetReq) (s : State) : State × Option Reply :=
  if SetReq.bad q then refuse .badField s
  else onEntry q.handle (fun i s => withAuthority l i (fun s =>
    if SetReq.nameClash q i s then refuse .nameTaken s
    else
      let x := SetReq.apply q i s
      (x.finish i, some (okOr x.clamped, if x.clamped then .stored x.state.entries[i].storedView else .empty))) s) s

/-! ## REALIGN, RETIRE -/

/-- R51: REALIGN of entry `i`. -/
def State.realign (i : Idx) (s : State) : State :=
  let e := s.entries[i]
  match e.motion with
  | .held =>
    if e.policy = .slew ∧ e.eps.natAbs ≤ s.servo.params.slewRange then
      ((((s.shiftPulses i 0 s.now).setEntry i (e.withMotion .slewing)).replan i (.recompute e) s.now).notify i).endCheck i
    else ((s.snap i (-e.eps) s.now).notify i).endCheck i
  | .slewing => ((s.snap i (-e.eps) s.now).notify i).endCheck i
  | .running => s
  | .pending => s

/-- R51: REALIGN. -/
def realignReply (l : Link) (h : Handle) (s : State) : State × Option Reply :=
  onEntry h (fun i s => withAuthority l i (fun s => (s.realign i, some (.ok, .empty))) s) s

/-- R18: RETIRE without an end instant. -/
def retireReply (l : Link) (h : Handle) (s : State) : State × Option Reply :=
  onEntry h (fun i s => withAuthority l i (fun s => (s.retire i, some (.ok, .empty))) s) s

/-- R19: entry `i` takes end instant `x`, already clamped. -/
def State.setEnd (i : Idx) (x : Nat) (s : State) : State :=
  let e := s.entries[i]
  let s1 := (s.setEntry i { e with state := .ending, endAt := some x, endTaken := false }).replan i (.recompute e) s.now
  (if e.state = .ending then s1 else s1.notify i).endCheck i

/-- R19: RETIRE with an end instant; a CLAMPED result shows E as stored (R166). -/
def retireWithEndReply (l : Link) (h : Handle) (e : Instant) (s : State) : State × Option Reply :=
  onEntry h (fun i s => withAuthority l i (fun s =>
    let (ns, cut) := instantNs e
    let x := clampNat (s.now + startGuard) (s.now + endReach) ns
    let moved := cut || x ≠ ns
    (s.setEnd i x, some (okOr moved, if moved then .storedEnd x else .empty))) s) s

/-! ## WATCH, UNWATCH -/

/-- R22: WATCH of entry `i` by link `l`. -/
def watchEntry (l : Link) (i : Idx) (s : State) : State × Option Reply :=
  let e := s.entries[i]
  match l with
  | .mgmt => (s.setEntry i { e with mgmtWatch := true }, some (.ok, .empty))
  | .station x =>
    let r := s.stations[x]
    if x ∈ e.watchers then (s, some (.ok, .empty))
    else if 8 ≤ e.watchers.length ∨ 8 ≤ r.watchList.length then refuse .full s
    else ((s.setEntry i { e with watchers := e.watchers ++ [x] }).setStation x
            { r with watchList := r.watchList ++ [i] }, some (.ok, .empty))

/-- R23: UNWATCH of entry `i` by link `l`. -/
def unwatchEntry (l : Link) (i : Idx) (s : State) : State × Option Reply :=
  let e := s.entries[i]
  match l with
  | .mgmt => (s.setEntry i { e with mgmtWatch := false }, some (.ok, .empty))
  | .station x =>
    let r := s.stations[x]
    if x ∈ e.watchers then
      ((s.setEntry i { e with watchers := e.watchers.erase x }).setStation x
        { r with watchList := r.watchList.erase i }, some (.ok, .empty))
    else (s, some (.ok, .empty))

/-! ## STREAM, UNSTREAM -/

/-- R151: the stream that a station of path delay `delta` opens on entry `e`, referred to by `ref`, at instant `t`. DESIGN CHOICE
(log entry 67): it is ACTIVE, with no hold timer, also where its station has become SILENT since the request arrived. -/
def openStream (ref : EntryRef) (e : Entry) (d lead : Nat) (delta : Option Nat) (t : Nat) : Stream :=
  let st : Stream := { entry := ref, step := d, lead := lead, kr := none, s0 := none, last := none, skipped := 0,
                       state := .active, holdStart := none }
  st.choose e delta t none false

/-- R151: STREAM from station `x` on entry `i`; a CLAMPED result shows the step and the lead as stored (R166). -/
def streamEntry (x : Addr) (i : Idx) (d lead : Nat) (s : State) : State × Option Reply :=
  let e := s.entries[i]
  let d' := max (clampNat 1 65535 d) (leastStep e.pf)
  let lead' := clampNat 10000 10000000 lead
  let s1 := s.closeStream x
  let r := s1.stations[x]
  (s1.setStation x { r with stream := some (openStream ⟨i, e.gen⟩ e d' lead' r.delta s.now) },
   some (okOr (decide (d' ≠ d ∨ lead' ≠ lead)), if d' ≠ d ∨ lead' ≠ lead then .storedStream d' lead' else .empty))

/-- R151: STREAM. -/
def streamReply (l : Link) (h : Handle) (d lead : Nat) (s : State) : State × Option Reply :=
  forStation l (fun x s => onEntry h (fun i s => streamEntry x i d lead s) s) s

/-- R152: UNSTREAM. -/
def unstreamReply (l : Link) (s : State) : State × Option Reply :=
  forStation l (fun x s => (s.closeStream x, some (.ok, .empty))) s

/-! ## The commands -/

/-- CREATE (R10, R11). -/
def execCreate (l : Link) (t : Tag) (q : CreateReq) (s : State) : Host.Outcome State Fault Refusal :=
  .next (s.serve l t (.create q) (createReply l q))

/-- SET (R14 to R16). -/
def execSet (l : Link) (t : Tag) (q : SetReq) (s : State) : Host.Outcome State Fault Refusal :=
  .next (s.serve l t (.set q) (setReply l q))

/-- REALIGN (R51). -/
def execRealign (l : Link) (t : Tag) (h : Handle) (s : State) : Host.Outcome State Fault Refusal :=
  .next (s.serve l t (.realign h) (realignReply l h))

/-- RETIRE without an end instant (R18). -/
def execRetire (l : Link) (t : Tag) (h : Handle) (s : State) : Host.Outcome State Fault Refusal :=
  .next (s.serve l t (.retire h) (retireReply l h))

/-- RETIRE with an end instant (R19). -/
def execRetireWithEnd (l : Link) (t : Tag) (h : Handle) (e : Instant) (s : State) :
    Host.Outcome State Fault Refusal :=
  .next (s.serve l t (.retireWithEnd h e) (retireWithEndReply l h e))

/-- WATCH (R22). -/
def execWatch (l : Link) (t : Tag) (h : Handle) (s : State) : Host.Outcome State Fault Refusal :=
  .next (s.serve l t (.watch h) (onEntry h (watchEntry l)))

/-- UNWATCH (R23). -/
def execUnwatch (l : Link) (t : Tag) (h : Handle) (s : State) : Host.Outcome State Fault Refusal :=
  .next (s.serve l t (.unwatch h) (onEntry h (unwatchEntry l)))

/-- STREAM (R151). -/
def execStream (l : Link) (t : Tag) (h : Handle) (d lead : Nat) (s : State) : Host.Outcome State Fault Refusal :=
  .next (s.serve l t (.stream h d lead) (streamReply l h d lead))

/-- UNSTREAM (R152). -/
def execUnstream (l : Link) (t : Tag) (s : State) : Host.Outcome State Fault Refusal :=
  .next (s.serve l t .unstream (unstreamReply l))

end Sys2Proof.Machine
end

