-- ==== Sys2Proof/Machine/Banks.lean ====
section
/-! DEFINITION. The profile banks and the resets: the content of a bank as words (R173, R181), SAVE, LOAD, the start bank
load and what applying a bank does (R174 to R176, R30, R120), soft and hard reset (R176, R177). -/

namespace Sys2Proof.Machine

open Sys2Proof Config

/-! ## Bank content (R173, R181) -/

/-- R120: one output record of a bank. -/
structure OutputDef where
  enabled : Bool
  divider : Nat
  delay : Nat
  width : Nat
  polarity : Polarity
  /-- The position in the bank's list of definitions, as its word gives it. -/
  binding : Option Nat
  deriving DecidableEq, Repr

/-- R173: the content of a bank. -/
structure BankContent where
  params : ServoParams
  offset : Int
  jam : Nat
  timeout : Nat
  orphan : Nat
  autoRelease : Bool
  mode : AttnMode
  mask : CauseSet
  defs : List EntryDef
  outs : Vector OutputDef 16
  deriving DecidableEq, Repr

/-- R118: the built-in output record. -/
def OutputDef.builtIn : OutputDef := ⟨false, 1, 0, 1000, .activeHigh, none⟩

/-- R176, R177: the built-in defaults of every block. -/
def BankContent.builtIn : BankContent :=
  { params := ServoParams.builtIn, offset := 0, jam := 0, timeout := 20, orphan := 30, autoRelease := false,
    mode := .level, mask := CauseSet.all, defs := [], outs := Vector.replicate 16 OutputDef.builtIn }

/-! ### Writing -/

/-- A number as a word. -/
def wordOf (x : Nat) : Word32 := BitVec.ofNat 32 x

/-- R181: a delay or width, the low word first. -/
def wideWords (x : Nat) : List Word32 := [wordOf x, wordOf (x / 4294967296)]

/-- R181: a name: its length, then three words of characters. -/
def nameWords (n : Option (List Byte)) : List Word32 :=
  let cs := n.getD []
  let padded := cs ++ List.replicate (12 - cs.length) 0
  [wordOf cs.length, wordOf (leValue (padded.take 4)), wordOf (leValue ((padded.drop 4).take 4)),
   wordOf (leValue ((padded.drop 8).take 4))]

/-- R181: a definition, ten words. -/
def EntryDef.words (d : EntryDef) : List Word32 :=
  nameWords d.name ++ [wordOf d.num, wordOf d.den, BitVec.ofInt 32 d.phi, wordOf d.policy.code.toNat, wordOf d.slew,
    wordOf d.label.code.toNat]

/-- R181: an output record, eight words. -/
def OutputDef.words (o : OutputDef) : List Word32 :=
  [wordOf (if o.enabled then 1 else 0), wordOf o.divider] ++ wideWords o.delay ++ wideWords o.width
    ++ [wordOf o.polarity.code.toNat, (o.binding.map wordOf).getD 0xFFFFFFFF#32]

/-- R100, R181: the parameters, twelve words. -/
def ServoParams.words (p : ServoParams) : List Word32 :=
  [wordOf p.sth, wordOf p.lockWin, wordOf p.lockCount, wordOf p.unlockWin, wordOf p.persist, wordOf p.kp, wordOf p.ki,
   wordOf p.limit, wordOf p.timeout, wordOf p.ageLimit, wordOf p.minGrade, wordOf p.slewRange]

/-- R181: the content words of a bank. -/
def BankContent.words (c : BankContent) : List Word32 :=
  [bankMarker] ++ c.params.words ++ [BitVec.ofInt 32 c.offset, wordOf c.jam]
  ++ [wordOf c.timeout, wordOf c.orphan, wordOf (if c.autoRelease then 1 else 0)]
  ++ [wordOf c.mode.code.toNat, wordOf c.mask.toByte.toNat, wordOf c.defs.length]
  ++ (c.defs.map EntryDef.words).flatten ++ (c.outs.toList.map OutputDef.words).flatten

/-- The sum of words modulo 2^32. -/
def sumWords (ws : List Word32) : Word32 := ws.foldl (· + ·) 0

/-- R173: the bank, content words and check word. -/
def BankContent.bank (c : BankContent) : List Word32 := c.words ++ [-(sumWords c.words)]

/-! ### Reading -/

/-- Word `i` as a number. -/
def wordAt (ws : List Word32) (i : Nat) : Nat := (ws.getD i 0).toNat

/-- Word `i` as a signed number. -/
def intAt (ws : List Word32) (i : Nat) : Int := (ws.getD i 0).toInt

/-- Words `i` and `i + 1` as one number. -/
def wideAt (ws : List Word32) (i : Nat) : Nat := wordAt ws i + 4294967296 * wordAt ws (i + 1)

/-- A character brought into 20h..7Eh (log entry 41). -/
def clampChar (c : Byte) : Byte := BitVec.ofNat 8 (clampNat 0x20 0x7E c.toNat)

/-- R181: the name at word `i`. -/
def nameAt (ws : List Word32) (i : Nat) : Option (List Byte) :=
  let chars := leOctets 4 (wordAt ws (i + 1)) ++ leOctets 4 (wordAt ws (i + 2)) ++ leOctets 4 (wordAt ws (i + 3))
  nameField ((chars.take (min 12 (wordAt ws i))).map clampChar)

/-- R181: the definition at word `i`, its rate brought into the range of R166 (log entry 41). -/
def defAt (ws : List Word32) (i : Nat) : EntryDef :=
  let den := clampNat 1 1001 (wordAt ws (i + 5))
  { name := nameAt ws i, num := clampNat den (240000 * den) (wordAt ws (i + 4)), den := den, phi := intAt ws (i + 6),
    policy := (policyOf (min 2 (wordAt ws (i + 7)))).getD .hold, slew := wordAt ws (i + 8),
    label := (labelModeOf (min 2 (wordAt ws (i + 9)))).getD .drop }

/-- R181: the output record at word `i`. -/
def outAt (ws : List Word32) (i : Nat) : OutputDef :=
  { enabled := wordAt ws i ≠ 0, divider := clampNat 1 65535 (wordAt ws (i + 1)), delay := wideAt ws (i + 2),
    width := wideAt ws (i + 4), polarity := (polarityOf (min 1 (wordAt ws (i + 6)))).getD .activeLow,
    binding := if wordAt ws (i + 7) = 4294967295 then none else some (wordAt ws (i + 7)) }

/-- R100, R181: the parameters, as their words give them. -/
def paramsAt (ws : List Word32) : ServoParams :=
  ⟨wordAt ws 1, wordAt ws 2, wordAt ws 3, wordAt ws 4, wordAt ws 5, wordAt ws 6, wordAt ws 7, wordAt ws 8,
   wordAt ws 9, wordAt ws 10, wordAt ws 11, wordAt ws 12⟩

/-- R173: the definition count. -/
def defCount (ws : List Word32) : Nat := wordAt ws 20

/-- R173: a bank passes its check. -/
def bankPasses (ws : List Word32) : Bool :=
  ws.getD 0 0 = bankMarker && defCount ws ≤ 64 && ws.length = 150 + 10 * defCount ws && sumWords ws = 0

/-- R181: the content of a bank that passes its check, its values brought into their ranges. DESIGN CHOICE (log entry 10): bits
5 to 31 of the attention mask word are dropped. -/
def readBank (ws : List Word32) : BankContent :=
  let n := defCount ws
  { params := (paramsAt ws).fit, offset := clampOffset (intAt ws 13), jam := clampJam (wordAt ws 14),
    timeout := clampTimeout (wordAt ws 15), orphan := clampOrphan (wordAt ws 16), autoRelease := wordAt ws 17 ≠ 0,
    mode := (attnModeOf (min 1 (wordAt ws 18))).getD .pulse, mask := CauseSet.ofByte (BitVec.ofNat 8 (wordAt ws 19)),
    defs := (List.range n).map fun j => defAt ws (21 + 10 * j),
    outs := Vector.ofFn fun o : Fin 16 => outAt ws (21 + 10 * n + 8 * o.val) }

/-! ## Applying a bank (R175, R30, R120) -/

/-- R30 step 1: the owner-0 entries are retired in ascending index order; every entry is, where `all` holds. -/
def State.retireForBank (all : Bool) (s : State) : State :=
  (List.finRange 64).foldl (fun s i =>
    if s.entries[i].state ≠ .vacant ∧ (all = true ∨ s.entries[i].owner = .mgmt) then s.retire i else s) s

/-- R120: an output is unbound and takes a bank's settings. -/
def Output.takeBank (o : Output) (d : OutputDef) : Output :=
  ({ o.unbind with enabled := d.enabled, divider := d.divider, delay := d.delay, width := d.width }.fitFree).setPolarity
    (some d.polarity)

/-- R30 steps 2 and 3: entries are created from definitions; a skipped definition gives no entry. -/
def createDefs : List EntryDef → State → State × List (Option EntryRef)
  | [], s => (s, [])
  | d :: ds, s =>
    match s.lowestVacant with
    | some i =>
      if s.nameHeld d.name then
        let (s1, rs) := createDefs ds s
        (s1, none :: rs)
      else
        let (s1, rs) := createDefs ds (s.fillEntry i .mgmt d)
        (s1, some ⟨i, s.entries[i].gen⟩ :: rs)
    | none =>
      let (s1, rs) := createDefs ds s
      (s1, none :: rs)

/-- R120: the entry created from the definition that a binding position names. -/
def boundRef (made : List (Option EntryRef)) (p : Option Nat) : Option EntryRef :=
  p.bind fun k => (made.getD k none)

/-- R120: every output whose record names a created entry is bound to it and clamped against it. -/
def State.bindByPosition (outs : Vector OutputDef 16) (made : List (Option EntryRef)) (s : State) : State :=
  { s with outs := Vector.ofFn fun o : Fin 16 =>
      match boundRef made outs[o].binding with
      | some r => { s.outs[o] with binding := some r }.fitTo s.entries[r.index].pf
      | none => s.outs[o] }

/-- R175 steps 1 to 4: attention, servo, civil and chain settings; `always` has the labels re-base although neither O nor J
differs, as at a start bank load (R71). -/
def State.takeSettings (c : BankContent) (always : Bool) (s : State) : State :=
  let s1 := (s.setAttention c.mode c.mask).applyParams c.params
  let s2 := s1.setCivil c.offset c.jam
  let s3 := if always then s2.rebase s2.civil s2.now else s2
  s3.chainSettings c.timeout c.orphan c.autoRelease

/-- R175 steps 5 and 6: the owner-0 entries, or every entry where `all` holds, and the outputs make way for the bank's. -/
def State.makeWay (c : BankContent) (all : Bool) (s : State) : State :=
  let s1 := s.retireForBank all
  { s1 with outs := Vector.ofFn fun o : Fin 16 => s1.outs[o].takeBank c.outs[o] }

/-- R175 steps 1 to 7: the bank applied, and what became of each definition. `always` is that of `takeSettings`, `all` that of
`makeWay`. -/
def State.applyBank (c : BankContent) (always all : Bool) (s : State) : State × List (Option EntryRef) :=
  let (s1, made) := createDefs c.defs ((s.takeSettings c always).makeWay c all)
  (s1.bindByPosition c.outs made, made)

/-! ## SAVE (R174) -/

/-- The non-VACANT owner-0 entries in index order. -/
def State.savedEntries (s : State) : List Idx :=
  (List.finRange 64).filter fun i => s.entries[i].state ≠ .vacant && s.entries[i].owner = .mgmt

/-- An entry as a definition. -/
def Entry.toDef (e : Entry) : EntryDef := ⟨e.name, e.num, e.den, e.phi, e.policy, e.slew, e.label⟩

/-- R120: an output as SAVE records it, `saved` the entries saved. -/
def Output.toDef (o : Output) (saved : List Idx) : OutputDef :=
  { enabled := o.enabled, divider := o.divider, delay := o.delay, width := o.width, polarity := o.polarity,
    binding := o.binding.bind fun r => if r.index ∈ saved then some (saved.idxOf r.index) else none }

/-- R174: the content a SAVE records. -/
def State.bankContent (s : State) : BankContent :=
  { params := s.servo.params, offset := s.civil.offset, jam := s.civil.jam, timeout := s.chain.timeout,
    orphan := s.chain.orphan, autoRelease := s.chain.autoRelease, mode := s.attn.mode, mask := s.attn.mask,
    defs := s.savedEntries.map fun i => s.entries[i].toDef,
    outs := Vector.ofFn fun o : Fin 16 => s.outs[o].toDef s.savedEntries }

/-- Bank `b` replaced. -/
def State.setBank (b : Fin 4) (ws : List Word32) (s : State) : State :=
  { s with store := { s.store with banks := s.store.banks.set b ws } }

/-- R173: a store operation begins. -/
def State.beginOp (x : StoreOp) (s : State) : State := { s with store := { s.store with op := some x } }

/-- R166, R173: a request for bank `n` that starts an operation. -/
def onBank (n : Nat) (h : Fin 4 → State → State × Option Reply) (s : State) : State × Option Reply :=
  if hn : n < 4 then
    if s.store.op.isSome then refuse .busy s else h ⟨n, hn⟩ s
  else refuse .badField s

/-- R174: an accepted SAVE: the snapshot is taken and the bank's old content is lost. -/
def startSave (t : Tag) (b : Fin 4) (s : State) : State × Option Reply :=
  ((s.beginOp ⟨.save, b, some t, s.bankContent.bank⟩).setBank b [], none)

/-- SAVE (R174). -/
def execSave (l : Link) (t : Tag) (bank : Nat) (s : State) : Host.Outcome State Fault Refusal :=
  .next (s.serve l t (.save bank) (forManagement l (onBank bank (startSave t))))

/-- The operation ends, STORE is raised and a result for tag `t` is formed (R161, R174). -/
def State.endOp (code : Byte) (t : Tag) (st : Status) (b : Body) (s : State) : State :=
  (State.raise .store { s with store := { s.store with op := none } }).completeOp ⟨code, t, st, b⟩

/-- R174: the marker word that a failed verify leaves; a value that fails. -/
def badMarker (b : Fin 4) : Word32 :=
  if failMarker b.val = bankMarker then ~~~bankMarker else failMarker b.val

/-- R174: the completion of SAVE operation `x`, with the words read back. -/
def State.finishSave (x : StoreOp) (stored : List Word32) (s : State) : State :=
  let t := x.tag.getD 0
  if stored = x.snapshot then (s.setBank x.bank x.snapshot).endOp (requestCode (.save x.bank.val)) t .ok .empty
  else (s.setBank x.bank (badMarker x.bank :: stored.drop 1)).endOp (requestCode (.save x.bank.val)) t .storeFault .empty

/-- SAVE_COMPLETION (R174). -/
def execSaveCompletion (stored : List Word32) (s : State) : Host.Outcome State Fault Refusal :=
  .next (s.whenReleased fun s =>
    match s.store.op with
    | some x => if x.kind = .save then s.finishSave x stored else s
    | none => s)

/-! ## LOAD (R175) -/

/-- LOAD (R175). -/
def execLoad (l : Link) (t : Tag) (bank : Nat) (s : State) : Host.Outcome State Fault Refusal :=
  .next (s.serve l t (.load bank) (forManagement l (onBank bank fun b s =>
    (s.beginOp ⟨.load, b, some t, []⟩, none))))

/-- R175: the positions of the definitions that were skipped. -/
def skippedPositions (made : List (Option EntryRef)) : List Nat :=
  (List.range made.length).filter fun k => (made.getD k none).isNone

/-- R175: the completion of LOAD operation `x`. -/
def State.finishLoad (x : StoreOp) (s : State) : State :=
  let t := x.tag.getD 0
  let ws := s.store.banks[x.bank]
  if bankPasses ws then
    let (s1, made) := s.applyBank (readBank ws) false false
    let skipped := skippedPositions made
    s1.endOp (requestCode (.load x.bank.val)) t (if skipped = [] then .ok else .partially)
      (.loaded (made.filterMap fun r => r.map EntryRef.handle) skipped)
  else s.endOp (requestCode (.load x.bank.val)) t .storeFault .empty

/-- LOAD_COMPLETION (R175). -/
def execLoadCompletion (s : State) : Host.Outcome State Fault Refusal :=
  .next (s.whenReleased fun s =>
    match s.store.op with
    | some x => if x.kind = .load then s.finishLoad x else s
    | none => s)

/-! ## Soft reset and the start bank (R176, R177) -/

/-- R29: every entry becomes VACANT, with no notice. -/
def State.vacateAll (s : State) : State :=
  State.settleEntries { (s.mapEntries fun _ e => if e.state = .vacant then e else Entry.vacantAt (e.gen + 1)).mapStations
      (fun _ r => { r with owned := 0, watchList := [], notices := [] }) with mgmtNotices := [] }

/-- R132: the chain and the stations at a soft reset. -/
def State.resetChain (s : State) : State :=
  let s1 := if s.chain.state = .held then s else s.leaveChain .held
  let s2 := (List.finRange 30).foldl (fun s x =>
    if s.stations[x].state ≠ .absent then s.clearStation x else s) s1
  { s2 with chain := s2.chain.homePosition }

/-- R177 steps 1 to 4. -/
def State.softReset (s : State) : State :=
  let s1 := s.vacateAll.resetChain.mapOutputs Output.unbind
  State.reschedule { s1 with civil := { s1.civil with pending := none, tL := none } }

/-- R177: an accepted RESET. -/
def startReset (t : Tag) (s : State) : State × Option Reply :=
  let s1 := s.softReset
  ({ s1 with store := { s1.store with op := some ⟨.startBank, s1.store.startBank, some t, []⟩, startOk := false } }, none)

/-- R177: RESET. -/
def resetReply (t : Tag) (s : State) : State × Option Reply :=
  if s.store.op.isSome then refuse .busy s else startReset t s

/-- RESET (R177). -/
def execReset (l : Link) (t : Tag) (s : State) : Host.Outcome State Fault Refusal :=
  .next (s.serve l t .reset (forManagement l (resetReply t)))

/-- R132, R176: the start bank, or the built-in content where `ok` is false, applied, and the chain released when the content
says so. A bank that passes retires the owner-0 entries (R30, step 5 of R175, R176). DESIGN CHOICE (log entry 54): a station's
entry made during the read then stays, although R54 has that load leave every entry VACANT. After a bank that fails its check
no entry stands (R28, R176). -/
def State.applyStartBank (c : BankContent) (ok : Bool) (s : State) : State :=
  let s1 := (s.applyBank c true (!ok)).1
  if s1.chain.autoRelease then s1.releaseChain else s1

/-- Whether the last start bank load passed its check (R172). -/
def State.setStartOk (b : Bool) (s : State) : State := { s with store := { s.store with startOk := b } }

/-- R176: a start bank load after a hard reset ends. -/
def State.endStart (ok : Bool) (s : State) : State :=
  State.setStartOk ok { s with store := { s.store with op := none } }

/-- R118, R176: the start bank load after a hard reset. When the bank fails its check the built-in defaults stand in every
block, overtaking what requests set during the read (log entry 27). -/
def State.finishHardStart (x : StoreOp) (s : State) : State :=
  let ws := s.store.banks[x.bank]
  if bankPasses ws then (s.applyStartBank (readBank ws) true).endStart true
  else State.raise .store
    (((s.applyStartBank BankContent.builtIn false).mapOutputs fun _ => Output.builtIn).endStart false)

/-- R177: the start bank load after a soft RESET with tag `t`. -/
def State.finishSoftStart (x : StoreOp) (t : Tag) (s : State) : State :=
  let ws := s.store.banks[x.bank]
  let ok := bankPasses ws
  let s1 := s.applyStartBank (if ok then readBank ws else BankContent.builtIn) ok
  (s1.setStartOk ok).endOp (requestCode .reset) t .ok (.resetDone ok)

/-- START_BANK_LOAD_COMPLETION (R176, R177). -/
def execStartBankLoadCompletion (s : State) : Host.Outcome State Fault Refusal :=
  .next (s.whenReleased fun s =>
    match s.store.op with
    | some x =>
      if x.kind = .startBank then
        match x.tag with
        | none => s.finishHardStart x
        | some t => s.finishSoftStart x t
      else s
    | none => s)

/-! ## Hard reset (R176) -/

/-- R176: the part while RESET is asserted: every block at its hard reset values, the banks and the INHIBIT pin as they
are. -/
def State.hardReset (s : State) : State :=
  { State.reset with
    store := { Store.reset with banks := s.store.banks }, inhibit := s.inhibit, pending := s.pending }

/-- HARD_RESET (R176): the assertion of RESET. -/
def execHardReset (s : State) : Host.Outcome State Fault Refusal := .next s.hardReset

/-- R176: the release of RESET, straps read as bank `b`: the read of the start bank begins, and the chain's counts start. -/
def State.release (b : Fin 4) (s : State) : State :=
  { s with
    resetPin := false
    chain := { s.chain with silenceStart := s.cycle, lineBase := s.cycle }
    store := { s.store with op := some ⟨.startBank, b, none, []⟩, startBank := b } }

/-- RESET_RELEASE (R176). -/
def execResetRelease (b : Fin 4) (s : State) : Host.Outcome State Fault Refusal :=
  .next (if s.resetPin then s.release b else s)

end Sys2Proof.Machine
end

