-- ==== Sys2Proof/Machine/ChainEvents.lean ====
section
/-! DEFINITION. The events of the cadence chain: the receiver and the judgement of return frames (R124, R127, R142 to R145,
R158), ranging (R148, R149), the service cycle and the transmitter (R139 to R141, R146, R147, R154, R157), and the chain
timers (R128, R129, R134 to R136, R141, R155). -/

namespace Sys2Proof.Machine

open Sys2Proof Config

/-! ## The service cycle (R139 to R141) -/

/-- R139: the addressee of the next frame of the service cycle, and the position it stands at. -/
structure Turn where
  kind : FrameKind
  addr : Addr
  step : CycleStep
  cursor : Nat
  deriving DecidableEq, Repr

/-- R139: the poll of the first polled station above the cursor. -/
def State.pollTurn (s : State) (cursor : Nat) : Option Turn :=
  ((List.finRange 30).find? fun x => cursor ≤ x.val && s.stations[x].polled).map fun x =>
    ⟨.poll, x, .polls, x.val⟩

/-- R140: the discovery rotation from one above the pointer. -/
def rotation (pointer : Nat) : List Addr := (List.finRange 30).map fun j => ⟨(pointer + j.val) % 30, by omega⟩

/-- R140: the first ABSENT address of the rotation. -/
def State.discoverTurn (s : State) : Option Turn :=
  ((rotation s.chain.pointer).find? fun x => s.stations[x].state = .absent).map fun x => ⟨.discover, x, .discover, 0⟩

/-- R141: a station that may be ranged. -/
def Station.rangeable (r : Station) : Bool := (r.state = .joining || r.state = .present) && r.rangeDue

/-- R141: of two stations in ascending order, the one whose range has been due longer. -/
def State.olderDue (s : State) (best : Option Addr) (x : Addr) : Option Addr :=
  if s.stations[x].rangeable then
    match best with
    | none => some x
    | some y => if s.stations[x].dueSince.getD 0 < s.stations[y].dueSince.getD 0 then some x else some y
  else best

/-- R141: the range of the station due the longest. -/
def State.rangeTurn (s : State) : Option Turn :=
  ((List.finRange 30).foldl s.olderDue none).map fun x => ⟨.range, x, .range, 0⟩

/-- R139: the next service frame from the position as it stands; a step with no addressee is passed over. -/
def State.nextTurn (s : State) : Option Turn :=
  match s.chain.step with
  | .polls => (s.pollTurn s.chain.cursor).or (s.discoverTurn.or (s.rangeTurn.or (s.pollTurn 0)))
  | .discover => s.discoverTurn.or (s.rangeTurn.or (s.pollTurn 0))
  | .range => s.rangeTurn.or ((s.pollTurn 0).or s.discoverTurn)

/-- R139: the position moves to the next addressee, who is chosen now and kept until the frame is formed. When no step has
one, the cycle is over, and the next one begins at POLLS when there is one again (log entry 36). -/
def State.moveOn (s : State) : State :=
  match s.nextTurn with
  | some n => { s with chain := { s.chain with step := n.step, cursor := n.cursor, chosen := some n.addr } }
  | none => { s with chain := { s.chain with step := .polls, cursor := 0, chosen := none } }

/-- R139: nothing is outstanding, no addressee is chosen, and a step has one. -/
def State.choiceDue (s : State) : Bool :=
  s.chain.state = .running && s.chain.svc.isNone && s.chain.chosen.isNone && s.nextTurn.isSome

/-- R139: the addressee of the next frame, chosen when none is. -/
def State.choose (s : State) : State := if s.choiceDue then s.moveOn else s

/-- R139: the frame that a step of the service cycle sends. -/
def CycleStep.frame : CycleStep → FrameKind
  | .polls => .poll
  | .discover => .discover
  | .range => .range

/-- R139: station `x` qualifies as the addressee of a frame of kind `k`. -/
def State.qualifies (s : State) (k : FrameKind) (x : Addr) : Bool :=
  match k with
  | .poll => s.stations[x].polled
  | .discover => s.stations[x].state = .absent
  | .range => s.stations[x].rangeable
  | .report => false

/-! ## The transmitter (R146, R147) -/

/-- R146: the cycle is a delimiter boundary and no frame is on the line. -/
def State.lineFree (s : State) : Bool :=
  s.chain.tx.isNone && s.chain.lineBase ≤ s.cycle && (s.cycle - s.chain.lineBase) % cyclesPerDelimiter = 0

/-- R147: a service frame of so many bits ends at least 1,000 ns before every scheduled start. -/
def State.admits (s : State) (bits : Nat) : Bool :=
  (List.finRange 30).all fun x =>
    match s.holdsReport x with
    | some s0 => (s.now + 8 * cyclesPerBit * bits + 1000 : Nat) ≤ s0 - 360
    | none => true

/-- The body of the service frame of kind `k` to station `x`, formed now (R157, R179). -/
def State.serviceBody (s : State) (k : FrameKind) (x : Addr) : List Byte :=
  match k with
  | .poll => pollBody s.stations[x] s.quality
  | _ => []

/-- R180: the segment a POLL to this station carries, with its final flag. -/
def Station.carried (r : Station) : Option (Nat × Bool) :=
  match r.slot with
  | .result res => some (r.segment, (segmentOf res r.segment).2)
  | _ => none

/-- R139 to R141, R146, R147: a service frame of kind `k` to the chosen addressee may be formed now. -/
def State.serviceDue (s : State) (k : FrameKind) : Option Addr :=
  match s.chain.chosen with
  | some x =>
    if s.chain.step.frame = k ∧ s.chain.state = .running ∧ s.chain.svc = none ∧ s.lineFree
      ∧ s.admits (frameBits k x (s.serviceBody k x)) then some x else none
  | none => none

/-- R139: the position behind the frame of a step to station `x`, sent or not. -/
def Chain.passed (c : Chain) (k : FrameKind) (x : Addr) : Chain :=
  match k with
  | .poll => { c with step := .polls, cursor := x.val + 1, chosen := none }
  | .discover => { c with step := .range, cursor := 0, chosen := none }
  | .range => { c with step := .polls, cursor := 0, chosen := none }
  | .report => c

/-- R139, R140: the position once the frame of a step has been sent; a DISCOVER leaves its address in the pointer. -/
def Chain.sent (c : Chain) (k : FrameKind) (x : Addr) : Chain :=
  { c.passed k x with pointer := if k = .discover then x.val + 1 else c.pointer }

/-- R157: a service frame is formed and starts. -/
def State.sendService (k : FrameKind) (x : Addr) (s : State) : State :=
  let body := s.serviceBody k x
  let r := s.stations[x]
  { s with chain := { s.chain.sent k x with
      svc := some { kind := k, addr := x, segment := if k = .poll then r.carried else none,
                    refusal := if k = .poll then r.owed else none, window := none }
      tx := some { kind := k, addr := x, body := body, startCycle := s.cycle, startTime := s.now,
                   bits := frameBits k x body, mark := 0, live := false }
      reportEnd := none } }

/-- R139: the chosen addressee no longer qualifies: nothing is sent, and the position moves on. -/
def State.passOver (k : FrameKind) (x : Addr) (s : State) : State := State.moveOn { s with chain := s.chain.passed k x }

/-- R139: the frame of kind `k` is formed when it is due: it is sent, or its addressee is passed over. -/
def State.formService (k : FrameKind) (s : State) : State :=
  match s.serviceDue k with
  | some x => if s.qualifies k x then s.sendService k x else s.passOver k x
  | none => s

/-- R139: the addressee is chosen when none is, and the frame of kind `k` formed when it is due. -/
def State.serve1 (k : FrameKind) (s : State) : State := s.choose.formService k

/-- POLL_SEND (R139, R157). -/
def execPollSend (s : State) : Host.Outcome State Fault Refusal := .next (s.whenReleased (State.serve1 .poll))

/-- DISCOVER_SEND (R139, R140). -/
def execDiscoverSend (s : State) : Host.Outcome State Fault Refusal := .next (s.whenReleased (State.serve1 .discover))

/-- RANGE_SEND (R139, R141). -/
def execRangeSend (s : State) : Host.Outcome State Fault Refusal := .next (s.whenReleased (State.serve1 .range))

/-! ## Answer windows (R142) -/

/-- R142: the final 0 of the closing delimiter of the service frame on CTX departs. -/
def State.openDue (s : State) : Bool :=
  s.chain.tx.any fun f => f.kind ≠ .report && f.startCycle + cyclesPerBit * (f.bits - 1) ≤ s.cycle

/-- R142, R146: the answer window opens, and the line is free from the end of the frame, one bit later; an abort that falls into
that bit finds it on CTX (R124, R125). DESIGN CHOICE (log entry 35): a delimiter that arrives in the very cycle of the
opening and is taken before it has its frame started outside the window. -/
def State.openWindow (s : State) : State :=
  match s.chain.tx with
  | none => s
  | some f =>
    let w : Window := { openCycle := s.cycle, openTime := s.now, length := s.chain.timeout * cyclesPerMicro,
                        steppedAt := none }
    { s with chain := { s.chain with
        tx := none
        cut := none
        lineBase := f.startCycle + cyclesPerBit * f.bits
        svc := s.chain.svc.map fun v => { v with window := some w }
        rx := { s.chain.rx with inWindow := false } } }

/-- ANSWER_WINDOW_OPEN (R142). -/
def execAnswerWindowOpen (s : State) : Host.Outcome State Fault Refusal :=
  .next (s.whenReleased fun s => if s.openDue then s.openWindow else s)

/-! ## What an answer does (R134, R137, R143, R144, R148, R149, R158) -/

/-- R137, R143: the settlement of an answer leaves no frame outstanding. -/
def State.settled (s : State) : State :=
  State.moveOn { s with chain := { s.chain with svc := none, rx := { s.chain.rx with inWindow := false } } }

/-- R134, R135: a missed answer of station `x` to a POLL or RANGE. -/
def State.missAnswer (x : Addr) (s : State) : State :=
  let r := s.stations[x]
  if r.state = .joining ∨ r.state = .present then
    let s1 := s.setStation x { r with missed := min 4 (r.missed + 1) }
    if 4 ≤ r.missed + 1 then s1.silence x else s1
  else s

/-- R155: the stream of a returning station is resumed. DESIGN CHOICE (log entry 68): kr is chosen with no previous kr, so that
behind a report cut short by an abort it need not lie above the mark of that report. -/
def State.resumeStream (x : Addr) (s : State) : State :=
  let r := s.stations[x]
  match r.stream with
  | none => s
  | some st =>
    let st1 := { st with state := StreamState.active, holdStart := none }
    s.setStation x { r with stream := some (st1.choose s.entries[st.entry.index] r.delta s.now none true) }

/-- R134: a valid answer to a POLL brings a SILENT station back. -/
def State.returnStation (x : Addr) (s : State) : State :=
  let r := s.stations[x]
  State.raise .stations ((s.setStation x
    { r with state := if r.delta.isSome then StationState.present else .joining, missed := 0, rangeDue := true,
             dueSince := some s.now, silentSince := none, orphanStart := none, reRangeStart := none }).resumeStream x)

/-- R134: a valid answer of station `x` to a POLL. -/
def State.answered (x : Addr) (s : State) : State :=
  if s.stations[x].state = .silent then s.returnStation x
  else s.setStation x { s.stations[x] with missed := 0 }

/-- R158 steps 1 and 2, R180: the segment and the refusal that a POLL carried are delivered. -/
def Station.delivered (r : Station) (v : Service) : Station :=
  let r1 := match v.segment with
    | some (_, true) => { r with slot := .empty, segment := 0 }
    | some (k, false) => { r with segment := k + 1 }
    | none => r
  if v.refusal.isSome then { r1 with owed := none } else r1

/-- R158 step 3: the request in the answer of station `x` arrives, or is refused BUSY. -/
def State.stationRequest (x : Addr) (body : List Byte) (s : State) : State :=
  let r := s.stations[x]
  match r.slot with
  | .empty =>
    { s.setStation x { r with slot := .request body, segment := 0 } with arrivals := s.arrivals ++ [.station x] }
  | _ => s.setStation x { r with owed := some (body.getD 1 0) }

/-- R143, R158: a valid answer to a POLL; `body` is that of a REQUEST. -/
def State.pollAnswer (v : Service) (body : Option (List Byte)) (s : State) : State :=
  let s1 := s.answered v.addr
  let s2 := s1.setStation v.addr (s1.stations[v.addr].delivered v)
  match body with
  | some b => s2.stationRequest v.addr b
  | none => s2

/-- R148, R149: round trip `q`, measured at instant `t`, is a valid range of station `x`. -/
def State.validRange (x : Addr) (q t : Nat) (s : State) : State :=
  let r := s.stations[x]
  let d := (q - turnaround) / 2
  let r1 := { r with delta := some d, trip := some q, lastRange := some t, rangeDue := false, dueSince := none,
                     reRangeStart := some s.cycle }
  if r.state = .joining then
    State.raise .stations (s.setStation x { r1 with
      state := .present
      stream := r1.stream.map fun st => st.choose s.entries[st.entry.index] (some d) s.now none false })
  else s.setStation x r1

/-- R148: the ECHO of station `x` to a RANGE, measured. -/
def State.rangeAnswer (x : Addr) (w : Window) (s : State) : State :=
  let s1 := s.setStation x { s.stations[x] with missed := 0 }
  let arrival := s.chain.rx.arrival
  if s.chain.rx.stepped ∨ arrival < w.openTime + turnaround then
    s1.countLine fun c => { c with rangeRejected := satAdd counterTop c.rangeRejected 1 }
  else s1.validRange x (arrival - w.openTime) arrival

/-- R137: a garbled answer to DISCOVER at address `x`. -/
def State.garble (x : Addr) (s : State) : State :=
  let r := s.stations[x]
  if r.garbled + 1 < 3 then s.setStation x { r with garbled := r.garbled + 1 }
  else State.raise .stations (s.setStation x { r with
    garbled := 3, state := .conflict, conflictSince := some s.now, conflictStart := some s.cycle })

/-- R137: no answer to DISCOVER at address `x`. -/
def State.noAnswer (x : Addr) (s : State) : State := s.setStation x { s.stations[x] with garbled := 0 }

/-- R134: address `x` joins. -/
def State.join (x : Addr) (s : State) : State :=
  State.raise .stations (s.setStation x { s.stations[x] with
    state := .joining, missed := 0, garbled := 0, rangeDue := true, dueSince := some s.chain.rx.arrival })

/-- R127, R143 to R145: one more frame in the FORMAT counter. -/
def LineCounters.addFormat (c : LineCounters) : LineCounters := { c with format := satAdd counterTop c.format 1 }

/-- R145: one more frame in the UNEXPECTED counter. -/
def LineCounters.addUnexpected (c : LineCounters) : LineCounters :=
  { c with unexpected := satAdd counterTop c.unexpected 1 }

/-- R127: the counter of a discarded frame; an abort is counted when its ninth 1 comes. -/
def LineCounters.addJudged (c : LineCounters) : Judgement → LineCounters
  | .short => { c with short := satAdd counterTop c.short 1 }
  | .format => c.addFormat
  | .check => { c with check := satAdd counterTop c.check 1 }
  | _ => c

/-- R143, R145: what a valid return frame does as the answer to a POLL or RANGE. -/
def State.stationAnswer (v : Service) (w : Window) (a : Addr) (k : ReturnKind) (body : List Byte) (s : State) : State :=
  let r := s.stations[v.addr]
  if a = v.addr ∧ (k = .echo ↔ v.kind = .range) then
    if !r.polled then s.countLine LineCounters.addUnexpected
    else if v.kind = .range then s.rangeAnswer v.addr w
    else s.pollAnswer v (if k = .request then some body else none)
  else (s.countLine LineCounters.addFormat).missAnswer v.addr

/-- R144: what judgement `j` does as the answer to a DISCOVER of an ABSENT address. -/
def State.discoverAnswer (x : Addr) (j : Judgement) (s : State) : State :=
  match j with
  | .valid a k _ => if a = x ∧ k = .echo then s.join x else (s.countLine LineCounters.addFormat).garble x
  | .format => s.garble x
  | .check => s.garble x
  | .abort => s.noAnswer x
  | .short => s.noAnswer x
  | .fill => s.noAnswer x

/-- R142 to R144: judgement `j` settles the answer to service frame `v` with window `w`. -/
def State.settle (v : Service) (w : Window) (j : Judgement) (s : State) : State :=
  let s1 :=
    if v.kind = .discover then
      if s.stations[v.addr].state = .absent then s.discoverAnswer v.addr j else s
    else
      match j with
      | .valid a k body => s.stationAnswer v w a k body
      | _ => s.missAnswer v.addr
  s1.settled

/-- ANSWER_WINDOW_CLOSE (R142): the window's time has passed and no return frame has started in it; a delimiter in the
window with nothing but the beginning of another behind it does not tell yet. -/
def State.closeWindow (v : Service) (s : State) : State :=
  State.settled
    (if v.kind = .discover then
      if s.stations[v.addr].state = .absent then s.noAnswer v.addr else s
    else s.missAnswer v.addr)

/-- What has come since the last delimiter could still be fill: nothing, or a 0 with 1s after it. -/
def Receiver.mayBeFill (r : Receiver) : Bool :=
  r.mode = .content && match r.bits.reverse with
    | [] => true
    | b :: bs => !b && bs.all id

/-- R142: the window has lasted its time. -/
def State.windowOver (s : State) : Option Service :=
  match s.chain.svc with
  | some v => if v.window.any (fun w => w.length ≤ s.cycle - w.openCycle) then some v else none
  | none => none

/-- ANSWER_WINDOW_CLOSE (R142). -/
def execAnswerWindowClose (s : State) : Host.Outcome State Fault Refusal :=
  .next (s.whenReleased fun s =>
    match s.windowOver with
    | some v => if !s.chain.rx.inWindow || s.chain.rx.mayBeFill then s.closeWindow v else s
    | none => s)

/-! ## The receiver (R122 to R124, R127, R128) -/

/-- What a bit brings about at the receiver. -/
inductive RxEvent where
  | none
  /-- The ninth 1 (R124). -/
  | aborted
  /-- The 53rd octet (R127). -/
  | overlong
  /-- A delimiter, with what it closes. -/
  | delimiter (closed : Judgement)
  deriving DecidableEq, Repr

/-- R123, R124: what the delimiter now complete closes: the content bits without its own first 0 and seven 1s. -/
def Receiver.closed (r : Receiver) : Judgement :=
  match r.mode with
  | .idle => .fill
  | .aborted => .abort
  | .content =>
    let content := match r.bits.drop 7 with
      | false :: bs => bs
      | bs => bs
    judgeBits content.reverse

/-- R127: the content bits are more than 52 octets, and not for the sake of a delimiter that is coming. DESIGN CHOICE (log
entry 58): the bits since the opening delimiter are counted as they come, so that of a frame of 417 to 423 content bits the
first bits of its closing delimiter complete the 53rd octet. -/
def Receiver.overlong (r : Receiver) : Bool := r.mode = .content && 424 ≤ r.bits.length && r.ones < 7

/-- R124, R127: the receiver waits for the next delimiter when the frame has grown too long. -/
def Receiver.bound (r : Receiver) : Receiver × RxEvent :=
  if r.overlong then ({ r with mode := .idle, bits := [] }, .overlong) else (r, .none)

/-- R124: one bit at the receiver. -/
def Receiver.bit (r : Receiver) (b : Bool) : Receiver × RxEvent :=
  if b then
    let n := r.ones + 1
    if r.mode = .content ∧ n = 9 then ({ r with mode := .aborted, ones := n, bits := [] }, .aborted)
    else if r.mode = .content ∧ n < 8 then Receiver.bound { r with ones := n, bits := true :: r.bits }
    else ({ r with ones := n }, .none)
  else if r.ones = 8 then ({ r with mode := .content, ones := 0, bits := [] }, .delimiter r.closed)
  else if r.mode = .content then
    if r.ones = 7 then Receiver.bound { r with ones := 0 }
    else Receiver.bound { r with ones := 0, bits := false :: r.bits }
  else ({ r with ones := 0 }, .none)

/-- R127, R142 to R145: a frame judged `j` is counted, settles an answer, or is unexpected. -/
def State.handFrame (j : Judgement) (s : State) : State :=
  let s1 := s.countLine fun c => c.addJudged j
  match s1.chain.svc.bind fun v => v.window.map fun w => (v, w) with
  | some (v, w) =>
    if s1.chain.rx.inWindow then s1.settle v w j
    else
      match j with
      | .valid _ _ _ => s1.countLine LineCounters.addUnexpected
      | _ => s1
  | none =>
    match j with
    | .valid _ _ _ => s1.countLine LineCounters.addUnexpected
    | _ => s1

/-- R128: a delimiter received at cycle `c`, for the silence timer and the live run. -/
def Chain.hear (ch : Chain) (c : Nat) : Chain :=
  { ch with
    silenceStart := c
    lastDelim := some c
    liveStart := match ch.liveStart, ch.lastDelim with
      | some a, some d => if c - d ≤ liveGap then some a else some c
      | _, _ => some c }

/-- R142: a delimiter whose final 0 arrived at cycle `c`, instant `t`, opens what follows. It is in the window that stands
open when it falls in the very cycle of the closing as well, since it is taken first. -/
def State.openFrame (c t : Nat) (s : State) : State :=
  let w := s.chain.svc.bind fun v => v.window
  { s with chain := { s.chain.hear c with
      rx := { s.chain.rx with
        arrival := t
        inWindow := w.any fun w => w.openCycle ≤ c && c ≤ w.openCycle + w.length
        stepped := w.any fun w => w.steppedAt.any fun a => a ≤ c } } }

/-- R124, R127: what a bit that began at cycle `c`, instant `t`, brings about. -/
def State.rxEvent (e : RxEvent) (c t : Nat) (s : State) : State :=
  match e with
  | .none => s
  | .aborted => s.countLine fun k => { k with abort := satAdd counterTop k.abort 1 }
  | .overlong => s.handFrame .format
  | .delimiter .fill => s.openFrame c t
  | .delimiter j => (s.handFrame j).openFrame c t

/-- The cycle in which a bit began that has `after` bits behind it, the last of which begins in the present cycle (R122). -/
def State.bitCycle (s : State) (after : Nat) : Nat := s.cycle - cyclesPerBit * after

/-- R122: one bit on CRX, with `after` bits behind it in the command: the bits begin 5 cycles apart, each `p` ns into its
cycle, and each is read at the timebase time of its own cycle (log entry 32). -/
def State.rxBit (p : Fin 8) (b : Bool) (after : Nat) (s : State) : State :=
  match s.chain.rx.bit b with
  | (r, e) =>
    State.rxEvent e (s.bitCycle after) (s.timeAt (s.bitCycle after) + p.val)
      { s with chain := { s.chain with rx := r } }

/-- The bits of a command, one after the other. -/
def State.rxLine (p : Fin 8) : List Bool → State → State
  | [], s => s
  | b :: bs, s => State.rxLine p bs (s.rxBit p b bs.length)

/-- RETURN_FRAME (R122 to R124, R127, R142 to R145). -/
def execReturnFrame (p : Fin 8) (line : List Bool) (s : State) : Host.Outcome State Fault Refusal :=
  .next (s.whenReleased (State.rxLine p line))

/-! ## Reports (R146, R153, R154) -/

/-- R146: of two scheduled reports in address order, the one that goes first. -/
def earlierReport (s : State) (best : Option (Addr × Int)) (x : Addr) : Option (Addr × Int) :=
  match s.holdsReport x with
  | none => best
  | some t =>
    match best with
    | none => some (x, t)
    | some (y, u) => if t < u then some (x, t) else some (y, u)

/-- R146: the report that starts next. -/
def State.firstReport (s : State) : Option (Addr × Int) := (List.finRange 30).foldl (earlierReport s) none

/-- R146: the gap after a report has passed. -/
def State.gapOver (s : State) : Bool := s.chain.reportEnd.all fun c => c + reportGap ≤ s.cycle

/-- R146: the station whose report may start now. -/
def State.reportDue (s : State) : Option Addr :=
  match s.firstReport with
  | some (x, t) =>
    if s.chain.state = .running ∧ s.lineFree ∧ s.gapOver ∧ t - 360 ≤ s.now then some x else none
  | none => none

/-- R154: the countdown of a report that starts now. -/
def State.countdown (s : State) (e : Entry) (k d : Nat) : Int := e.reportInstant k - (s.now + 360 : Nat) - d

/-- R154: a report is dropped, and the next chosen. -/
def State.dropReport (x : Addr) (st : Stream) (k : Nat) (s : State) : State :=
  let r := s.stations[x]
  let st1 := { st with skipped := satAdd 255 st.skipped 1 }
  (s.setStation x { r with stream := some (st1.choose s.entries[st.entry.index] r.delta s.now (some k) false) }).countLine
    fun c => { c with lateReport := satAdd counterTop c.lateReport 1 }

/-- R154: a report is formed and starts. -/
def State.sendReport (x : Addr) (st : Stream) (k : Nat) (count : Int) (s : State) : State :=
  let body := reportBody st s.entries[st.entry.index] k count s.quality
  { s with chain := { s.chain with
      tx := some { kind := .report, addr := x, body := body, startCycle := s.cycle, startTime := s.now,
                   bits := frameBits .report x body, mark := k, live := true }
      reportEnd := none } }

/-- R154: the report of station `x` starts, or is dropped. -/
def State.startReport (x : Addr) (s : State) : State :=
  let r := s.stations[x]
  match r.stream with
  | none => s
  | some st =>
    match st.kr, r.delta with
    | some k, some d =>
      let count := s.countdown s.entries[st.entry.index] k d
      if count < minCountdown then s.dropReport x st k else s.sendReport x st k count
    | _, _ => s

/-- REPORT_START (R146, R154). -/
def execReportStart (s : State) : Host.Outcome State Fault Refusal :=
  .next (s.whenReleased fun s =>
    match s.reportDue with
    | some x => s.startReport x
    | none => s)

/-- R154: the closing delimiter of the report on CTX has departed. DESIGN CHOICE (log entry 60): when its last bit has
ended. -/
def State.reportOver (s : State) : Option TxFrame :=
  match s.chain.tx with
  | some f => if f.kind = .report ∧ f.startCycle + cyclesPerBit * f.bits ≤ s.cycle then some f else none
  | none => none

/-- R154: the stream after its report of mark `k` has been sent whole. -/
def Stream.reported (st : Stream) (k : Nat) (e : Entry) (delta : Option Nat) (t : Int) : Stream :=
  { st with last := some k, skipped := 0 }.choose e delta t (if st.kr = some k then some k else none) false

/-- R146, R154: report `f` has been sent whole. -/
def State.finishReport (f : TxFrame) (s : State) : State :=
  let stop := f.startCycle + cyclesPerBit * f.bits
  let s1 : State := { s with chain := { s.chain with tx := none, lineBase := stop, reportEnd := some stop } }
  let r := s.stations[f.addr]
  match r.stream with
  | some st =>
    if f.live then
      s1.setStation f.addr { r with stream := some (st.reported f.mark s.entries[st.entry.index] r.delta s.now) }
    else s1
  | none => s1

/-- REPORT_SENT (R154). -/
def execReportSent (s : State) : Host.Outcome State Fault Refusal :=
  .next (s.whenReleased fun s =>
    match s.reportOver with
    | some f => s.finishReport f
    | none => s)

/-! ## Timers -/

/-- R128: 125,000 cycles have passed with no delimiter. -/
def State.silenceDue (s : State) : Bool :=
  (s.chain.state = .running || s.chain.liveStart.isSome) && silenceLimit ≤ s.cycle - s.chain.silenceStart

/-- R128, R129: the silence timer expires. -/
def State.silenceExpire (s : State) : State :=
  let s1 : State := { s with chain := { s.chain with liveStart := none } }
  if s.chain.state = .running then s1.enterBroken else s1

/-- SILENCE_TIMER_EXPIRY (R128, R129). -/
def execSilenceTimerExpiry (s : State) : Host.Outcome State Fault Refusal :=
  .next (s.whenReleased fun s => if s.silenceDue then s.silenceExpire else s)

/-- R129: the live run of a BROKEN chain has reached 125,000 cycles. -/
def State.liveDue (s : State) : Bool := s.chain.state = .broken && s.liveRun.any fun n => liveRunGoal ≤ n

/-- LIVE_RUN_REACHED (R129). -/
def execLiveRunReached (s : State) : Host.Outcome State Fault Refusal :=
  .next (s.whenReleased fun s => if s.liveDue then s.enterRunning else s)

/-- A timer that started at a cycle has counted `n` cycles. -/
def State.counted (s : State) (start : Option Nat) (n : Nat) : Bool := start.any fun c => n ≤ s.cycle - c

/-- R134: the orphan timer of station `x` has reached the orphan time. -/
def State.orphanDue (s : State) (x : Addr) : Bool :=
  s.stations[x].state = .silent && s.counted s.stations[x].orphanStart (s.chain.orphan * cyclesPerSecond)

/-- ORPHAN_TIMER_EXPIRY (R134, R136). -/
def execOrphanTimerExpiry (x : Addr) (s : State) : Host.Outcome State Fault Refusal :=
  .next (s.whenReleased fun s => if s.orphanDue x then s.stationAbsent x else s)

/-- R134: the conflict timer of station `x` has reached 60 s. -/
def State.conflictDue (s : State) (x : Addr) : Bool :=
  s.stations[x].state = .conflict && s.counted s.stations[x].conflictStart conflictLimit

/-- R134: a CONFLICT address becomes ABSENT. -/
def State.conflictOver (x : Addr) (s : State) : State :=
  State.raise .stations (s.setStation x { s.stations[x] with
    state := .absent, conflictSince := none, conflictStart := none, garbled := 0 })

/-- CONFLICT_TIMER_EXPIRY (R134). -/
def execConflictTimerExpiry (x : Addr) (s : State) : Host.Outcome State Fault Refusal :=
  .next (s.whenReleased fun s => if s.conflictDue x then s.conflictOver x else s)

/-- R155: the stream of station `x` has been suspended for 2 s. -/
def State.holdDue (s : State) (x : Addr) : Option Stream :=
  match s.stations[x].stream with
  | some st => if st.state = .suspended ∧ s.counted st.holdStart holdLimit then some st else none
  | none => none

/-- R152, R155: the stream is closed, and the station's notice set tells it. -/
def State.holdOver (x : Addr) (st : Stream) (s : State) : State :=
  let s1 := s.closeStream x
  s1.setStation x { s1.stations[x] with notices := insertIdx st.entry.index s1.stations[x].notices }

/-- STREAM_HOLD_EXPIRY (R155). -/
def execStreamHoldExpiry (x : Addr) (s : State) : Host.Outcome State Fault Refusal :=
  .next (s.whenReleased fun s =>
    match s.holdDue x with
    | some st => s.holdOver x st
    | none => s)

/-- R141: the re-range timer of station `x` has reached 1 s. -/
def State.reRangeDue (s : State) (x : Addr) : Bool := s.counted s.stations[x].reRangeStart reRangeLimit

/-- RE_RANGE_TIMER_EXPIRY (R141). -/
def execReRangeTimerExpiry (x : Addr) (s : State) : Host.Outcome State Fault Refusal :=
  .next (s.whenReleased fun s =>
    if s.reRangeDue x then
      s.setStation x { s.stations[x] with rangeDue := true, dueSince := some s.now, reRangeStart := none }
    else s)

end Sys2Proof.Machine
end

