-- ==== Sys2Proof/Machine/MarkEvents.lean ====
section
/-! DEFINITION. The events of the mark engine, the label unit and the timing outputs: mark due (R12, R13, R39, R40), end
due (R20), jam event (R60), active and inactive edges (R109) and the INHIBIT pin (R111). -/

namespace Sys2Proof.Machine

open Sys2Proof Config

/-! ## Mark due -/

/-- R63: a mark at or above kb′ switches the entry to its next base. -/
def Entry.switchAt (e : Entry) (k : Nat) : Entry :=
  match e.next with
  | some b => if b.kb ≤ k then { e with base := some b, next := none } else e
  | none => e

/-- R12, R13, R39, R40: the entry after it emits its next mark. -/
def Entry.emit (e : Entry) : Entry :=
  let k := e.nextMark
  let e1 := { e.switchAt k with kl := some k, lm := some (e.applied k) }
  match e.motion with
  | .pending => { e1 with ks := none }.withMotion .running
  | .slewing =>
    let e2 := { e1 with eps := slewMove e.eps e.slew }
    if slewMove e.eps e.slew = 0 then e2.withMotion .running else e2
  | .running => e1
  | .held => e1

/-- R20: the next mark of an ENDING entry lies above its end instant. -/
def Entry.finished (e : Entry) : Bool := e.pastEnd (e.applied e.nextMark)

/-- R39: the mark due of entry `i` stands. DESIGN CHOICE (log entry 53): a mark whose A(k) a step has left below 0 is due at
once, by R43, although R33 says of a mark below 0 that it is never due. -/
def State.markIsDue (s : State) (i : Idx) : Bool :=
  let e := s.entries[i]
  e.state ≠ .vacant && e.applied e.nextMark ≤ s.now && !e.finished

/-- R39: the next mark of entry `i` is emitted. -/
def State.emitMark (i : Idx) (s : State) : State :=
  let e := s.entries[i]
  let s1 := if e.motion = .pending then s.fitOutputs i else s
  let s2 := ((s1.fixPulses i e.nextMark (e.applied e.nextMark)).setEntry i e.emit).skipSuspended i e.nextMark
  if e.emit.motion = e.motion then s2 else s2.notify i

/-- R39, R20: a mark due, and the retirement of an entry whose end due has been taken already. -/
def State.markDue (i : Idx) (s : State) : State :=
  let s1 := s.emitMark i
  if s1.entries[i].endTaken ∧ s1.entries[i].finished then s1.retire i else s1

/-- MARK_DUE (R39). -/
def execMarkDue (i : Idx) (s : State) : Host.Outcome State Fault Refusal :=
  .next (s.whenReleased fun s => if s.markIsDue i then s.markDue i else s)

/-! ## End due -/

/-- R20: the end due of entry `i` stands and has not been taken. -/
def State.endIsDue (s : State) (i : Idx) : Bool :=
  let e := s.entries[i]
  e.state = .ending && e.endAt.any (fun x => x ≤ s.now) && (e.finished || !e.endTaken)

/-- R20: an end due; a mark at or before the end instant is emitted first. -/
def State.endDue (i : Idx) (s : State) : State :=
  if s.entries[i].finished then s.retire i else s.setEntry i { s.entries[i] with endTaken := true }

/-- END_DUE (R20). -/
def execEndDue (i : Idx) (s : State) : Host.Outcome State Fault Refusal :=
  .next (s.whenReleased fun s => if s.endIsDue i then s.endDue i else s)

/-! ## Jam event -/

/-- R60: timebase time has reached tn. -/
def State.jamIsDue (s : State) : Bool := s.civil.tn * second ≤ s.now

/-- R60: the civil settings after the jam at tn, tn itself not yet computed again. -/
def Civil.jammed (c : Civil) : Civil :=
  match c.pending with
  | some (o', eo) =>
    if eo = c.tn then { c with offset := o', pending := none, tL := some c.tn, tB := c.tn } else { c with tB := c.tn }
  | none => { c with tB := c.tn }

/-- R60 step 2: an entry that has not switched takes its next base. -/
def Entry.switch (e : Entry) : Entry :=
  match e.next with
  | some b => { e with base := some b, next := none }
  | none => e

/-- R60: a jam event. -/
def State.jam (s : State) : State :=
  State.reschedule ({ s with civil := s.civil.jammed }.mapEntries fun _ e => e.switch)

/-- JAM_EVENT (R60). -/
def execJamEvent (s : State) : Host.Outcome State Fault Refusal :=
  .next (s.whenReleased fun s => if s.jamIsDue then s.jam else s)

/-! ## Edges of the timing outputs -/

/-- R109: the active edge of the first waiting pulse of output `o` has come. -/
def State.activeIsDue (s : State) (o : OutNo) : Bool := s.outs[o].waiting.head?.any fun p => p.active ≤ (s.now : Int)

/-- R109: a pulse may begin on an output. -/
def Output.mayBegin (o : Output) (p : Pulse) (inhibit : Bool) : Bool :=
  !inhibit && o.inProgress.isNone && o.lastInactive.all fun x => x + 8 ≤ p.active

/-- R109: the first waiting pulse leaves the list, and is in progress or skipped. -/
def Output.activeEdge (o : Output) (inhibit : Bool) : Output :=
  match o.waiting with
  | [] => o
  | p :: ps =>
    if o.mayBegin p inhibit then { o with waiting := ps, inProgress := some p } else { o.skip 1 with waiting := ps }

/-- ACTIVE_EDGE (R109). -/
def execActiveEdge (o : OutNo) (s : State) : Host.Outcome State Fault Refusal :=
  .next (s.whenReleased fun s =>
    if s.activeIsDue o then s.setOutput o (s.outs[o].activeEdge s.inhibit) else s)

/-- R109: the inactive edge of the pulse in progress on output `o` has come. -/
def State.inactiveIsDue (s : State) (o : OutNo) : Bool := s.outs[o].inProgress.any fun p => p.inactive ≤ (s.now : Int)

/-- R109: the pulse in progress ends at its inactive edge. -/
def Output.inactiveEdge (o : Output) : Output :=
  match o.inProgress with
  | some p => o.endPulse p.inactive
  | none => o

/-- INACTIVE_EDGE (R109). -/
def execInactiveEdge (o : OutNo) (s : State) : Host.Outcome State Fault Refusal :=
  .next (s.whenReleased fun s => if s.inactiveIsDue o then s.setOutput o s.outs[o].inactiveEdge else s)

/-! ## The INHIBIT pin -/

/-- R111: an output when INHIBIT is asserted at instant `t`; a pulse whose active edge falls at that instant is counted. -/
def Output.inhibited (o : Output) (t : Int) : Output :=
  match o.inProgress with
  | some p => if p.active = t then (o.endPulse t).skip 1 else o.endPulse t
  | none => o

/-- INHIBIT_ASSERTION (R111); while RESET is asserted only the pin's level changes. -/
def execInhibitAssertion (s : State) : Host.Outcome State Fault Refusal :=
  .next { s.whenReleased (fun s => s.mapOutputs fun o => o.inhibited s.now) with inhibit := true }

/-- INHIBIT_RELEASE (R111). -/
def execInhibitRelease (s : State) : Host.Outcome State Fault Refusal := .next { s with inhibit := false }

end Sys2Proof.Machine
end

