-- ==== Sys2Proof/Machine/PortEvents.lean ====
section
/-! DEFINITION. The management port's transactions (R161, R169, R170, R181) and the end of an ATTN pulse (R171). -/

namespace Sys2Proof.Machine

open Sys2Proof Config

/-! ## Write transactions -/

/-- R161, R169: a request body arrives in the management slot. -/
def State.portArrive (body : List Byte) (s : State) : State :=
  match s.port.slot with
  | .request _ => s.countLoss
  | .result _ =>
    let s1 := s.countLoss
    { s1 with port := { s1.port with slot := .request body, pendingShown := false },
              arrivals := s1.arrivals ++ [.mgmt] }
  | .empty => { s with port := { s.port with slot := .request body, pendingShown := false },
                       arrivals := s.arrivals ++ [.mgmt] }

/-- R169, R181: a transaction that is discarded. -/
def State.countError (s : State) : State :=
  { s with port := { s.port with errors := satAdd counterTop s.port.errors 1 } }

/-- R169, R181: a transaction of `n` octets that is no read; SDO carries FFh, and a read in progress is over without having
delivered (log entry 18). -/
def State.noRead (n : Nat) (s : State) : State :=
  { s with port := { s.port with reading := none, sdo := List.replicate (n - 1) 0xFF } }

/-- R169: a write transaction whose octets after 57h are `rest`. -/
def State.spiWritten (rest : List Byte) (s : State) : State :=
  match spiWriteBody rest with
  | some body => s.portArrive body
  | none => s.countError

/-! ## Read transactions -/

/-- R170, R181: what the port returns after 52h, as the slot stands; SDO carries FFh beyond it. -/
def Port.answer (p : Port) : List Byte :=
  match p.slot with
  | .result r => 0x02 :: spiResult r
  | .request _ => [0x01]
  | .empty => [if p.pendingShown then 0x01 else 0x00]

/-- R170: the slot holds a result. -/
def Port.ready (p : Port) : Bool :=
  match p.slot with
  | .result _ => true
  | _ => false

/-- R170: a read begins: the status octet is sent, and the answer is that of the slot as it stands. -/
def Port.startRead (p : Port) : Port :=
  { p with reading := some ⟨p.answer, p.ready⟩, sdo := p.answer.take 1 }

/-- R170, R181: the octets on SDO while `n` octets are clocked after 52h. -/
def PortRead.clockOut (x : PortRead) (n : Nat) : List Byte :=
  x.answer.take n ++ List.replicate (n - x.answer.length) 0xFF

/-- R170: SCS rises on read `x` when `n` octets have been clocked after 52h: the result is delivered when the whole of it
has gone out and the slot still holds it. -/
def Port.endRead (p : Port) (x : PortRead) (n : Nat) : Port :=
  let p1 := { p with reading := none, sdo := x.clockOut n }
  if x.holds ∧ x.answer.length ≤ n then p1.vacate else p1

/-- R170: the read in progress ends; when there is none, nothing happens (log entry 4). -/
def Port.finishRead (p : Port) (n : Nat) : Port :=
  match p.reading with
  | some x => p.endRead x n
  | none => p

/-- R170: what a read transaction, or one of its ends, does to the port. -/
def Port.read (p : Port) : ReadPart → Port
  | .whole n => p.startRead.finishRead n
  | .start => p.startRead
  | .finish n => p.finishRead n

/-- R170: a read transaction, or one of its ends. -/
def State.spiRead (part : ReadPart) (s : State) : State := { s with port := s.port.read part }

/-- SPI_WRITE (R169, R181): a transaction, told apart by its first octet. -/
def execSpiWrite (octets : List Byte) (s : State) : Host.Outcome State Fault Refusal :=
  .next (s.whenReleased fun s =>
    match octets with
    | [] => (s.noRead 0).countError
    | first :: rest =>
      if first = 0x57 then (s.noRead octets.length).spiWritten rest
      else if first = 0x52 then s.spiRead (.whole rest.length)
      else (s.noRead octets.length).countError)

/-- SPI_READ (R170, R181). -/
def execSpiRead (part : ReadPart) (s : State) : Host.Outcome State Fault Refusal :=
  .next (s.whenReleased fun s => s.spiRead part)

/-! ## Attention -/

/-- R171: an ATTN pulse has lasted its 125 cycles. -/
def State.pulseDue (s : State) : Bool := s.attn.pulse.any fun c => attnPulse ≤ s.cycle - c

/-- ATTN_PULSE_END (R171). -/
def execAttnPulseEnd (s : State) : Host.Outcome State Fault Refusal :=
  .next (s.whenReleased fun s => if s.pulseDue then { s with attn := { s.attn with pulse := none } } else s)

end Sys2Proof.Machine
end

