-- ==== Sys2Proof/Machine/Dispatch.lean ====
section
/-! DEFINITION. The meaning of every command, one arm for each. -/

namespace Sys2Proof.Machine

def exec (i : Instr) (s : State) : Host.Outcome State Fault Refusal :=
  match i with
  | .find l t name => Sys2Proof.Machine.execFind l t name s
  | .read l t h => Sys2Proof.Machine.execRead l t h s
  | .list l t start => Sys2Proof.Machine.execList l t start s
  | .next l t h n => Sys2Proof.Machine.execNext l t h n s
  | .stations l t address => Sys2Proof.Machine.execStations l t address s
  | .notices l t => Sys2Proof.Machine.execNotices l t s
  | .create l t q => Sys2Proof.Machine.execCreate l t q s
  | .set l t q => Sys2Proof.Machine.execSet l t q s
  | .realign l t h => Sys2Proof.Machine.execRealign l t h s
  | .retire l t h => Sys2Proof.Machine.execRetire l t h s
  | .retireWithEnd l t h e => Sys2Proof.Machine.execRetireWithEnd l t h e s
  | .watch l t h => Sys2Proof.Machine.execWatch l t h s
  | .unwatch l t h => Sys2Proof.Machine.execUnwatch l t h s
  | .stream l t h d lead => Sys2Proof.Machine.execStream l t h d lead s
  | .unstream l t => Sys2Proof.Machine.execUnstream l t s
  | .sample l t q => Sys2Proof.Machine.execSample l t q s
  | .servo l t q => Sys2Proof.Machine.execServo l t q s
  | .civil l t q => Sys2Proof.Machine.execCivil l t q s
  | .bind l t q => Sys2Proof.Machine.execBind l t q s
  | .chain l t act q => Sys2Proof.Machine.execChain l t act q s
  | .chainHold l t q => Sys2Proof.Machine.execChainHold l t q s
  | .chainRelease l t q => Sys2Proof.Machine.execChainRelease l t q s
  | .save l t bank => Sys2Proof.Machine.execSave l t bank s
  | .load l t bank => Sys2Proof.Machine.execLoad l t bank s
  | .reset l t => Sys2Proof.Machine.execReset l t s
  | .status l t clear act => Sys2Proof.Machine.execStatus l t clear act s
  | .spiWrite octets => Sys2Proof.Machine.execSpiWrite octets s
  | .spiRead part => Sys2Proof.Machine.execSpiRead part s
  | .saveCompletion stored => Sys2Proof.Machine.execSaveCompletion stored s
  | .loadCompletion => Sys2Proof.Machine.execLoadCompletion s
  | .startBankLoadCompletion => Sys2Proof.Machine.execStartBankLoadCompletion s
  | .hardReset => Sys2Proof.Machine.execHardReset s
  | .resetRelease straps => Sys2Proof.Machine.execResetRelease straps s
  | .strobeEdge p => Sys2Proof.Machine.execStrobeEdge p s
  | .inhibitAssertion => Sys2Proof.Machine.execInhibitAssertion s
  | .inhibitRelease => Sys2Proof.Machine.execInhibitRelease s
  | .markDue n => Sys2Proof.Machine.execMarkDue n s
  | .endDue n => Sys2Proof.Machine.execEndDue n s
  | .jamEvent => Sys2Proof.Machine.execJamEvent s
  | .activeEdge o => Sys2Proof.Machine.execActiveEdge o s
  | .inactiveEdge o => Sys2Proof.Machine.execInactiveEdge o s
  | .holdoverTimerExpiry => Sys2Proof.Machine.execHoldoverTimerExpiry s
  | .holdoverAgeLimitPassed => Sys2Proof.Machine.execHoldoverAgeLimitPassed s
  | .attnPulseEnd => Sys2Proof.Machine.execAttnPulseEnd s
  | .returnFrame p line => Sys2Proof.Machine.execReturnFrame p line s
  | .answerWindowOpen => Sys2Proof.Machine.execAnswerWindowOpen s
  | .answerWindowClose => Sys2Proof.Machine.execAnswerWindowClose s
  | .pollSend => Sys2Proof.Machine.execPollSend s
  | .discoverSend => Sys2Proof.Machine.execDiscoverSend s
  | .rangeSend => Sys2Proof.Machine.execRangeSend s
  | .reportStart => Sys2Proof.Machine.execReportStart s
  | .reportSent => Sys2Proof.Machine.execReportSent s
  | .silenceTimerExpiry => Sys2Proof.Machine.execSilenceTimerExpiry s
  | .liveRunReached => Sys2Proof.Machine.execLiveRunReached s
  | .orphanTimerExpiry x => Sys2Proof.Machine.execOrphanTimerExpiry x s
  | .conflictTimerExpiry x => Sys2Proof.Machine.execConflictTimerExpiry x s
  | .streamHoldExpiry x => Sys2Proof.Machine.execStreamHoldExpiry x s
  | .reRangeTimerExpiry x => Sys2Proof.Machine.execReRangeTimerExpiry x s
  | .timebaseSecondsWrap => Sys2Proof.Machine.execTimebaseSecondsWrap s

end Sys2Proof.Machine
end

