-- ==== Sys2Proof/Machine/Clock.lean ====
section
/-! DEFINITION. What the part does by itself when no command waits (log entry 1): the choice of the next addressee, the events whose condition stands, one
at a time, then the acceptance of a waiting request, then a REFCLK cycle. -/

namespace Sys2Proof.Machine

open Sys2Proof Config

/-- The first index of a kind of event that stands, as its command. -/
def firstOf {n : Nat} (p : Fin n → Bool) (c : Fin n → Instr) : Option Instr := ((List.finRange n).find? p).map c

/-- An event as its command, when it stands. -/
def onceIf (b : Bool) (c : Instr) : Option Instr := if b then some c else none

/-- The next event of the timing outputs, the mark engine and the label unit that stands. -/
def State.dueMark (s : State) : Option Instr :=
  (firstOf s.inactiveIsDue Instr.inactiveEdge).or <|
  (firstOf s.activeIsDue Instr.activeEdge).or <|
  (firstOf s.markIsDue Instr.markDue).or <|
  (firstOf s.endIsDue Instr.endDue).or <|
  onceIf s.jamIsDue .jamEvent

/-- The next timer expiry that stands. -/
def State.dueTimer (s : State) : Option Instr :=
  (onceIf s.holdoverDue .holdoverTimerExpiry).or <|
  (onceIf s.ageLimitDue .holdoverAgeLimitPassed).or <|
  (onceIf s.pulseDue .attnPulseEnd).or <|
  (onceIf s.silenceDue .silenceTimerExpiry).or <|
  (onceIf s.liveDue .liveRunReached).or <|
  (firstOf s.orphanDue Instr.orphanTimerExpiry).or <|
  (firstOf s.conflictDue Instr.conflictTimerExpiry).or <|
  (firstOf (fun x => (s.holdDue x).isSome) Instr.streamHoldExpiry).or <|
  firstOf s.reRangeDue Instr.reRangeTimerExpiry

/-- The next event of the chain transmitter and its answer windows that stands. A window that has lasted its time closes
when no frame has started in it. -/
def State.dueLine (s : State) : Option Instr :=
  (onceIf s.openDue .answerWindowOpen).or <|
  (onceIf s.reportOver.isSome .reportSent).or <|
  (onceIf (s.windowOver.isSome && !s.chain.rx.inWindow) .answerWindowClose).or <|
  (onceIf s.reportDue.isSome .reportStart).or <|
  (onceIf (s.serviceDue .poll).isSome .pollSend).or <|
  (onceIf (s.serviceDue .discover).isSome .discoverSend).or <|
  onceIf (s.serviceDue .range).isSome .rangeSend

/-- The next event of the part's own that stands. -/
def State.due (s : State) : Option Instr := s.dueMark.or (s.dueTimer.or s.dueLine)

/-- R162, R164: the status of a known code whose fields do not form a whole request: check 2, then check 3. -/
def malformedStatus (l : Link) (code : Byte) : Status :=
  match l with
  | .mgmt => if stationOnly code then .notPermitted else .badField
  | .station _ => if managementOnly code then .notPermitted else .badField

/-- R160, R162: the request that arrived first, of link `l`, is accepted. -/
def State.accept (l : Link) (s : State) : Host.Outcome State Fault Refusal :=
  match s.slotOf l with
  | .request b =>
    match parseBody b with
    | .whole t r => exec (r.toInstr l t) s
    | .unknown c t => .next (s.complete l ⟨c, t, .unknown, .empty⟩)
    | .malformed c t => .next (s.complete l ⟨c, t, malformedStatus l c, .empty⟩)
  | _ => .next { s with arrivals := s.arrivals.erase l }

/-- R73, R74, R76: one REFCLK cycle, with the wrap when it falls in it. -/
def State.clock (s : State) : Host.Outcome State Fault Refusal :=
  if s.wrapDue then exec .timebaseSecondsWrap s else .next s.tick

/-- What happens when no command waits; while RESET is asserted, nothing (R176). The addressee of the next service frame is
chosen as soon as there is one (R139). -/
def State.idle (s : State) : Host.Outcome State Fault Refusal :=
  if s.resetPin then .next s
  else if s.choiceDue then .next s.choose
  else
    match s.due, s.arrivals with
    | some c, _ => exec c s
    | none, l :: _ => s.accept l
    | none, [] => s.clock

end Sys2Proof.Machine
end

