-- ==== Sys2Proof/Safety.lean ====
section
/-! DEFINITION. What claims about the part are stated in: when a request stands next, the answer it is due, what an event, a
step or a bank leaves of the records, and the conditions that every step keeps. -/

namespace Sys2Proof.Machine

open Sys2Proof Config

/-! ## Requests -/

/-- R160: request `r` of link `l` with tag `t` waits in its slot, and its turn has come. -/
def State.standsNext (s : State) (l : Link) (t : Tag) (r : Req) : Prop :=
  s.resetPin = false ∧ (∃ b, s.slotOf l = .request b ∧ parseBody b = .whole t r) ∧ s.arrivals.head? = some l

/-- R160: the state in which request `r` of link `l` has been answered with status `st` and fields `b`. -/
def State.reply (s : State) (l : Link) (t : Tag) (r : Req) (st : Status) (b : Body) : State :=
  s.complete l ⟨requestCode r, t, st, b⟩

/-- R82, R83: the fields of SAMPLE pass their checks, its report is paired with a capture taken at `tc`, and its grade is
good enough. -/
def State.pairs (s : State) (q : SampleReq) (tc : Nat) : Prop :=
  (q.sec < secondsWrap ∧ q.ns < second ∧ q.grade ≤ 15)
  ∧ (∃ sc, s.latest = some sc ∧ (sc - q.seq).toNat < 4)
  ∧ s.slots[slotNo q.seq].state = .filled ∧ s.slots[slotNo q.seq].time = tc ∧ q.grade ≤ s.servo.params.minGrade

/-- R171: cause `c` is in the set. -/
def State.shows (s : State) (c : Cause) : Prop := s.attn.causes.has c = true

/-! ## Frames -/

/-- The parts of the state, one for each field. -/
inductive Part where
  | cycle | tb | readings | resetPin | inhibit | lastEdge | slots | latest | servo | civil | entries | mgmtNotices | outs | chain
  | stations | arrivals | port | attn | store | pending
  deriving DecidableEq, Repr

/-- Part `p` of the state stands as it stood. -/
def State.samePart (s s' : State) : Part → Prop
  | .cycle => s'.cycle = s.cycle
  | .tb => s'.tb = s.tb
  | .readings => s'.readings = s.readings
  | .resetPin => s'.resetPin = s.resetPin
  | .inhibit => s'.inhibit = s.inhibit
  | .lastEdge => s'.lastEdge = s.lastEdge
  | .slots => s'.slots = s.slots
  | .latest => s'.latest = s.latest
  | .servo => s'.servo = s.servo
  | .civil => s'.civil = s.civil
  | .entries => s'.entries = s.entries
  | .mgmtNotices => s'.mgmtNotices = s.mgmtNotices
  | .outs => s'.outs = s.outs
  | .chain => s'.chain = s.chain
  | .stations => s'.stations = s.stations
  | .arrivals => s'.arrivals = s.arrivals
  | .port => s'.port = s.port
  | .attn => s'.attn = s.attn
  | .store => s'.store = s.store
  | .pending => s'.pending = s.pending

/-- Every part of the state but those listed stands as it stood. -/
def State.sameBut (changed : List Part) (s s' : State) : Prop := ∀ p : Part, p ∉ changed → s.samePart s' p

/-! ## What an event leaves of an entry or an output -/

/-- R62, R65, R67: base `b` of entry `e` belongs to a jam at second `tj` whose civil second is `c`: kb is the first mark whose
nominal instant lies at or after the jam, NJ the count of the jam's label. -/
def Base.belongs (b : Base) (e : Entry) (tj c : Nat) : Prop :=
  (∀ k : Nat, b.kb ≤ k ↔ tj * 1000000000 ≤ nominal e.num e.den k)
  ∧ (e.label = .count → b.nj = labelsPerSecond e.num e.den * c)
  ∧ ∀ d : Nat, e.label = .drop → dropCount e.num e.den = some d →
      b.nj = (labelsPerSecond e.num e.den * c : Int) - d * (c / 60 - c / 60 / 10 : Nat)
        + (if c % 60 = 0 ∧ c / 60 % 10 ≠ 0 then (d : Int) else 0)

/-- R59: the civil offset after the jam at tn, O′ when that is the leap jam. -/
def Civil.leapOffset (c : Civil) : Int :=
  match c.pending with
  | some (o', eo) => if eo = c.tn then o' else c.offset
  | none => c.offset

/-- R63: the next base of a labelled entry is that of the jam at tn. -/
def Entry.nextLabelled (e : Entry) (c : Civil) : Prop :=
  if e.label = .none then e.next = none
  else ∃ b, e.next = some b ∧ b.belongs e c.tn (((c.tn : Int) + c.leapOffset) % 86400).toNat

/-- R62, R63: the bases of a labelled entry are those of tB and of tn; an entry of label mode NONE holds none. -/
def Entry.labelled (e : Entry) (c : Civil) : Prop :=
  (if e.label = .none then e.base = none
   else ∃ b, e.base = some b ∧ b.belongs e c.tB (((c.tB : Int) + c.offset) % 86400).toNat)
  ∧ e.nextLabelled c

/-- R11, R30, R36, R37: `e` is what definition `d` makes for owner `l` at instant `t`, at generation `g`. -/
def EntryDef.made (d : EntryDef) (g : BitVec 8) (l : Link) (t : Nat) (c : Civil) (e : Entry) : Prop :=
  let pf := d.den * 1000000000 / d.num
  e.state = .pending ∧ e.motion = .pending ∧ e.gen = g ∧ e.owner = l ∧ e.name = d.name ∧ e.num = d.num ∧ e.den = d.den
  ∧ e.pf = pf ∧ e.phi = clampInt (-((pf : Int) - 1)) ((pf : Int) - 1) d.phi ∧ e.eps = 0 ∧ e.policy = d.policy
  ∧ e.slew = clampNat 1 (pf / 4) d.slew ∧ e.label = degrade d.label d.num d.den ∧ e.kl = none ∧ e.lm = none
  ∧ e.endAt = none ∧ e.watchers = [] ∧ e.mgmtWatch = false ∧ e.realigns = 0
  ∧ (∃ k, e.ks = some k ∧ ∀ j : Nat, k ≤ j ↔ (t : Int) + 1000000 ≤ nominal d.num d.den j + e.phi)
  ∧ e.labelled c

/-- R37, R38, R42, R44 to R50: `m` is what entry `e`, its φ and Lm already those after the event, becomes when an event at
instant `r` changes its carried offset by `d` under slew range `range`. -/
def Entry.absorbed (e : Entry) (range : Nat) (d r : Int) (m : Entry) : Prop :=
  let eps := e.eps + d
  let within : Prop := -(9223372036854775808 : Int) ≤ eps ∧ eps ≤ 9223372036854775807
  (e.motion = .pending →
    ∃ k, m = { e with ks := some k } ∧ ∀ j : Nat, k ≤ j ↔ r + 1000000 ≤ nominal e.num e.den j + e.phi)
  ∧ (e.motion ≠ .pending → e.policy = .snap ∨ ¬within → m = e.snapped r)
  ∧ (e.motion ≠ .pending → e.policy ≠ .snap → within →
      let motion : Motion :=
        if eps = 0 then .running else if e.policy = .slew ∧ eps.natAbs ≤ range then .slewing else .held
      m = { e with eps := eps, motion := motion, state := if e.state = .ending then .ending else motion.toState })

/-- R20: entry `m` ends at instant `t` after an event has reached it: it is ENDING, its end instant has come, and its next mark
lies after it, or the event was a forward step. -/
def Entry.endsAt (m : Entry) (t : Int) (forward : Prop) : Prop :=
  m.state = .ending ∧ ∃ x : Nat, m.endAt = some x ∧ (x : Int) ≤ t ∧ (forward ∨ (x : Int) < m.applied m.nextMark)

/-- R58, R59: tn of `c` is the next daily jam after tB, or Eo of a pending change when that is earlier. -/
def Civil.scheduled (c : Civil) : Prop :=
  ∃ d : Nat, c.tB < d ∧ d ≤ c.tB + 86400 ∧ ((d : Int) + c.offset - c.jam) % 86400 = 0
    ∧ c.tn = match c.pending with
      | some (_, eo) => min d eo
      | none => d

/-- R58: tB and tn of `c` are those of a re-base at instant `t`. -/
def Civil.basedAt (c : Civil) (t : Int) : Prop :=
  let sec : Int := t / 1000000000
  let daily : Int := max 0 (sec - (sec + c.offset - c.jam) % 86400)
  (c.tB : Int) = (match c.tL with | some l => max daily l | none => daily) ∧ c.scheduled

/-- R58: the label bases of entry `i` of `s` after a re-base that left `s'`: those they were where tB, O and J stand, else those of
tB and tn. -/
def State.basesFollow (s s' : State) (i : Idx) : Prop :=
  let kept : Prop := s'.civil.tB = s.civil.tB ∧ s'.civil.offset = s.civil.offset ∧ s'.civil.jam = s.civil.jam
  (kept → s'.entries[i].base = s.entries[i].base ∧ s'.entries[i].next = s.entries[i].next)
  ∧ (¬kept → 0 < s.entries[i].num → 0 < s.entries[i].den → s'.entries[i].labelled s'.civil)

/-- R156, R17: what an event at entry `i` leaves of the stations' records, the notices apart: a stream on the entry is what `f`
makes of it under its station's path delay, and the record loses the entry with its watch, its stream and its place in the
owned count where the event retires it (`gone`). -/
def State.leftStations (s s' : State) (i : Idx) (gone : Prop) (f : Stream → Option Nat → Stream) : Prop :=
  let e := s.entries[i]
  ∀ x : Addr,
    let r := s.stations[x]
    (gone → s'.stations[x] = { r with
      notices := s'.stations[x].notices
      watchList := if x ∈ e.watchers then r.watchList.erase i else r.watchList
      stream := if r.streams i then none else r.stream
      owned := r.owned - (if e.owner = .station x then 1 else 0) })
    ∧ (¬gone → s'.stations[x] = { r with
      notices := s'.stations[x].notices
      stream := r.stream.map fun st => if st.entry.index = i then f st r.delta else st })

/-- R83, R77: capture slot `k`, whose sample was accepted, is CONSUMED, and the other FILLED slots are VOID when it stepped the
timebase. -/
def State.spentSlots (s s' : State) (k : Fin 4) (stepped : Bool) : Prop :=
  ∀ j : Fin 4, s'.slots[j] =
    if j = k then { s.slots[j] with state := .consumed }
    else if stepped = true ∧ s.slots[j].state = .filled then { s.slots[j] with state := .void } else s.slots[j]

/-- R161, R170: the result `r` of a store operation has entered a free slot, or has replaced an unread result, which is lost and
whose read in progress will deliver nothing, or waits for the request in the slot (log entry 20). -/
def State.deliversTo (s s' : State) (r : Result) : Prop :=
  s'.port.pendingShown = false
  ∧ (s.port.slot = .empty → s'.port.slot = .result r ∧ s'.port.losses = s.port.losses)
  ∧ (∀ u, s.port.slot = .result u → s'.port.slot = .result r ∧ s'.port.losses = min 65535 (s.port.losses + 1)
      ∧ s'.port.reading = s.port.reading.map fun x => { x with holds := false })
  ∧ (∀ q, s.port.slot = .request q → s'.port.slot = .request q ∧ s'.port.deferred = some r)

/-- R113: `r` is output `a` with its waiting pulses moved by `delta`, those then before instant `t` skipped. -/
def Output.moved (a : Output) (delta t : Int) (r : Output) : Prop :=
  let moved := a.waiting.map fun p => { p with active := p.active + delta, inactive := p.inactive + delta }
  let kept := moved.filter fun p => t ≤ p.active
  r = { a with waiting := kept, skipped := min 65535 (a.skipped + (moved.length - kept.length)) }

/-- R107, R112: `r` is output `a` with its waiting pulses discarded and counted. -/
def Output.emptied (a r : Output) : Prop :=
  r = { a with waiting := [], skipped := min 65535 (a.skipped + a.waiting.length) }

/-- R77, R84: what a timebase step of `theta` does to timebase time, the entries, the civil settings, the outputs, the chain and
the notice sets of `s` is what it has done in `s'`. -/
def State.steppedAs (s s' : State) (theta : Int) : Prop :=
  let u := s.applyStep theta
  s'.tb = u.tb ∧ s'.entries = u.entries ∧ s'.civil = u.civil ∧ s'.outs = u.outs ∧ s'.chain = u.chain
  ∧ s'.stations = u.stations ∧ s'.mgmtNotices = u.mgmtNotices

/-! ## What a bank leaves of the part (R175, R30, R120) -/

/-- R130: station `x` is SILENT and has counted `orphan` seconds, a new orphan time. -/
def State.orphanedBy (s : State) (orphan : Nat) (x : Addr) : Prop :=
  s.stations[x].state = .silent ∧ orphan ≠ s.chain.orphan
  ∧ ∃ c, s.stations[x].orphanStart = some c ∧ orphan * 125000000 ≤ s.cycle - c

/-- R30, R54: entry `i` makes room for a bank: it is VACANT, an owner-0 entry, any entry where `all` holds, or one of a station
that the bank's orphan time takes off the chain. -/
def State.givesWay (s : State) (all : Bool) (orphan : Nat) (i : Idx) : Prop :=
  s.entries[i].state = .vacant ∨ s.entries[i].owner = .mgmt ∨ all = true
  ∨ ∃ x, s.entries[i].owner = .station x ∧ s.orphanedBy orphan x

/-- R30: the generation at which entry `i` stands once it has made room. -/
def Entry.genAfter (e : Entry) : BitVec 8 := if e.state = .vacant then e.gen else e.gen + 1

/-- R30 steps 2 and 3: the definitions of content `c` have become the entries `made`, in the order of the list, each in the
lowest of the entries of `s` that make room (`all` as in `givesWay`), and those without an entry are the ones for which none remained or whose name is
held by an entry that stays or, by log entry 29, by one made before. -/
def State.madeFrom (s : State) (all : Bool) (c : BankContent) (made : List (Option EntryRef)) (s' : State) : Prop :=
  made.length = c.defs.length
  ∧ (made.filterMap id).Pairwise (fun a b => a.index < b.index)
  ∧ (∀ (k : Nat) (r : EntryRef) (d : EntryDef), made[k]? = some (some r) → c.defs[k]? = some d →
      s.givesWay all c.orphan r.index ∧ r.gen = s.entries[r.index].genAfter
      ∧ d.made r.gen .mgmt s.now s'.civil s'.entries[r.index]
      ∧ ∀ i : Idx, s.givesWay all c.orphan i → i < r.index → ∃ q ∈ made.filterMap id, q.index = i)
  ∧ (∀ (k : Nat) (d : EntryDef), made[k]? = some none → c.defs[k]? = some d →
      (∀ i : Idx, s.givesWay all c.orphan i → ∃ j r, j < k ∧ made[j]? = some (some r) ∧ r.index = i)
      ∨ ∃ nm, d.name = some nm ∧
          ((∃ i : Idx, ¬s.givesWay all c.orphan i ∧ s.entries[i].name = some nm)
           ∨ ∃ j r b, j < k ∧ made[j]? = some (some r) ∧ c.defs[j]? = some b ∧ b.name = some nm))
  ∧ (∀ (k : Nat) (r : EntryRef) (d : EntryDef) (nm : List Byte), made[k]? = some (some r) → c.defs[k]? = some d →
      d.name = some nm →
      (∀ i : Idx, s.entries[i].name = some nm → s.givesWay all c.orphan i)
      ∧ ∀ j q b, j < k → made[j]? = some (some q) → c.defs[j]? = some b → b.name ≠ some nm)
  ∧ ∀ i : Idx, s.givesWay all c.orphan i → (∀ r, some r ∈ made → r.index ≠ i) →
      s'.entries[i].state = .vacant ∧ s'.entries[i].gen = s.entries[i].genAfter

/-- R41: entry `e` after a slew range `range`: one that slews with a greater |ε| is HELD. -/
def Entry.heldBy (e : Entry) (range : Nat) : Entry :=
  if e.state ≠ .vacant ∧ e.motion = .slewing ∧ range < e.eps.natAbs then e.withMotion .held else e

/-- R156: stream `st` under path delay `delta` after slew range `range` has reached its entry `e` at instant `t`. -/
def Stream.heldBy (st : Stream) (e : Entry) (range : Nat) (delta : Option Nat) (t : Int) : Stream :=
  if e.state ≠ .vacant ∧ e.motion = .slewing ∧ range < e.eps.natAbs then
    st.replan (.recompute e) (e.withMotion .held) delta t
  else st

/-- R30, R41, R72, R156: every entry that a bank of content `c` leaves in place stands as it stood, but for its label bases, which
follow a re-base, the watchers whose station its orphan time takes off, and a slew that its slew range holds, with the streams on
it; every watcher of an entry that went has its notice, and the streams on it are closed. -/
def State.keptEntries (s : State) (all : Bool) (c : BankContent) (s' : State) : Prop :=
  (∀ i : Idx, ¬s.givesWay all c.orphan i →
    let e := s.entries[i]
    s'.entries[i] = { e.heldBy c.params.slewRange with
      watchers := s'.entries[i].watchers, base := s'.entries[i].base, next := s'.entries[i].next }
    ∧ s.basesFollow s' i
    ∧ ∀ x : Addr, ¬s.orphanedBy c.orphan x → (x ∈ s'.entries[i].watchers ↔ x ∈ e.watchers))
  ∧ (∀ x : Addr, ¬s.orphanedBy c.orphan x →
      (s.stations[x].stream = none → s'.stations[x].stream = none)
      ∧ ∀ st, s.stations[x].stream = some st →
          let i := st.entry.index
          (¬s.givesWay all c.orphan i →
            s'.stations[x].stream = some (st.heldBy s.entries[i] c.params.slewRange s.stations[x].delta s.now))
          ∧ (s.entries[i].state ≠ .vacant → s.givesWay all c.orphan i → s'.stations[x].stream = none))
  ∧ ∀ i : Idx, s.entries[i].state ≠ .vacant → s.givesWay all c.orphan i →
      (s.entries[i].mgmtWatch = true → i ∈ s'.mgmtNotices)
      ∧ ∀ x ∈ s.entries[i].watchers, ¬s.orphanedBy c.orphan x → i ∈ s'.stations[x].notices

/-- R120, R110, R119: output `o` after a bank of content `c` whose definitions have become `made`: unbound and its waiting pulses
counted, then set by its record, bound by position and clamped; a pulse in progress stays (log entry 21). -/
def State.outputTook (s : State) (c : BankContent) (made : List (Option EntryRef)) (s' : State) (o : OutNo) : Prop :=
  let a := s.outs[o]
  let d := c.outs[o]
  let r := s'.outs[o]
  r.enabled = d.enabled ∧ r.divider = d.divider ∧ r.waiting = []
  ∧ r.skipped = min 65535 (a.skipped + a.waiting.length) ∧ r.inProgress = a.inProgress ∧ r.lastInactive = a.lastInactive
  ∧ r.binding = (d.binding.bind fun k => made.getD k none)
  ∧ (match r.binding with
     | some e => r.delay = clampNat 0 (r.divider * s'.entries[e.index].pf - 1) d.delay
         ∧ r.width = clampNat 8 (r.divider * s'.entries[e.index].pf / 2) d.width
     | none => r.delay = clampNat 0 65534999999999 d.delay ∧ r.width = clampNat 8 32767500000000 d.width)
  ∧ (if a.inProgress = none ∨ d.polarity = a.polarity then r.polarity = d.polarity ∧ r.pendingPol = none
     else r.polarity = a.polarity ∧ r.pendingPol = some d.polarity)

/-- R102, R98: the servo has taken parameters `p`: I and then C are brought within the limit, and the holdover timer expires where
it has counted the new timeout; nothing else of it moves. -/
def State.tookParams (s : State) (p : ServoParams) (s' : State) : Prop :=
  let expires : Prop := (s.servo.state = .acquire ∨ s.servo.state = .locked)
    ∧ ∃ a, s.servo.timer = some a ∧ p.timeout * 125000000 ≤ s.cycle - a
  let i := clampInt (-(p.limit : Int)) p.limit s.servo.integral
  (expires → s'.servo = { s.servo with
      params := p, integral := i, correction := i, state := .holdover, timer := none, ageStart := some s.cycle, good := 0
      outliers := 0, noted := s'.quality })
  ∧ (¬expires → s'.servo = { s.servo with
      params := p, integral := i, correction := clampInt (-(p.limit : Int)) p.limit s.servo.correction, noted := s'.quality })
  ∧ (s'.quality ≠ s.servo.noted → s'.shows .servo)

/-- R57, R58, R71, R72: the civil settings are O and J of a bank at its load: tL goes where either is new, and tB and tn are then
computed again, as they are where `always` holds; else all stands. The pending change stays. -/
def State.tookCivil (s : State) (o : Int) (j : Nat) (always : Bool) (s' : State) : Prop :=
  let same : Prop := o = s.civil.offset ∧ j = s.civil.jam
  s'.civil.offset = o ∧ s'.civil.jam = j ∧ s'.civil.pending = s.civil.pending
  ∧ (same → s'.civil.tL = s.civil.tL) ∧ (¬same → s'.civil.tL = none)
  ∧ (¬same ∨ always = true → s'.civil.basedAt s.now) ∧ (same → always = false → s'.civil = s.civil)

/-- R175 steps 1 to 4, R102, R71, R72, R130: the settings of a bank of content `c` are in force; `always` as in `tookCivil`. -/
def State.tookSettings (s : State) (c : BankContent) (always : Bool) (s' : State) : Prop :=
  s.tookParams c.params s' ∧ s.tookCivil c.offset c.jam always s'
  ∧ s'.chain.timeout = c.timeout ∧ s'.chain.orphan = c.orphan ∧ s'.chain.autoRelease = c.autoRelease
  ∧ s'.attn.mode = c.mode ∧ s'.attn.mask = c.mask
  ∧ ∀ x : Addr, s.orphanedBy c.orphan x → s'.stations[x].state = .absent

/-! ## Conditions that every step keeps -/

/-- R74: the timebase fields lie in their ranges. -/
def State.timebaseInv (s : State) : Prop :=
  s.tb.ns < second ∧ s.tb.seconds < secondsWrap ∧ s.tb.frac < fracUnit

/-- R100: the parameters lie in their ranges, the unlock window never below the lock window. -/
def ServoParams.inRange (p : ServoParams) : Prop :=
  (1000 ≤ p.sth ∧ p.sth ≤ 1000000000) ∧ (10 ≤ p.lockWin ∧ p.lockWin ≤ 1000000) ∧ (1 ≤ p.lockCount ∧ p.lockCount ≤ 16)
  ∧ (p.lockWin ≤ p.unlockWin ∧ p.unlockWin ≤ 10000000) ∧ (1 ≤ p.persist ∧ p.persist ≤ 8) ∧ p.kp ≤ 65535
  ∧ p.ki ≤ 65535 ∧ p.limit ≤ 6871947 ∧ (1 ≤ p.timeout ∧ p.timeout ≤ 60) ∧ (1 ≤ p.ageLimit ∧ p.ageLimit ≤ 86400)
  ∧ p.minGrade ≤ 15 ∧ p.slewRange ≤ 1000000000

/-- R92, R98: I and C lie within ±L, both are 0 in FREE, and C equals I in HOLDOVER. -/
def Servo.steered (v : Servo) : Prop :=
  v.integral.natAbs ≤ v.params.limit ∧ v.correction.natAbs ≤ v.params.limit
  ∧ (v.state = .free → v.integral = 0 ∧ v.correction = 0) ∧ (v.state = .holdover → v.correction = v.integral)

/-- R89, R90: the quality class last reported is one of the servo state. -/
def Servo.classNoted (v : Servo) : Prop :=
  (v.state = .locked → v.noted = 0) ∧ (v.state = .acquire → v.noted = 1)
  ∧ (v.state = .holdover → v.noted = 2 ∨ v.noted = 3) ∧ (v.state = .free → v.noted = 4)

/-- R88, R90, R100: the discipline unit's figures lie in their ranges. -/
def State.servoInv (s : State) : Prop :=
  s.servo.params.inRange ∧ s.servo.steered ∧ s.servo.classNoted ∧ s.servo.good ≤ 16 ∧ s.servo.outliers ≤ 8

/-- R12, R41: an entry that waits to start or is RUNNING carries no offset, one that is SLEWING at most the slew range. -/
def State.offsetInv (s : State) : Prop :=
  ∀ i : Idx, s.entries[i].state ≠ .vacant →
    (s.entries[i].motion = .pending ∨ s.entries[i].motion = .running → s.entries[i].eps = 0)
    ∧ (s.entries[i].motion = .slewing → s.entries[i].eps.natAbs ≤ s.servo.params.slewRange)

/-- The entries of station `x`. -/
def State.ownedBy (s : State) (x : Addr) : List Idx :=
  (List.finRange 64).filter fun i => s.entries[i].state ≠ .vacant && s.entries[i].owner = .station x

/-- R5: every station's owned count is the number of its entries, and at most 8. -/
def State.ownedInv (s : State) : Prop :=
  ∀ x : Addr, s.stations[x].owned = (s.ownedBy x).length ∧ s.stations[x].owned ≤ 8

/-- R6: a station is in an entry's watcher list exactly when the entry is in its watch list; neither holds a member twice or
more than 8, and a VACANT entry has no watcher. -/
def State.watchInv (s : State) : Prop :=
  (∀ (i : Idx) (x : Addr), x ∈ s.entries[i].watchers ↔ i ∈ s.stations[x].watchList)
  ∧ (∀ i : Idx, s.entries[i].watchers.Nodup ∧ s.entries[i].watchers.length ≤ 8
      ∧ (s.entries[i].state = .vacant → s.entries[i].watchers = []))
  ∧ ∀ x : Addr, s.stations[x].watchList.Nodup ∧ s.stations[x].watchList.length ≤ 8

/-- R7: every notice set stands in ascending index order, without repeats. -/
def State.noticesInv (s : State) : Prop :=
  s.mgmtNotices.Pairwise (· < ·) ∧ ∀ x : Addr, s.stations[x].notices.Pairwise (· < ·)

/-- R151: the step of every stream is at least 1 and its lead within its clamp. -/
def State.streamsInv (s : State) : Prop :=
  ∀ (x : Addr) (st : Stream), s.stations[x].stream = some st → 1 ≤ st.step ∧ 10000 ≤ st.lead ∧ st.lead ≤ 10000000

/-- R111: no pulse is in progress while INHIBIT is asserted, nor while RESET is. -/
def State.quietInv (s : State) : Prop :=
  s.inhibit = true ∨ s.resetPin = true → ∀ o : OutNo, s.outs[o].inProgress = none

/-- R111: output `o` is at the inactive level of its polarity. -/
def State.pinRests (s : State) (o : OutNo) : Prop :=
  s.pinHigh o = decide (s.outs[o].polarity = .activeLow)

end Sys2Proof.Machine
end

