-- ==== Sys2Proof/WellFormed.lean ====
section
/-! DEFINITION. Which commands the layouts of R178 can spell: every numeric field within the octets its width gives it, and
an action octet that names none distinct from those that name one. -/

namespace Sys2Proof

/-- A number fits in `w` octets. -/
def fits (w x : Nat) : Bool := x < 256 ^ w

/-- A signed number fits in `w` octets of two's complement. -/
def fitsSigned (w : Nat) (x : Int) : Bool := -(2 ^ (8 * w - 1) : Nat) ≤ x && x < (2 ^ (8 * w - 1) : Nat)

/-- An optional number fits. -/
def fitsOpt (w : Nat) (x : Option Nat) : Bool := x.all (fits w)

/-- A handle's index fits in its octet. -/
def Handle.wellFormed (h : Handle) : Bool := fits 1 h.index

/-- A name fits behind its length octet. -/
def fitsName (n : List Byte) : Bool := fits 1 n.length

/-- A rate fits its six octets. -/
def fitsRate (r : Nat × Nat) : Bool := fits 4 r.1 && fits 2 r.2

/-- An octet that names none of the first `n` actions. -/
def otherCode (n c : Nat) : Bool := n ≤ c && fits 1 c

/-- CREATE's fields fit. -/
def CreateReq.wellFormed (q : CreateReq) : Bool :=
  fitsRate (q.num, q.den) && q.name.all fitsName && q.phi.all (fitsSigned 4) && fitsOpt 1 q.policy && fitsOpt 4 q.slew
    && fitsOpt 1 q.label

/-- SET's fields fit. -/
def SetReq.wellFormed (q : SetReq) : Bool :=
  q.handle.wellFormed && q.rate.all fitsRate && q.phi.all (fitsSigned 4) && fitsOpt 1 q.policy && fitsOpt 4 q.slew
    && fitsOpt 1 q.label && q.name.all fitsName

/-- SAMPLE's fields fit. -/
def SampleReq.wellFormed (q : SampleReq) : Bool := fits 6 q.sec && fits 4 q.ns && fits 1 q.grade

/-- SERVO's fields fit. -/
def ServoReq.wellFormed (q : ServoReq) : Bool :=
  fitsOpt 4 q.sth && fitsOpt 4 q.lockWin && fitsOpt 1 q.lockCount && fitsOpt 4 q.unlockWin && fitsOpt 1 q.persist
    && fitsOpt 2 q.kp && fitsOpt 2 q.ki && fitsOpt 4 q.limit && fitsOpt 1 q.timeout && fitsOpt 4 q.ageLimit
    && fitsOpt 1 q.minGrade && fitsOpt 4 q.slewRange

/-- The pending action fits. -/
def PendingAction.wellFormed : PendingAction → Bool
  | .keep => true
  | .set o' eo => fitsSigned 4 o' && fits 6 eo
  | .cancel => true
  | .other c => otherCode 3 c

/-- CIVIL's fields fit. -/
def CivilReq.wellFormed (q : CivilReq) : Bool := q.offset.all (fitsSigned 4) && fitsOpt 4 q.jam && q.action.wellFormed

/-- BIND's fields fit; behind an octet that names no action there is no field. -/
def BindReq.wellFormed (q : BindReq) : Bool :=
  fits 1 q.output && fitsOpt 2 q.divider && fitsOpt 6 q.delay && fitsOpt 6 q.width && fitsOpt 1 q.polarity
    && match q.action with
       | .keep => true
       | .bind h => h.wellFormed
       | .unbind => true
       | .other c => otherCode 3 c && q = ⟨q.output, .other c, none, none, none, none, none, false⟩

/-- CHAIN's settings fit. -/
def ChainReq.wellFormed (q : ChainReq) : Bool := fitsOpt 1 q.timeout && fitsOpt 2 q.orphan

/-- CHAIN's action, when it is neither HOLD nor RELEASE, fits. -/
def KeepAction.wellFormed : KeepAction → Bool
  | .keep => true
  | .other c => otherCode 3 c

/-- STATUS's attention action fits. -/
def AttnAction.wellFormed : AttnAction → Bool
  | .keep => true
  | .set _ mode => fits 1 mode
  | .other c => otherCode 2 c

/-- A request that a body can spell. -/
def Req.wellFormed : Req → Bool
  | .find name => fitsName name
  | .read h => h.wellFormed
  | .list start => fits 1 start
  | .next h n => h.wellFormed && fits 4 n
  | .stations a => fits 1 a
  | .notices => true
  | .create q => q.wellFormed
  | .set q => q.wellFormed
  | .realign h => h.wellFormed
  | .retire h => h.wellFormed
  | .retireWithEnd h e => h.wellFormed && fits 6 e.sec && fits 4 e.ns
  | .watch h => h.wellFormed
  | .unwatch h => h.wellFormed
  | .stream h d lead => h.wellFormed && fits 2 d && fits 4 lead
  | .unstream => true
  | .sample q => q.wellFormed
  | .servo q => q.wellFormed
  | .civil q => q.wellFormed
  | .bind q => q.wellFormed
  | .chain act q => act.wellFormed && q.wellFormed
  | .chainHold q => q.wellFormed
  | .chainRelease q => q.wellFormed
  | .save b => fits 1 b
  | .load b => fits 1 b
  | .reset => true
  | .status _ act => act.wellFormed

/-- The request a command accepts, if it is the acceptance of one. -/
def Instr.req : Instr → Option Req
  | .find _ _ name => some (.find name)
  | .read _ _ h => some (.read h)
  | .list _ _ start => some (.list start)
  | .next _ _ h n => some (.next h n)
  | .stations _ _ a => some (.stations a)
  | .notices _ _ => some .notices
  | .create _ _ q => some (.create q)
  | .set _ _ q => some (.set q)
  | .realign _ _ h => some (.realign h)
  | .retire _ _ h => some (.retire h)
  | .retireWithEnd _ _ h e => some (.retireWithEnd h e)
  | .watch _ _ h => some (.watch h)
  | .unwatch _ _ h => some (.unwatch h)
  | .stream _ _ h d lead => some (.stream h d lead)
  | .unstream _ _ => some .unstream
  | .sample _ _ q => some (.sample q)
  | .servo _ _ q => some (.servo q)
  | .civil _ _ q => some (.civil q)
  | .bind _ _ q => some (.bind q)
  | .chain _ _ act q => some (.chain act q)
  | .chainHold _ _ q => some (.chainHold q)
  | .chainRelease _ _ q => some (.chainRelease q)
  | .save _ _ b => some (.save b)
  | .load _ _ b => some (.load b)
  | .reset _ _ => some .reset
  | .status _ _ c act => some (.status c act)
  | .spiWrite _ => none
  | .spiRead _ => none
  | .saveCompletion _ => none
  | .loadCompletion => none
  | .startBankLoadCompletion => none
  | .hardReset => none
  | .resetRelease _ => none
  | .strobeEdge _ => none
  | .inhibitAssertion => none
  | .inhibitRelease => none
  | .markDue _ => none
  | .endDue _ => none
  | .jamEvent => none
  | .activeEdge _ => none
  | .inactiveEdge _ => none
  | .holdoverTimerExpiry => none
  | .holdoverAgeLimitPassed => none
  | .attnPulseEnd => none
  | .returnFrame _ _ => none
  | .answerWindowOpen => none
  | .answerWindowClose => none
  | .pollSend => none
  | .discoverSend => none
  | .rangeSend => none
  | .reportStart => none
  | .reportSent => none
  | .silenceTimerExpiry => none
  | .liveRunReached => none
  | .orphanTimerExpiry _ => none
  | .conflictTimerExpiry _ => none
  | .streamHoldExpiry _ => none
  | .reRangeTimerExpiry _ => none
  | .timebaseSecondsWrap => none

/-- A command that can be given: its request, if it is one, can be spelled. -/
def Instr.wellFormed (i : Instr) : Bool := i.req.all Req.wellFormed

end Sys2Proof
end

