-- ==== Sys2Proof/Certificates/Slice0/Obligations.lean ====
section
/-! DEFINITION. The statements for the provers. What a command leaves as it was is said by an equation on the whole next
state, or by `State.sameBut`: every part of the state but those listed stands as it stood. -/

open Sys2Proof Sys2Proof.Machine Sys2Proof.Config

/-! ## The machine as a whole -/

/-- A step runs the command at the front of the queue on the state with the queue's rest. -/
def Obligations.FrontCommandRuns : Prop :=
  ∀ (c : Instr) (rest : List Instr) (s : State),
    s.pending = c :: rest → step s = exec c { s with pending := rest }

/-- With no command waiting (log entry 1, the model's choice of order): nothing happens while RESET is asserted (R176);
else the addressee of the next service frame is chosen when none is and a step has one (R139, log entry 36); else an event
of the part's own that stands is taken; else the request that arrived first is accepted (R160); else one REFCLK cycle
passes (R74), or the one with the seconds wrap (R76). -/
def Obligations.EmptyQueueActs : Prop :=
  ∀ s : State, s.pending = [] →
    (s.resetPin = true → step s = .next s)
    ∧ (s.resetPin = false → s.choiceDue = true → step s = .next s.moveOn)
    ∧ (s.resetPin = false → s.choiceDue = false →
      (∀ c, s.due = some c → step s = exec c s)
      ∧ (s.due = none → ∀ l ls, s.arrivals = l :: ls → step s = s.accept l)
      ∧ (s.due = none → s.arrivals = [] → s.wrapDue = false →
          step s = .next { s with tb := s.tb.advance s.rateWord, cycle := s.cycle + 1, readings := s.notedReadings })
      ∧ (s.due = none → s.arrivals = [] → s.wrapDue = true → step s = exec .timebaseSecondsWrap s))

/-- R74, R75: one REFCLK cycle adds the rate word W = 8 × 2^32 + C to the count, in units of 2^−32 ns: the count after,
with the seconds unwrapped, is the count before plus W. R122: the time of the cycle that has passed is then told as it was
read in that cycle, and the times told of earlier cycles stand (the readings that tell them are the model's own, log entry
32). -/
def Obligations.CycleAddsRateWord : Prop :=
  ∀ s : State, (s.servo.correction.natAbs ≤ 6871947) →
    ((((s.tick.tb.seconds * second + s.tick.tb.ns) * fracUnit + s.tick.tb.frac : Nat) : Int)
      = ((s.tb.seconds * second + s.tb.ns) * fracUnit + s.tb.frac : Nat) + (34359738368 + s.servo.correction))
    ∧ s.tick.tb.ns < 1000000000 ∧ s.tick.tb.frac < 4294967296 ∧ s.tick.cycle = s.cycle + 1
    ∧ (s.tb.frac < 4294967296 → (∀ r ∈ s.readings, r.cycle ≤ s.cycle) →
        s.tick.timeAt s.cycle = s.now
        ∧ ∀ c : Nat, c < s.cycle → (∃ r ∈ s.readings, r.cycle ≤ c) → s.tick.timeAt c = s.timeAt c)

/-- R74, R76, R92, R98, R101: the timebase fields, the servo parameters, I, C and the servo's counts stay in their ranges
through every step. -/
def Obligations.TimebaseAndServoStayInRange : Prop :=
  ∀ s s' : State, s.timebaseInv → s.servoInv → step s = .next s' → s'.timebaseInv ∧ s'.servoInv

/-- The state after reset meets what the steps keep. -/
def Obligations.ResetMeetsEveryCondition : Prop :=
  State.reset.timebaseInv ∧ State.reset.servoInv ∧ State.reset.offsetInv ∧ State.reset.ownedInv ∧ State.reset.watchInv
  ∧ State.reset.noticesInv ∧ State.reset.streamsInv ∧ State.reset.quietInv

/-- R41: an entry in RUNNING carries no offset and one in SLEWING at most the slew range, through every step; so does an
ENDING entry by its motion. -/
def Obligations.CarriedOffsetStaysWithinMotion : Prop :=
  ∀ s s' : State, s.offsetInv → step s = .next s' → s'.offsetInv

/-- R5: every station's owned count stays the number of its entries, and at most 8, through every step. -/
def Obligations.OwnedCountsStayTrue : Prop :=
  ∀ s s' : State, s.ownedInv → step s = .next s' → s'.ownedInv

/-- R6, R7: the two sides of every watch stay in step, each list without repeats and at most 8 long, and every notice set
stays in ascending index order without repeats, through every step. R151: so does the step of every stream stay at least
1, and its lead within 10,000 to 10,000,000 ns. -/
def Obligations.WatchSidesStayInStep : Prop :=
  ∀ s s' : State, step s = .next s' → (s.watchInv → s'.watchInv) ∧ (s.noticesInv → s'.noticesInv)
    ∧ (s.streamsInv → s'.streamsInv)

/-- R111: through every step, no pulse is in progress on any output while INHIBIT is asserted, and every TO pin is then at
its inactive level. -/
def Obligations.NoPulseWhileInhibited : Prop :=
  ∀ s s' : State, s.quietInv → step s = .next s' →
    s'.quietInv ∧ (s'.inhibit = true → ∀ o : OutNo, s'.pinRests o)

/-! ## Layouts -/

/-- R165, R178: every request that the layouts can spell is read back from its body, with its tag: the code, the mask or
masks, the presence octets and every field. The place of the masks, and of the fields that follow an action, is that of
log entries 7 and 13. -/
def Obligations.RequestBodiesReadBack : Prop :=
  ∀ (t : Tag) (r : Req), r.wellFormed = true → parseBody (requestOctets t r) = .whole t r

/-- R123 to R127, R179: a return frame of an allowed kind and body length, sent with transparency and its check after an
opening delimiter, reaches the service cycle as a valid return frame at its closing delimiter, and at no bit before. -/
def Obligations.ReturnFramesReadBack : Prop :=
  ∀ (x : Addr) (k : Byte) (kind : ReturnKind) (body : List Byte) (r : Receiver),
    (k = 0x61#8 ∧ kind = .request ∧ 2 ≤ body.length ∧ body.length ≤ 48)
      ∨ (k = 0x62#8 ∧ kind = .empty ∧ body = []) ∨ (k = 0x63#8 ∧ kind = .echo ∧ body = []) →
    r.mode = .content → r.ones = 0 → r.bits = [] →
    let line := stuff 0 (contentBits (addrByte x) k body) ++ [false, true, true, true, true, true, true, true, true]
    (∀ p q : List Bool, ∀ b : Bool, line = p ++ b :: q →
        ((p.foldl (fun v c => (Receiver.bit v c).1) r).bit b).2 = .none)
    ∧ ((line.foldl (fun v c => (Receiver.bit v c).1) r).bit false).2 = .delimiter (.valid x kind body)

/-- R173, R181: the content of a bank, every value in its range, passes the check of its words and is read back from them.
-/
def Obligations.BankContentReadsBack : Prop :=
  ∀ c : BankContent, c.params.inRange → c.offset.natAbs ≤ 86400 → c.jam < 86400 → 2 ≤ c.timeout → c.timeout ≤ 200 →
    1 ≤ c.orphan → c.orphan ≤ 600 → c.defs.length ≤ 64 →
    (∀ d ∈ c.defs, badRate d.num d.den = false ∧ (∀ n, d.name = some n → badName n = false ∧ n ≠ [])
      ∧ -(2147483648 : Int) ≤ d.phi ∧ d.phi ≤ 2147483647 ∧ d.slew < 4294967296) →
    (∀ o : Fin 16, 1 ≤ c.outs[o].divider ∧ c.outs[o].divider ≤ 65535 ∧ c.outs[o].delay < 18446744073709551616
      ∧ c.outs[o].width < 18446744073709551616 ∧ ∀ p, c.outs[o].binding = some p → p < 64) →
    bankPasses c.bank = true ∧ readBank c.bank = c

/-! ## The request path -/

/-- R160, R161: the result of an accepted request takes the request's place in its slot and the request leaves the order
of arrival; nothing else changes. At the management port this is said for a slot with no completion result waiting (log
entry 20 for the other). -/
def Obligations.ResultTakesRequestsPlace : Prop :=
  ∀ (s : State) (t : Tag) (r : Req) (st : Status) (b : Body),
    (∀ x : Addr, s.reply (.station x) t r st b
      = { s with stations := s.stations.set x
                  { s.stations[x] with slot := .result ⟨requestCode r, t, st, b⟩, segment := 0 },
                 arrivals := s.arrivals.erase (.station x) })
    ∧ (s.port.deferred = none → s.reply .mgmt t r st b
      = { s with port := { s.port with slot := .result ⟨requestCode r, t, st, b⟩ },
                 arrivals := s.arrivals.erase .mgmt })

/-- R162 checks 1 and 3, R164: a body whose code names no request is answered UNKNOWN; one of a known code that does not
form a whole request is answered NOT_PERMITTED when its link may not send it, and BAD_FIELD otherwise; nothing else
changes. That a step on an empty queue accepts the request is log entry 1's choice; what is malformed, and the tag of a
body without one, rest on log entries 8 and 9. -/
def Obligations.UnformedBodiesAreRefused : Prop :=
  ∀ (s : State) (l : Link) (ls : List Link) (b : List Byte) (c : Byte) (t : Tag),
    s.pending = [] → s.resetPin = false → s.choiceDue = false → s.due = none → s.arrivals = l :: ls →
    s.slotOf l = .request b →
    (parseBody b = .unknown c t → step s = .next (s.complete l ⟨c, t, .unknown, .empty⟩))
    ∧ (parseBody b = .malformed c t →
        step s = .next (s.complete l ⟨c, t,
          if (∃ x, l = .station x) ∧ 0x20#8 ≤ c ∧ c ≤ 0x28#8 ∨ l = .mgmt ∧ (c = 0x16#8 ∨ c = 0x17#8) then .notPermitted
          else .badField, .empty⟩))

/-- R164, R3, R163: a management-only request from a station, and STREAM or UNSTREAM from the management port, is answered
NOT_PERMITTED. A handle with an index above 63 gives BAD_FIELD, one whose generation differs STALE, one that names a
VACANT entry NOT_FOUND, in that order, for each request that names an entry, a SET or BIND whose other fields pass their
checks among them. A SET, REALIGN or RETIRE, with or without an end instant, of an entry that its link does not own is
answered NOT_OWNER, but from the management port. Nothing else changes. -/
def Obligations.LinkAndHandleChecksRefuse : Prop :=
  ∀ (s : State) (t : Tag),
    (∀ (x : Addr) (r : Req), managementOnly (requestCode r) = true → s.standsNext (.station x) t r →
      exec (r.toInstr (.station x) t) s = .next (s.reply (.station x) t r .notPermitted .empty))
    ∧ (∀ r : Req, stationOnly (requestCode r) = true → s.standsNext .mgmt t r →
      exec (r.toInstr .mgmt t) s = .next (s.reply .mgmt t r .notPermitted .empty))
    ∧ (∀ (l : Link) (h : Handle) (st : Status),
      (63 < h.index ∧ st = .badField
        ∨ (∃ i : Idx, i.val = h.index ∧ s.entries[i].gen ≠ h.gen) ∧ st = .stale
        ∨ (∃ i : Idx, i.val = h.index ∧ s.entries[i].gen = h.gen ∧ s.entries[i].state = .vacant) ∧ st = .notFound) →
      ∀ r : Req,
        (r = .read h ∨ (∃ n, r = .next h n) ∨ r = .realign h ∨ r = .retire h ∨ (∃ e, r = .retireWithEnd h e) ∨ r = .watch h
          ∨ r = .unwatch h ∨ ((∃ x, l = .station x) ∧ ∃ d lead, r = .stream h d lead)
          ∨ (∃ q : SetReq, r = .set q ∧ q.handle = h ∧ SetReq.bad q = false)
          ∨ (l = .mgmt ∧ ∃ q : BindReq, r = .bind q ∧ q.action = .bind h ∧ q.output ≤ 15 ∧ ∀ c, q.polarity = some c → c ≤ 1)) →
        s.standsNext l t r → exec (r.toInstr l t) s = .next (s.reply l t r st .empty))
    ∧ ∀ (l : Link) (h : Handle) (i : Idx), h.index = i.val → s.entries[i].gen = h.gen → s.entries[i].state ≠ .vacant →
      l ≠ .mgmt → s.entries[i].owner ≠ l →
      ∀ r : Req,
        (r = .realign h ∨ r = .retire h ∨ (∃ e, r = .retireWithEnd h e)
          ∨ ∃ q : SetReq, r = .set q ∧ q.handle = h ∧ SetReq.bad q = false) →
        s.standsNext l t r → exec (r.toInstr l t) s = .next (s.reply l t r .notOwner .empty)

/-! ## Lookups -/

/-- R24 to R26, R167: FIND answers the handle of the entry that holds the name, NOT_FOUND when none does, and BAD_FIELD
for a malformed or empty name; READ the record of the entry; LIST up to eight handles of living entries at or above the
start, and whether more follow; STATIONS the station's record, the sender's own slot shown as REQUEST. A start or an
address out of range is BAD_FIELD. The lookups change nothing but the slot. -/
def Obligations.LookupsAnswerFromRecords : Prop :=
  ∀ (s : State) (l : Link) (t : Tag),
    (∀ (nm : List Byte) (i : Idx), badName nm = false → nm ≠ [] → s.entries[i].state ≠ .vacant →
      s.entries[i].name = some nm →
      (∀ j : Idx, s.entries[j].state ≠ .vacant → s.entries[j].name = some nm → j = i) →
      s.standsNext l t (.find nm) →
      exec (.find l t nm) s = .next (s.reply l t (.find nm) .ok (.handle ⟨i.val, s.entries[i].gen⟩)))
    ∧ (∀ nm : List Byte, badName nm = false → nm ≠ [] →
      (∀ j : Idx, s.entries[j].state ≠ .vacant → s.entries[j].name ≠ some nm) → s.standsNext l t (.find nm) →
      exec (.find l t nm) s = .next (s.reply l t (.find nm) .notFound .empty))
    ∧ (∀ nm : List Byte, nm = [] ∨ 12 < nm.length ∨ (∃ c ∈ nm, c < 0x20#8 ∨ 0x7E#8 < c) → s.standsNext l t (.find nm) →
      exec (.find l t nm) s = .next (s.reply l t (.find nm) .badField .empty))
    ∧ (∀ start : Nat, 63 < start → s.standsNext l t (.list start) →
      exec (.list l t start) s = .next (s.reply l t (.list start) .badField .empty))
    ∧ (∀ a : Nat, a = 0 ∨ 30 < a → s.standsNext l t (.stations a) →
      exec (.stations l t a) s = .next (s.reply l t (.stations a) .badField .empty))
    ∧ (∀ (h : Handle) (i : Idx), h.index = i.val → s.entries[i].gen = h.gen → s.entries[i].state ≠ .vacant →
      s.standsNext l t (.read h) → exec (.read l t h) s = .next (s.reply l t (.read h) .ok (.entry i s.entries[i])))
    ∧ (∀ start : Nat, start ≤ 63 → s.standsNext l t (.list start) →
      exec (.list l t start) s = .next (s.reply l t (.list start) .ok
        (.handles (((s.livingFrom start).take 8).map fun i => ⟨i.val, s.entries[i].gen⟩)
          (decide (8 < (s.livingFrom start).length)))))
    ∧ (∀ (a : Nat) (x : Addr), a = x.val + 1 → s.standsNext l t (.stations a) →
      exec (.stations l t a) s = .next (s.reply l t (.stations a) .ok (.station (s.stationView l x))))

/-- R52: NEXT answers mark kl + 1 + n (ks + n before the start), n brought to 16,777,215 with CLAMPED when above: its
instant is N(k) + φ plus the projected offset, max(|ε| − n × s, 0) with the sign of ε in SLEWING and ε otherwise. -/
def Obligations.NextAnswersProjectedMark : Prop :=
  ∀ (s : State) (l : Link) (t : Tag) (h : Handle) (n : Nat) (i : Idx),
    h.index = i.val → s.entries[i].gen = h.gen → s.entries[i].state ≠ .vacant → s.standsNext l t (.next h n) →
    let e := s.entries[i]
    let m := min n 16777215
    let k := (if e.motion = .pending then e.ks.getD 0 else match e.kl with | some k => k + 1 | none => 0) + m
    let left : Int := max ((e.eps.natAbs : Int) - (m * e.slew : Nat)) 0
    let a : Int := nominal e.num e.den k + e.phi
      + (if e.motion = .slewing then (if e.eps < 0 then -left else left) else e.eps)
    exec (.next l t h n) s = .next (s.reply l t (.next h n) (if 16777215 < n then .clamped else .ok)
      (.next { handle := ⟨i.val, e.gen⟩, state := e.state, motion := e.motion, index := k, instant := a,
               label := e.labelUnprojected k,
               afterEnd := decide (e.state = .ending ∧ ∃ x, e.endAt = some x ∧ (x : Int) < a) }))

/-- R27, R8: NOTICES answers the twelve lowest indices of the sender's notice set, which stands in ascending order (R7,
WatchSidesStayInStep), with each entry's present handle and state, and whether more remain; they leave the set, and
ENTRIES leaves the causes when the management set is then empty. -/
def Obligations.NoticesReadTakesTwelve : Prop :=
  ∀ (s : State) (l : Link) (t : Tag), s.noticesInv → s.standsNext l t .notices →
    ∃ (s' : State) (taken : List Idx),
      exec (.notices l t) s = .next (s'.reply l t .notices .ok
        (.notices (taken.map fun i => (⟨i.val, s.entries[i].gen⟩, s.entries[i].state)) (decide (s'.noticesOf l ≠ []))))
      ∧ s.noticesOf l = taken ++ s'.noticesOf l
      ∧ taken.length ≤ 12 ∧ (taken.length < 12 → s'.noticesOf l = [])
      ∧ taken.Pairwise (· < ·) ∧ (∀ i ∈ taken, ∀ j ∈ s'.noticesOf l, i < j)
      ∧ (∀ m : Link, m ≠ l → s'.noticesOf m = s.noticesOf m)
      ∧ (∀ x : Addr, s'.stations[x] = { s.stations[x] with notices := s'.noticesOf (.station x) })
      ∧ s'.attn = (if l = .mgmt ∧ s'.mgmtNotices = [] then
          { s.attn with causes := { s.attn.causes with entries := false } } else s.attn)
      ∧ s.sameBut [.mgmtNotices, .stations, .attn] s'

/-! ## Marks (chapter 2) -/

/-- R32, R34: the search finds the first mark strictly after an instant: k(T) + 1 is at or below k exactly when A(k) lies
after T. -/
def Obligations.IndexSearchFindsFirstMark : Prop :=
  ∀ (num den : Nat) (phi eps t : Int) (k : Nat), 0 < num → 0 < den →
    (firstAfter num den phi eps t ≤ k ↔ t < nominal num den k + phi + eps)

/-- R31, R40: between two successive marks of one started entry the instants differ by at least Pf less the slew step, and
the index advances by exactly one. -/
def Obligations.SuccessiveMarksKeepApart : Prop :=
  ∀ (e : Entry) (k : Nat), 0 < e.num → 0 < e.den → e.pf = wholePeriod e.num e.den → e.kl = some k →
    e.motion ≠ .pending → (e.motion = .running → e.eps = 0) →
    e.emit.kl = some (k + 1) ∧ e.emit.lm = some (e.applied (k + 1))
    ∧ (e.pf : Int) - (if e.motion = .slewing then e.slew else 0)
        ≤ e.emit.applied e.emit.nextMark - e.applied e.nextMark

/-- R42: a snap sets ε to 0, counts one more realignment (up to 255), and takes as its next mark the first mark that is
strictly after the reference instant and at least half a whole period after the last mark, Lm kept and the entry RUNNING;
exactly when that mark is 0 the entry goes back to PENDING instead, kl and Lm absent, and waits for the first mark at or
after the instant + 1 ms. The state follows the motion but in an ENDING entry, and every other field stays. -/
def Obligations.SnapFindsGuardedMark : Prop :=
  ∀ (e : Entry) (r : Int), 0 < e.num → 0 < e.den → e.motion ≠ .pending →
    let e' := e.snapped r
    let meets : Nat → Prop := fun k =>
      r < nominal e.num e.den k + e.phi ∧ ∀ l, e.lm = some l → l + (e.pf / 2 : Nat) ≤ nominal e.num e.den k + e.phi
    e'.realigns = min 255 (e.realigns + 1)
    ∧ e' = { e with
        eps := 0, realigns := e'.realigns, motion := e'.motion,
        state := if e.state = .ending then .ending else e'.motion.toState,
        ks := e'.ks, kl := e'.kl, lm := e'.lm }
    ∧ (meets 0 → e'.motion = .pending ∧ e'.kl = none ∧ e'.lm = none
        ∧ ∃ k, e'.ks = some k ∧ ∀ j : Nat, k ≤ j ↔ r + 1000000 ≤ nominal e.num e.den j + e.phi)
    ∧ (¬meets 0 → e'.motion = .running ∧ e'.ks = e.ks ∧ e'.lm = e.lm
        ∧ ∃ k, e'.kl = some k ∧ meets (k + 1) ∧ ∀ j : Nat, meets j → k + 1 ≤ j)

/-! ## Entries (chapter 1) -/

/-- R10, R11, R5, R62, R63: a CREATE that passes its checks takes the lowest-indexed VACANT entry, fills it as a PENDING
cadence owned by the sender with ε = 0, ks the first mark at or after T_req + 1 ms and the label bases of tB and tn,
counts it for a station, leaves every other entry, and answers its handle, with φ, s and the label mode as stored when one
was clamped or degraded, CLAMPED (R166; log entry 47 for the place of these fields). -/
def Obligations.CreateFillsLowestVacant : Prop :=
  ∀ (s : State) (l : Link) (t : Tag) (q : CreateReq) (i : Idx),
    CreateReq.bad q = false → s.entries[i].state = .vacant → (∀ j : Idx, j < i → s.entries[j].state ≠ .vacant) →
    s.quotaUsed l = false → s.nameHeld (q.name.bind nameField) = false → s.standsNext l t (.create q) →
    let d : EntryDef :=
      { name := q.name.bind nameField, num := q.num, den := q.den, phi := q.phi.getD 0,
        policy := (q.policy.bind policyOf).getD .slew, slew := q.slew.getD (min 1000 (q.den * 1000000000 / q.num / 4)),
        label := (q.label.bind labelModeOf).getD .none }
    ∃ s' : State,
      (let e := s'.entries[i]
       let h : Handle := ⟨i.val, s.entries[i].gen⟩
       d.made s.entries[i].gen l s.now s.civil e
       ∧ exec (.create l t q) s = .next (
           if e.phi = d.phi ∧ e.slew = d.slew ∧ e.label = d.label then s'.reply l t (.create q) .ok (.handle h)
           else s'.reply l t (.create q) .clamped (.created h ⟨e.phi, e.slew, e.label⟩)))
      ∧ (∀ j : Idx, j ≠ i → s'.entries[j] = s.entries[j])
      ∧ (∀ x : Addr, s'.stations[x]
          = { s.stations[x] with owned := s.stations[x].owned + (if l = .station x then 1 else 0) })
      ∧ s.sameBut [.entries, .stations] s'

/-- R10, R5, R4: CREATE is answered BAD_FIELD for a refused field, FULL when no entry is VACANT or the station owns eight,
NAME_TAKEN when the name is held, in that order; nothing else changes. -/
def Obligations.CreateIsRefused : Prop :=
  ∀ (s : State) (l : Link) (t : Tag) (q : CreateReq), s.standsNext l t (.create q) →
    (CreateReq.bad q = true → exec (.create l t q) s = .next (s.reply l t (.create q) .badField .empty))
    ∧ (CreateReq.bad q = false → (∀ j : Idx, s.entries[j].state ≠ .vacant) ∨ (∃ x, l = .station x ∧ s.stations[x].owned = 8) →
        exec (.create l t q) s = .next (s.reply l t (.create q) .full .empty))
    ∧ (CreateReq.bad q = false → (∃ j : Idx, s.entries[j].state = .vacant) → (∀ x, l = .station x → s.stations[x].owned ≠ 8) →
        ∀ (nm : List Byte) (j : Idx), q.name = some nm → nm ≠ [] → s.entries[j].state ≠ .vacant → s.entries[j].name = some nm →
        exec (.create l t q) s = .next (s.reply l t (.create q) .nameTaken .empty))

/-- R7, R14 to R16, R20, R48 to R50, R62, R63, R113: a SET is refused BAD_FIELD for a refused field, by its handle,
NOT_OWNER and NAME_TAKEN in that order, and nothing changes. One that passes its checks carries out its masked fields in
the order rate, φ, s, policy, label mode, name; then the notice and the end check follow; every other entry, the timebase,
the servo and the civil settings stay. Without a restart, a rate of equal cross-product is stored; then a φ that differs,
clamped, is a phase change: the entry absorbs −Δφ under the s, policy and label mode it had, and the waiting pulses of the
outputs bound to it stay, or move by Δφ − ε when it snaps; s, policy, label mode and name are stored after it. A rate
whose cross-product differs restarts the entry: its own φ, s and label mode are clamped or degraded to the rate first,
then the masked ones, and ks is the first mark of the last φ. R156: the streams on the entry are acted on by the phase
change (its snap where it snaps), by a masked s and by the restart, each in its turn, and closed where the end check
retires the entry; the other fields of the stations but the notices stay. A CLAMPED result shows φ, s and the label mode
as stored (R166, log entry 47), as the SET stored them also where its end check retires the entry (log entry 64, the
model's choice). -/
def Obligations.SetAppliesMaskedFields : Prop :=
  ∀ (s : State) (l : Link) (t : Tag) (q : SetReq), s.standsNext l t (.set q) →
    let bad : Prop :=
      (∃ num den, q.rate = some (num, den) ∧ (den = 0 ∨ 1001 < den ∨ num < den ∨ 240000 * den < num))
      ∨ (∃ c, q.policy = some c ∧ 2 < c) ∨ (∃ c, q.label = some c ∧ 2 < c)
      ∨ ∃ nm, q.name = some nm ∧ (12 < nm.length ∨ ∃ c ∈ nm, c < 0x20#8 ∨ 0x7E#8 < c)
    (bad → exec (.set l t q) s = .next (s.reply l t (.set q) .badField .empty))
    ∧ (¬bad →
      (63 < q.handle.index → exec (.set l t q) s = .next (s.reply l t (.set q) .badField .empty))
      ∧ ∀ i : Idx, q.handle.index = i.val →
        (s.entries[i].gen ≠ q.handle.gen → exec (.set l t q) s = .next (s.reply l t (.set q) .stale .empty))
        ∧ (s.entries[i].gen = q.handle.gen → s.entries[i].state = .vacant →
            exec (.set l t q) s = .next (s.reply l t (.set q) .notFound .empty))
        ∧ (s.entries[i].gen = q.handle.gen → s.entries[i].state ≠ .vacant →
          let e := s.entries[i]
          let mine : Prop := l = .mgmt ∨ e.owner = l
          let clash : Prop := ∃ (nm : List Byte) (j : Idx),
            q.name = some nm ∧ nm ≠ [] ∧ j ≠ i ∧ s.entries[j].state ≠ .vacant ∧ s.entries[j].name = some nm
          (¬mine → exec (.set l t q) s = .next (s.reply l t (.set q) .notOwner .empty))
          ∧ (mine → clash → exec (.set l t q) s = .next (s.reply l t (.set q) .nameTaken .empty))
          ∧ (mine → ¬clash →
            let x := SetReq.apply q i s
            let kept := x.state.entries[i]
            ∃ s' : State,
              exec (.set l t q) s = .next (if x.clamped then
                  s'.reply l t (.set q) .clamped (.stored ⟨kept.phi, kept.slew, kept.label⟩)
                else s'.reply l t (.set q) .ok .empty)
              ∧ s' = x.finish i
              ∧ (∀ j : Idx, j ≠ i → s'.entries[j] = s.entries[j])
              ∧ s.sameBut [.entries, .stations, .outs, .chain, .mgmtNotices, .attn] s'
              ∧ (q.rate = none → q.phi = none →
                  let e1 := { e with slew := (q.slew.map (clampNat 1 (e.pf / 4))).getD e.slew
                                     policy := (q.policy.bind policyOf).getD e.policy }
                  let m := (q.label.bind labelModeOf).map fun m => degrade m e.num e.den
                  let e2 := if m.getD e.label = e.label then e1 else { e1 with label := m.getD e.label }.withBases s.civil
                  s'.entries[i] = { e2 with name := match q.name with | some nm => nameField nm | none => e.name }
                  ∧ (m.getD e.label ≠ e.label → 0 < e.num → 0 < e.den → s'.entries[i].labelled s.civil)
                  ∧ (x.clamped = true ↔ (∃ v, q.slew = some v ∧ s'.entries[i].slew ≠ v)
                      ∨ ∃ v, q.label.bind labelModeOf = some v ∧ s'.entries[i].label ≠ v))
              ∧ ((∀ num den, q.rate = some (num, den) → num * e.den = e.num * den) → 0 < e.num → 0 < e.den →
                  let e0 := { e with num := (q.rate.map Prod.fst).getD e.num, den := (q.rate.map Prod.snd).getD e.den }
                  let phi := (q.phi.map (clampInt (-((e.pf : Int) - 1)) ((e.pf : Int) - 1))).getD e.phi
                  let d := phi - e.phi
                  let snaps : Prop := e.policy = .snap ∨ e.eps - d < -9223372036854775808 ∨ 9223372036854775807 < e.eps - d
                  let mode := ((q.label.bind labelModeOf).map fun w => degrade w e0.num e0.den).getD e.label
                  ∃ (m r : Entry) (how : Replan),
                    (d = 0 → m = e0)
                    ∧ (d ≠ 0 → Entry.absorbed { e0 with phi := phi } s.servo.params.slewRange (-d) s.now m)
                    ∧ (let m1 := { m with slew := (q.slew.map (clampNat 1 (e.pf / 4))).getD e.slew
                                          policy := (q.policy.bind policyOf).getD e.policy }
                       let m2 := if mode = e.label then m1 else { m1 with label := mode }.withBases s.civil
                       r = { m2 with name := match q.name with | some nm => nameField nm | none => e.name })
                    ∧ kept = r ∧ (mode ≠ e.label → r.labelled s.civil)
                    ∧ (e.motion ≠ .pending ∧ snaps → how = .snapped) ∧ (¬(e.motion ≠ .pending ∧ snaps) → how = .recompute e0)
                    ∧ s.leftStations s' i (d ≠ 0 ∧ r.endsAt s.now False) (fun st delta =>
                        let st1 := if d = 0 then st else st.replan how m delta s.now
                        if q.slew = none then st1 else st1.replan (.recompute m) { m with slew := r.slew } delta s.now)
                    ∧ (x.clamped = true ↔ (∃ v, q.phi = some v ∧ phi ≠ v) ∨ (∃ v, q.slew = some v ∧ r.slew ≠ v)
                        ∨ ∃ v, q.label.bind labelModeOf = some v ∧ r.label ≠ v)
                    ∧ (d = 0 → s'.entries[i] = r ∧ s'.outs = s.outs)
                    ∧ (d ≠ 0 → r.endsAt s.now False → s'.entries[i] = Entry.vacantAt (e.gen + 1))
                    ∧ (d ≠ 0 → ¬r.endsAt s.now False →
                        ({ s'.entries[i] with endTaken := false } : Entry) = { r with endTaken := false }
                        ∧ ∀ o : OutNo,
                          (s.outs[o].boundTo i = false ∨ e.motion = .pending → s'.outs[o] = s.outs[o])
                          ∧ (s.outs[o].boundTo i = true → e.motion ≠ .pending →
                              (¬snaps → s.outs[o].moved 0 s.now s'.outs[o])
                              ∧ (snaps → m.motion = .running → s.outs[o].moved (d - e.eps) s.now s'.outs[o])
                              ∧ (snaps → m.motion = .pending → s.outs[o].emptied s'.outs[o])))
                    ∧ (d ≠ 0 ∨ r.policy ≠ e.policy ∨ mode ≠ e.label →
                        (∀ y ∈ e.watchers, i ∈ s'.stations[y].notices) ∧ (e.mgmtWatch = true → i ∈ s'.mgmtNotices)))
              ∧ (∀ v, q = ⟨q.handle, none, some v, none, none, none, none⟩ →
                  clampInt (-((e.pf : Int) - 1)) ((e.pf : Int) - 1) v = e.phi → s' = s)
              ∧ (∀ num den, q.rate = some (num, den) → num * e.den ≠ e.num * den →
                  let pf := den * 1000000000 / num
                  let fit := clampInt (-((pf : Int) - 1)) ((pf : Int) - 1)
                  let ends : Prop := e.state = .ending ∧ ∃ x, e.endAt = some x ∧ x ≤ s.now
                  ∃ r : Entry,
                    r = { e with
                      num := num, den := den, pf := pf, phi := fit (q.phi.getD e.phi)
                      slew := clampNat 1 (pf / 4) (q.slew.getD e.slew), policy := (q.policy.bind policyOf).getD e.policy
                      label := degrade ((q.label.bind labelModeOf).getD e.label) num den
                      eps := 0, kl := none, lm := none, motion := .pending
                      state := if e.state = .ending then .ending else .pending, endTaken := false
                      ks := r.ks, base := r.base, next := r.next
                      name := match q.name with | some nm => nameField nm | none => e.name }
                    ∧ (∃ k, r.ks = some k ∧ ∀ j : Nat, k ≤ j ↔ (s.now : Int) + 1000000 ≤ nominal num den j + r.phi)
                    ∧ r.labelled s.civil ∧ kept = r
                    ∧ (∃ k : Nat, (∀ j : Nat, k ≤ j ↔ (s.now : Int) + 1000000 ≤ nominal num den j + fit e.phi)
                        ∧ let r1 := { r with phi := fit e.phi, ks := some k, slew := clampNat 1 (pf / 4) e.slew }
                          let r2 := { r with slew := clampNat 1 (pf / 4) e.slew }
                          s.leftStations s' i ends (fun st delta =>
                            let st1 := st.replan .restarted r1 delta s.now
                            let st2 := if r.phi = fit e.phi then st1 else st1.replan (.recompute r1) r2 delta s.now
                            if q.slew = none then st2 else st2.replan (.recompute r2) r delta s.now))
                    ∧ (ends → s'.entries[i] = Entry.vacantAt (e.gen + 1)) ∧ (¬ends → s'.entries[i] = r)
                    ∧ (x.clamped = true ↔ fit e.phi ≠ e.phi ∨ clampNat 1 (pf / 4) e.slew ≠ e.slew ∨ degrade e.label num den ≠ e.label
                        ∨ (∃ v, q.phi = some v ∧ r.phi ≠ v) ∨ (∃ v, q.slew = some v ∧ r.slew ≠ v)
                        ∨ ∃ v, q.label.bind labelModeOf = some v ∧ r.label ≠ v)
                    ∧ (∀ o : OutNo, s.outs[o].boundTo i = false → s'.outs[o] = s.outs[o])
                    ∧ (∀ o : OutNo, s.outs[o].boundTo i = true → ∃ a : Output, s.outs[o].emptied a
                        ∧ (ends → s'.outs[o] = { a with binding := none }) ∧ (¬ends → s'.outs[o] = a))
                    ∧ (∀ y ∈ e.watchers, i ∈ s'.stations[y].notices) ∧ (e.mgmtWatch = true → i ∈ s'.mgmtNotices)))))

/-- R14, R15, R20, R62, R63, R112, R17: a SET of a rate whose cross-product differs restarts the entry: num, den and Pf
are new, φ and s are clamped to it, the label mode degraded where it must be, ε is 0, kl and Lm absent, the motion
PENDING, ks the first mark at or after T_req + 1 ms, and the label bases those of tB and tn; the waiting pulses of the
outputs bound to it are discarded and counted. R156: the streams on it, SUSPENDED ones among them, take the restart, their
skipped counts as R153 states (ReportIndexIsLeast), or are closed with its retirement. An ENDING entry stays ENDING, its
motion restarted, and retires in the same request when its end instant has come. A SET whose cross-product is equal
changes num and den alone, in every state, ENDING among them: the outputs, the stations and the notice sets stand. A
CLAMPED result shows φ, s and the label mode as stored (R166, log entry 47), as the SET stored them also where its end
check retires the entry (log entry 64, the model's choice). -/
def Obligations.SetOfRateRestarts : Prop :=
  ∀ (s : State) (l : Link) (t : Tag) (q : SetReq) (i : Idx) (num den : Nat),
    q = ⟨q.handle, some (num, den), none, none, none, none, none⟩ → badRate num den = false →
    q.handle.index = i.val → s.entries[i].gen = q.handle.gen → s.entries[i].state ≠ .vacant →
    (l = .mgmt ∨ s.entries[i].owner = l) → s.standsNext l t (.set q) →
    let e := s.entries[i]
    let pf := den * 1000000000 / num
    let ends : Prop := e.state = .ending ∧ ∃ x, e.endAt = some x ∧ x ≤ s.now
    (num * e.den = e.num * den →
      exec (.set l t q) s
        = .next ((s.setEntry i { e with num := num, den := den }).reply l t (.set q) .ok .empty))
    ∧ (num * e.den ≠ e.num * den →
      ∃ (s' : State) (m : Entry),
        exec (.set l t q) s = .next (
          if m.phi ≠ e.phi ∨ m.slew ≠ e.slew ∨ m.label ≠ e.label then
            s'.reply l t (.set q) .clamped (.stored ⟨m.phi, m.slew, m.label⟩)
          else s'.reply l t (.set q) .ok .empty)
        ∧ m = { e with
            num := num, den := den, pf := pf, phi := clampInt (-((pf : Int) - 1)) ((pf : Int) - 1) e.phi
            slew := clampNat 1 (pf / 4) e.slew, label := degrade e.label num den, eps := 0, kl := none, lm := none
            motion := .pending, state := if e.state = .ending then .ending else .pending, endTaken := false
            ks := m.ks, base := m.base, next := m.next }
        ∧ (∃ k, m.ks = some k ∧ ∀ j : Nat, k ≤ j ↔ (s.now : Int) + 1000000 ≤ nominal num den j + m.phi)
        ∧ m.labelled s.civil
        ∧ s.leftStations s' i ends (fun st delta => st.replan .restarted m delta s.now)
        ∧ (ends → s'.entries[i] = Entry.vacantAt (e.gen + 1)) ∧ (¬ends → s'.entries[i] = m ∧ s'.chain = s.chain)
        ∧ (∀ o : OutNo, s.outs[o].boundTo i = false → s'.outs[o] = s.outs[o])
        ∧ (∀ o : OutNo, s.outs[o].boundTo i = true → ∃ r : Output, s.outs[o].emptied r
            ∧ (ends → s'.outs[o] = { r with binding := none }) ∧ (¬ends → s'.outs[o] = r))
        ∧ (∀ y ∈ e.watchers, i ∈ s'.stations[y].notices) ∧ (e.mgmtWatch = true → i ∈ s'.mgmtNotices)
        ∧ (∀ j : Idx, j ≠ i → s'.entries[j] = s.entries[j])
        ∧ s.sameBut [.entries, .stations, .outs, .chain, .mgmtNotices, .attn] s')

/-- R18: RETIRE without an end instant retires the entry at once, in every state but VACANT, for its owner and the
management owner, with reply OK; any other link is refused NOT_OWNER after the handle check, and changes nothing. -/
def Obligations.RetireActsAtOnce : Prop :=
  ∀ (s : State) (l : Link) (t : Tag) (h : Handle) (i : Idx),
    h.index = i.val → s.entries[i].gen = h.gen → s.entries[i].state ≠ .vacant → s.standsNext l t (.retire h) →
    ((l = .mgmt ∨ s.entries[i].owner = l) →
      exec (.retire l t h) s = .next ((s.retire i).reply l t (.retire h) .ok .empty))
    ∧ (¬(l = .mgmt ∨ s.entries[i].owner = l) →
      exec (.retire l t h) s = .next (s.reply l t (.retire h) .notOwner .empty))

/-- R17: immediate retirement notes the entry to its watchers and, by its flag, to the management owner; takes it out of
their watch lists; closes every stream on it; drops the binding of every output bound to it, with its waiting pulses
counted as skipped and the pulse in progress left; decrements the owner's count; and leaves the entry VACANT with the
generation one up and every other field cleared. Other entries stay as they were. -/
def Obligations.RetirementClearsEveryTie : Prop :=
  ∀ (s : State) (i : Idx), s.entries[i].state ≠ .vacant →
    let e := s.entries[i]
    let s' := s.retire i
    s'.entries[i] = Entry.vacantAt (e.gen + 1)
    ∧ (∀ j : Idx, j ≠ i → s'.entries[j] = s.entries[j])
    ∧ (∀ x : Addr,
        let r := s.stations[x]
        s'.stations[x] = { r with
          notices := if x ∈ e.watchers then insertIdx i r.notices else r.notices
          watchList := if x ∈ e.watchers then r.watchList.erase i else r.watchList
          stream := if r.streams i then none else r.stream
          owned := r.owned - (if e.owner = .station x then 1 else 0) })
    ∧ s'.mgmtNotices = (if e.mgmtWatch then insertIdx i s.mgmtNotices else s.mgmtNotices)
    ∧ (∀ o : OutNo, s'.outs[o] =
        if s.outs[o].boundTo i then
          { s.outs[o] with binding := none, waiting := [],
                           skipped := min 65535 (s.outs[o].skipped + s.outs[o].waiting.length) }
        else s.outs[o])
    ∧ s.sameBut [.entries, .stations, .outs, .chain, .mgmtNotices, .attn] s'

/-- R19: RETIRE with an end instant clamps E to T_req + 1 ms and T_req + 86,400 s, makes the entry ENDING in its motion,
and leaves it so; it is answered CLAMPED when E was moved, with E as stored (R166, log entry 47). R7, R8: an entry that
becomes ENDING enters the notice sets of its watchers, the management set among them; one that is ENDING already enters
none. R156: the streams on the entry are computed again for the end instant. That an ns field above 999,999,999 is brought
to it and counts as a clamp is log entry 11, the model's choice. -/
def Obligations.RetireWithEndSetsEnd : Prop :=
  ∀ (s : State) (l : Link) (t : Tag) (h : Handle) (e : Instant) (i : Idx),
    h.index = i.val → s.entries[i].gen = h.gen → s.entries[i].state ≠ .vacant →
    (l = .mgmt ∨ s.entries[i].owner = l) → s.standsNext l t (.retireWithEnd h e) →
    let asked := e.sec * 1000000000 + min e.ns 999999999
    let x := clampNat (s.now + 1000000) (s.now + 86400000000000) asked
    ∃ s' : State,
      exec (.retireWithEnd l t h e) s = .next (
        if x = asked ∧ e.ns < 1000000000 then s'.reply l t (.retireWithEnd h e) .ok .empty
        else s'.reply l t (.retireWithEnd h e) .clamped (.storedEnd x))
      ∧ s'.entries[i] = { s.entries[i] with state := .ending, endAt := some x, endTaken := false }
      ∧ s.leftStations s' i False (fun st delta => st.replan (.recompute s.entries[i]) s'.entries[i] delta s.now)
      ∧ (∀ j : Idx, j ≠ i → s'.entries[j] = s.entries[j])
      ∧ (s.entries[i].state ≠ .ending →
          (∀ y : Addr, y ∈ s.entries[i].watchers → i ∈ s'.stations[y].notices)
          ∧ (s.entries[i].mgmtWatch = true → i ∈ s'.mgmtNotices))
      ∧ (s.entries[i].state = .ending →
          s'.mgmtNotices = s.mgmtNotices ∧ ∀ y : Addr, s'.stations[y].notices = s.stations[y].notices)
      ∧ s.sameBut [.entries, .stations, .mgmtNotices, .attn] s'

/-- R51, R20, R7, R113, R112, R17: REALIGN resumes the slew of an entry whose motion is HELD, of policy SLEW and within
the slew range, snaps it otherwise in HELD or SLEWING, and leaves one that is RUNNING or PENDING; the reply is OK. An
ENDING entry acts by its motion and stays ENDING, and retires at once when its end instant has come and its next mark lies
after it. Watchers have their notice. The waiting pulses of the outputs bound to it stay at a resumed slew and move by −ε
at a snap, those then in the past skipped; all are discarded and counted when the entry goes back to PENDING or retires,
and the binding is dropped with the retirement. R156: the streams on it are computed again at a resumed slew, chosen anew
at a snap, and closed with the retirement. -/
def Obligations.RealignByMotion : Prop :=
  ∀ (s : State) (l : Link) (t : Tag) (h : Handle) (i : Idx),
    h.index = i.val → s.entries[i].gen = h.gen → s.entries[i].state ≠ .vacant →
    (l = .mgmt ∨ s.entries[i].owner = l) → s.standsNext l t (.realign h) →
    let e := s.entries[i]
    let resumes : Prop := e.motion = .held ∧ e.policy = .slew ∧ e.eps.natAbs ≤ s.servo.params.slewRange
    let snaps : Prop := ¬resumes ∧ (e.motion = .held ∨ e.motion = .slewing)
    ∃ (s' : State) (m : Entry),
      exec (.realign l t h) s = .next (s'.reply l t (.realign h) .ok .empty)
      ∧ (e.motion = .running ∨ e.motion = .pending → s' = s)
      ∧ (resumes → m = { e with motion := .slewing, state := if e.state = .ending then .ending else .slewing })
      ∧ (snaps → m = e.snapped s.now)
      ∧ (resumes → s.leftStations s' i (m.endsAt s.now False) fun st delta => st.replan (.recompute e) m delta s.now)
      ∧ (snaps → s.leftStations s' i (m.endsAt s.now False) fun st delta => st.replan .snapped m delta s.now)
      ∧ (resumes ∨ snaps →
          (∀ y ∈ e.watchers, i ∈ s'.stations[y].notices) ∧ (e.mgmtWatch = true → i ∈ s'.mgmtNotices)
          ∧ (m.endsAt s.now False → s'.entries[i] = Entry.vacantAt (e.gen + 1)
              ∧ ∀ o : OutNo, s.outs[o].boundTo i = true →
                ∃ r : Output, s.outs[o].emptied r ∧ s'.outs[o] = { r with binding := none })
          ∧ (¬m.endsAt s.now False →
              s'.entries[i] = { m with endTaken := decide (e.endTaken = true ∧ (e.state ≠ .ending ∨ e.endAt = none)) }
              ∧ ∀ o : OutNo, s.outs[o].boundTo i = true →
                (resumes → s.outs[o].moved 0 s.now s'.outs[o])
                ∧ (snaps → m.motion = .running → s.outs[o].moved (-e.eps) s.now s'.outs[o])
                ∧ (snaps → m.motion = .pending → s.outs[o].emptied s'.outs[o])))
      ∧ (∀ o : OutNo, s.outs[o].boundTo i = false → s'.outs[o] = s.outs[o])
      ∧ (∀ j : Idx, j ≠ i → s'.entries[j] = s.entries[j])
      ∧ s.sameBut [.entries, .stations, .outs, .chain, .mgmtNotices, .attn] s'

/-- R22: a WATCH from a station appends it to the watcher list and the entry to its watch list, unless it watches already
(OK, no change) or either list holds eight (FULL, no change); from the management port it sets the management watch flag.
R23: an UNWATCH takes them out again, the others in their order, or clears the flag; one from a station that does not
watch changes nothing. No notice is entered or taken out by either. A handle that fails the checks of R3 refuses both,
from any link, and nothing changes. -/
def Obligations.WatchAndUnwatchTieBothSides : Prop :=
  (∀ (s : State) (t : Tag) (l : Link) (h : Handle) (st : Status),
    (63 < h.index ∧ st = .badField
      ∨ (∃ i : Idx, i.val = h.index ∧ s.entries[i].gen ≠ h.gen) ∧ st = .stale
      ∨ (∃ i : Idx, i.val = h.index ∧ s.entries[i].gen = h.gen ∧ s.entries[i].state = .vacant) ∧ st = .notFound) →
    (s.standsNext l t (.watch h) → exec (.watch l t h) s = .next (s.reply l t (.watch h) st .empty))
    ∧ (s.standsNext l t (.unwatch h) → exec (.unwatch l t h) s = .next (s.reply l t (.unwatch h) st .empty)))
  ∧ ∀ (s : State) (t : Tag) (h : Handle) (i : Idx),
    h.index = i.val → s.entries[i].gen = h.gen → s.entries[i].state ≠ .vacant →
    (s.standsNext .mgmt t (.watch h) →
      exec (.watch .mgmt t h) s
        = .next ((s.setEntry i { s.entries[i] with mgmtWatch := true }).reply .mgmt t (.watch h) .ok .empty))
    ∧ (∀ x : Addr, s.standsNext (.station x) t (.watch h) →
      exec (.watch (.station x) t h) s = .next (
        if x ∈ s.entries[i].watchers then s.reply (.station x) t (.watch h) .ok .empty
        else if 8 ≤ s.entries[i].watchers.length ∨ 8 ≤ s.stations[x].watchList.length then
          s.reply (.station x) t (.watch h) .full .empty
        else State.reply ((s.setEntry i { s.entries[i] with watchers := s.entries[i].watchers ++ [x] }).setStation x
            { s.stations[x] with watchList := s.stations[x].watchList ++ [i] }) (.station x) t (.watch h) .ok .empty))
    ∧ (s.standsNext .mgmt t (.unwatch h) →
      exec (.unwatch .mgmt t h) s
        = .next ((s.setEntry i { s.entries[i] with mgmtWatch := false }).reply .mgmt t (.unwatch h) .ok .empty))
    ∧ (∀ x : Addr, s.standsNext (.station x) t (.unwatch h) →
      exec (.unwatch (.station x) t h) s = .next (State.reply (
        if x ∈ s.entries[i].watchers then
          (s.setEntry i { s.entries[i] with watchers := s.entries[i].watchers.erase x }).setStation x
            { s.stations[x] with watchList := s.stations[x].watchList.erase i }
        else s) (.station x) t (.unwatch h) .ok .empty))

/-! ## Streams (chapter 8) -/

/-- R151, R152, R153: STREAM from a station opens an ACTIVE stream on the entry, the step brought to 1..65,535 and to at
least ceil(1,000,000 / Pf), the lead to 10,000..10,000,000, in place of the stream it had, and is answered CLAMPED, with
the two as stored (R166, log entry 47, the model's choice of the fields), when one was moved. kr is the least multiple of
the step at or above the entry's next mark whose S0 = A(kr) − δ − lead is at or after T_req, nothing counted as skipped;
kr and S0 are absent when that mark lies after the end instant of an ENDING entry, and, by log entry 40, the model's
choice, while the station has no path delay. That it opens ACTIVE also where the station has become SILENT is log entry
67, the model's choice too. UNSTREAM leaves the station without a stream. The other stations, the entries and the outputs
stay. -/
def Obligations.StreamOpensAndCloses : Prop :=
  ∀ (s : State) (x : Addr) (t : Tag),
    (∀ (h : Handle) (d lead : Nat) (i : Idx),
      h.index = i.val → s.entries[i].gen = h.gen → s.entries[i].state ≠ .vacant →
      s.standsNext (.station x) t (.stream h d lead) →
      let d' := max (clampNat 1 65535 d) (ceilDiv 1000000 s.entries[i].pf)
      let lead' := clampNat 10000 10000000 lead
      ∃ (s' : State) (st : Stream),
        exec (.stream (.station x) t h d lead) s = .next (
          if d' = d ∧ lead' = lead then s'.reply (.station x) t (.stream h d lead) .ok .empty
          else s'.reply (.station x) t (.stream h d lead) .clamped (.storedStream d' lead'))
        ∧ s'.stations[x] = { s.stations[x] with stream := some st }
        ∧ st.entry = ⟨i, h.gen⟩ ∧ st.step = d' ∧ st.lead = lead' ∧ st.last = none ∧ st.skipped = 0 ∧ st.state = .active
        ∧ st.holdStart = none ∧ (s.stations[x].delta = none → st.kr = none ∧ st.s0 = none)
        ∧ (∀ delay, s.stations[x].delta = some delay →
            let e := s.entries[i]
            let fits : Nat → Prop := fun k => k % d' = 0 ∧ e.nextMark ≤ k ∧ (s.now : Int) ≤ e.foreseen k - delay - lead'
            0 < e.num → 0 < e.den → e.pf = wholePeriod e.num e.den → e.slew ≤ max 1 (e.pf / 4) → 1 ≤ e.pf →
            ∃ k, fits k ∧ (∀ j, fits j → k ≤ j)
              ∧ (if e.state = .ending ∧ ∃ x, e.endAt = some x ∧ (x : Int) < e.foreseen k then st.kr = none ∧ st.s0 = none
                 else st.kr = some k ∧ st.s0 = some (e.foreseen k - delay - lead')))
        ∧ (∀ y : Addr, y ≠ x → s'.stations[y] = s.stations[y]) ∧ s.sameBut [.stations, .chain] s')
    ∧ (s.standsNext (.station x) t .unstream →
      ∃ s' : State, exec (.unstream (.station x) t) s = .next (s'.reply (.station x) t .unstream .ok .empty)
        ∧ s'.stations[x] = { s.stations[x] with stream := none }
        ∧ (∀ y : Addr, y ≠ x → s'.stations[y] = s.stations[y]) ∧ s.sameBut [.stations, .chain] s')

/-- R153: kr is the least multiple of the step at or above the entry's next mark (and above the previous kr, where one is
given) whose S0 = A(kr) − δ − lead, with the projected offset of R52, is at or after the instant of the choice, and a
counted choice adds the multiples passed over to the skipped count; kr and S0 are absent when that mark lies after the end
instant of an ENDING entry, where nothing is counted as skipped (log entry 55, the model's choice), and without a path
delay (log entry 40). R156: an event at the entry, ACTIVE and SUSPENDED streams alike: a snap chooses kr anew and counts
nothing; a restart raises the step to ceil(1,000,000 / Pf), chooses kr anew and counts; an event that recomputes leaves kr
and computes S0 again where A(kr) has moved, leaves both absent where A(kr) now lies after the end instant, and chooses kr
anew, with nothing counted, where kr is absent or now lies below the next mark; that a report which had waited past its
mark stands while its A(kr) does is log entry 66. -/
def Obligations.ReportIndexIsLeast : Prop :=
  ∀ (st : Stream) (e : Entry) (d : Nat) (t : Int) (above : Option Nat) (counted : Bool),
    0 < e.num → 0 < e.den → 1 ≤ st.step → e.pf = wholePeriod e.num e.den → e.slew ≤ max 1 (e.pf / 4) → 1 ≤ e.pf →
    let fits : Nat → Prop := fun k =>
      k % st.step = 0 ∧ e.nextMark ≤ k ∧ (∀ j, above = some j → j < k) ∧ t ≤ e.foreseen k - d - st.lead
    let st' := st.choose e (some d) t above counted
    ∃ k, fits k ∧ (∀ j, fits j → k ≤ j)
      ∧ (if e.state = .ending ∧ ∃ x, e.endAt = some x ∧ (x : Int) < e.foreseen k then
           st' = { st with kr := none, s0 := none }
         else
           st' = { st with
             kr := some k, s0 := some (e.foreseen k - d - st.lead)
             skipped := if counted then min 255 (st.skipped + (k / st.step - ceilDiv e.nextMark st.step)) else st.skipped })
      ∧ st.choose e none t above counted = { st with kr := none, s0 := none }
      ∧ (∀ delta : Option Nat,
          st.replan .snapped e delta t = st.choose e delta t none false
          ∧ st.replan .restarted e delta t
            = Stream.choose { st with step := max st.step (ceilDiv 1000000 e.pf) } e delta t none true
          ∧ ∀ old : Entry, st.kr = none ∨ delta = none →
              st.replan (.recompute old) e delta t = st.choose e delta t none false)
      ∧ ∀ (old : Entry) (j : Nat), st.kr = some j →
          let v := st.replan (.recompute old) e (some d) t
          let past : Prop := e.state = .ending ∧ ∃ x, e.endAt = some x ∧ (x : Int) < e.foreseen j
          let late : Prop := j < old.nextMark ∧ e.reportInstant j = old.reportInstant j
          (e.nextMark ≤ j → past → v = { st with kr := none, s0 := none })
          ∧ (e.nextMark ≤ j → ¬past → e.foreseen j = old.foreseen j → v = st)
          ∧ (e.nextMark ≤ j → ¬past → e.foreseen j ≠ old.foreseen j →
              v = { st with s0 := some (e.foreseen j - d - st.lead) })
          ∧ (j < e.nextMark → late → v = st) ∧ (j < e.nextMark → ¬late → v = st.choose e (some d) t none false)

/-! ## Samples and the servo (chapters 4 and 5) -/

/-- R82, R83: a SAMPLE with a field out of range is BAD_FIELD; one that pairs with no capture is answered by its age and
the state of its slot, with seq alone, and changes nothing else; one whose grade is above the minimum is IGNORED, its slot
CONSUMED and the ignored counter one up. That BAD_FIELD carries no field and IGNORED carries seq is log entry 43. -/
def Obligations.SampleIsPairedByAge : Prop :=
  ∀ (s : State) (t : Tag) (q : SampleReq), s.standsNext .mgmt t (.sample q) →
    let slot := s.slots[slotNo q.seq]
    let answers (st : Status) : Prop := exec (.sample .mgmt t q) s = .next (s.reply .mgmt t (.sample q) st (.seq q.seq))
    ((281474976710656 ≤ q.sec ∨ 1000000000 ≤ q.ns ∨ 15 < q.grade) →
      exec (.sample .mgmt t q) s = .next (s.reply .mgmt t (.sample q) .badField .empty))
    ∧ (q.sec < 281474976710656 → q.ns < 1000000000 → q.grade ≤ 15 →
      (s.latest = none → answers .noCapture)
      ∧ ∀ sc, s.latest = some sc →
        let age := (sc.toNat + 256 - q.seq.toNat) % 256
        (128 ≤ age → answers .noCapture)
        ∧ (4 ≤ age → age ≤ 127 → answers .sampleStale)
        ∧ (age ≤ 3 → slot.state = .empty → answers .noCapture)
        ∧ (age ≤ 3 → slot.state = .void → answers .sampleStale)
        ∧ (age ≤ 3 → slot.state = .consumed → answers .duplicate)
        ∧ (age ≤ 3 → slot.state = .filled → s.servo.params.minGrade < q.grade →
            exec (.sample .mgmt t q) s = .next (State.reply { s with
              slots := s.slots.set (slotNo q.seq) { slot with state := .consumed }
              servo := { s.servo with counters := { s.servo.counters with
                ignored := min 65535 (s.servo.counters.ignored + 1) } } } .mgmt t (.sample q) .ignored (.seq q.seq))))

/-- R93, R77, R84, R91: in FREE, an accepted sample orders a step of θ when θ is not 0, makes I, C and both counts 0 and
the state ACQUIRE, and raises SERVO; no PI update is made. T becomes T + θ, wrapped at 2^48 × 10^9; the slot paired is
CONSUMED, and the other FILLED slots VOID at a step, which reaches the entries, the outputs and the labels as a step of θ
does; the result shows the outcome. -/
def Obligations.FreeSampleStepsTimebase : Prop :=
  ∀ (s : State) (t : Tag) (q : SampleReq) (tc : Nat),
    s.servo.state = .free → s.servoInv → s.timebaseInv → s.pairs q tc → s.standsNext .mgmt t (.sample q) →
    let theta : Int := ((q.sec * 1000000000 + q.ns : Nat) : Int) - tc
    0 ≤ s.now + theta →
    ∃ s' : State,
      exec (.sample .mgmt t q) s = .next (s'.reply .mgmt t (.sample q) .ok
        (.sample { seq := q.seq, captured := tc, offset := theta, stepped := decide (theta ≠ 0), servo := .acquire, cls := 1 }))
      ∧ s'.servo = { s.servo with
          state := .acquire, integral := 0, correction := 0, good := 0, outliers := 0, timer := some s.cycle, ageStart := none,
          lastOffset := some theta, noted := 1,
          counters := { s.servo.counters with
            accepted := min 65535 (s.servo.counters.accepted + 1),
            steps := if theta = 0 then s.servo.counters.steps else min 65535 (s.servo.counters.steps + 1) } }
      ∧ s'.shows .servo
      ∧ (s'.now : Int) = (s.now + theta) % 281474976710656000000000 ∧ s'.tb.frac = s.tb.frac
      ∧ s.spentSlots s' (slotNo q.seq) (decide (theta ≠ 0))
      ∧ (if theta = 0 then s.sameBut [.slots, .servo, .attn] s' else s.steppedAs s' theta)
      ∧ s.sameBut [.tb, .slots, .servo, .civil, .entries, .mgmtNotices, .outs, .chain, .stations, .attn] s'

/-- R90, R91, R92, R94, R97: in ACQUIRE, and in HOLDOVER which it ends, an accepted sample at or above the step threshold
steps and sets the good count to 0, I and C unchanged, and the step reaches the entries, the outputs and the labels as a
step of θ does; the slot paired is CONSUMED, and the other FILLED slots VOID at a step; one below it makes a PI update,
and counts toward lock when it lies within the lock window. The floors are toward minus infinity. The SERVO cause is added
when the quality class is another than the one last noted, and then alone. -/
def Obligations.AcquireSampleSteers : Prop :=
  ∀ (s : State) (t : Tag) (q : SampleReq) (tc : Nat),
    s.servo.state = .acquire ∨ s.servo.state = .holdover → s.timebaseInv → s.pairs q tc →
    s.standsNext .mgmt t (.sample q) →
    let v := s.servo
    let theta : Int := ((q.sec * 1000000000 + q.ns : Nat) : Int) - tc
    let l : Int := v.params.limit
    let i := clampInt (-l) l (v.integral + theta * v.params.ki / 256)
    let c := clampInt (-l) l (theta * v.params.kp / 256 + i)
    0 ≤ s.now + theta →
    ∃ s' : State,
      exec (.sample .mgmt t q) s = .next (s'.reply .mgmt t (.sample q) .ok
        (.sample { seq := q.seq, captured := tc, offset := theta, stepped := decide (v.params.sth ≤ theta.natAbs),
                   servo := s'.servo.state, cls := s'.quality }))
      ∧ s'.servo.timer = some s.cycle ∧ s'.servo.ageStart = none ∧ s'.servo.lastOffset = some theta
      ∧ s'.servo.counters.accepted = min 65535 (v.counters.accepted + 1) ∧ s'.servo.params = v.params
      ∧ s.spentSlots s' (slotNo q.seq) (decide (v.params.sth ≤ theta.natAbs))
      ∧ (v.params.sth ≤ theta.natAbs →
          s'.servo.state = .acquire ∧ s'.servo.good = 0 ∧ s'.servo.integral = v.integral
          ∧ s'.servo.correction = v.correction ∧ s'.servo.counters.steps = min 65535 (v.counters.steps + 1)
          ∧ (s'.now : Int) = (s.now + theta) % 281474976710656000000000 ∧ s.steppedAs s' theta)
      ∧ (theta.natAbs < v.params.sth →
          s'.servo.integral = i ∧ s'.servo.correction = c ∧ s.sameBut [.slots, .servo, .attn] s'
          ∧ (if theta.natAbs ≤ v.params.lockWin then
               if v.params.lockCount ≤ v.good + 1 then
                 s'.servo.state = .locked ∧ s'.servo.good = 0 ∧ s'.servo.outliers = 0
               else s'.servo.state = .acquire ∧ s'.servo.good = v.good + 1
             else s'.servo.state = .acquire ∧ s'.servo.good = 0))
      ∧ s'.servo.noted = s'.quality ∧ (s'.shows .servo ↔ s.shows .servo ∨ s'.quality ≠ v.noted)
      ∧ (theta.natAbs < v.params.sth → s'.attn = if s'.quality = v.noted then s.attn else (s.raise .servo).attn)
      ∧ s.sameBut [.tb, .slots, .servo, .civil, .entries, .mgmtNotices, .outs, .chain, .stations, .attn] s'

/-- R90, R91, R92, R95, R96: in LOCKED, an accepted sample below the step threshold sets the outlier count to 0 and makes
a PI update, and leaves LOCKED when it lies above the unlock window; one at or above the threshold is an outlier: I and C
stand, and it steps and goes to ACQUIRE when the outlier count reaches the persistence, and the step reaches the entries,
the outputs and the labels as a step of θ does. The slot paired is CONSUMED, and the other FILLED slots VOID at a step.
The SERVO cause is added when the quality class is another than the one last noted, and then alone. -/
def Obligations.LockedSampleSteersOrCounts : Prop :=
  ∀ (s : State) (t : Tag) (q : SampleReq) (tc : Nat),
    s.servo.state = .locked → s.timebaseInv → s.pairs q tc → s.standsNext .mgmt t (.sample q) →
    let v := s.servo
    let theta : Int := ((q.sec * 1000000000 + q.ns : Nat) : Int) - tc
    let l : Int := v.params.limit
    let i := clampInt (-l) l (v.integral + theta * v.params.ki / 256)
    let c := clampInt (-l) l (theta * v.params.kp / 256 + i)
    0 ≤ s.now + theta →
    ∃ (s' : State) (stepped : Bool),
      exec (.sample .mgmt t q) s = .next (s'.reply .mgmt t (.sample q) .ok
        (.sample { seq := q.seq, captured := tc, offset := theta, stepped := stepped, servo := s'.servo.state,
                   cls := s'.quality }))
      ∧ (theta.natAbs < v.params.sth →
          stepped = false ∧ s'.servo.outliers = 0 ∧ s'.servo.integral = i ∧ s'.servo.correction = c
          ∧ s.sameBut [.slots, .servo, .attn] s'
          ∧ (if v.params.unlockWin < theta.natAbs then s'.servo.state = .acquire ∧ s'.servo.good = 0
             else s'.servo.state = .locked ∧ s'.servo.good = v.good))
      ∧ (v.params.sth ≤ theta.natAbs →
          s'.servo.counters.outliers = min 65535 (v.counters.outliers + 1) ∧ s'.servo.integral = v.integral
          ∧ s'.servo.correction = v.correction
          ∧ (if v.outliers + 1 < v.params.persist then
               stepped = false ∧ s'.servo.state = .locked ∧ s'.servo.outliers = v.outliers + 1 ∧ s'.servo.good = v.good
               ∧ s.sameBut [.slots, .servo, .attn] s'
             else
               stepped = true ∧ s'.servo.state = .acquire ∧ s'.servo.good = 0 ∧ s'.servo.outliers = 0
               ∧ s'.servo.counters.steps = min 65535 (v.counters.steps + 1)
               ∧ (s'.now : Int) = (s.now + theta) % 281474976710656000000000 ∧ s.steppedAs s' theta))
      ∧ s'.servo.noted = s'.quality ∧ (s'.shows .servo ↔ s.shows .servo ∨ s'.quality ≠ v.noted)
      ∧ (stepped = false → s'.attn = if s'.quality = v.noted then s.attn else (s.raise .servo).attn)
      ∧ s.spentSlots s' (slotNo q.seq) stepped
      ∧ s'.servo.params = v.params ∧ s'.servo.timer = some s.cycle ∧ s'.servo.lastOffset = some theta
      ∧ s'.servo.counters.accepted = min 65535 (v.counters.accepted + 1)
      ∧ s.sameBut [.tb, .slots, .servo, .civil, .entries, .mgmtNotices, .outs, .chain, .stations, .attn] s'

/-- R43 to R47, R38, R20, R58, R61, R77, R112, R113: what a timebase step of θ does, T_new below the wrap. FILLED slots
become VOID. Lm moves by θ, and every living entry then acts by its motion and policy: a PENDING one waits for the first
mark at or after T_new + 1 ms; under SLEW and HOLD ε gains θ and the motion follows from it; under SNAP, and when ε would
leave the range of R38, the entry snaps at T_new. An ENDING entry whose end instant has come retires when the step is
forward (also one whose instant had come before: log entry 62, the model's choice) or its next mark lies after it. Every
watcher has its notice. The waiting pulses of a bound output move by θ, or by −ε at a snap, those then in the past are
skipped, and all are discarded when the entry goes back to PENDING or retires; pulses in progress and last inactive edges
move by θ. A pending leap at or before T_new is taken, a leap instant after it is dropped, and the labels re-base at
T_new: where tB, O and J stay as they were, as within tB..tn, every base stays as it was, that of an entry which has
switched among them; else both bases are computed from tB and tn. R156: a stream on a living entry is chosen anew where
the entry snaps, computed again where it does not, and closed where the entry retires; the other streams, and of the
stations' records all but the notices and what a retirement takes out, stay. -/
def Obligations.StepIsAbsorbedByPolicy : Prop :=
  ∀ (s : State) (theta : Int),
    let t := (s.now : Int) + theta
    0 ≤ t → t < 281474976710656000000000 →
    let s' := s.applyStep theta
    (s'.now : Int) = t ∧ s'.tb.frac = s.tb.frac
    ∧ (∀ k : Fin 4, s'.slots[k] =
        if s.slots[k].state = .filled then { s.slots[k] with state := .void } else s.slots[k])
    ∧ (∀ i : Idx, s.entries[i].state = .vacant → s'.entries[i] = s.entries[i])
    ∧ (∀ x : Addr,
        let r := s.stations[x]
        let r' := s'.stations[x]
        r' = { r with notices := r'.notices, watchList := r'.watchList, owned := r'.owned, stream := r'.stream }
        ∧ (r.stream = none → r'.stream = none)
        ∧ ∀ st, r.stream = some st → s.entries[st.entry.index].state = .vacant → r'.stream = some st)
    ∧ (∀ i : Idx, s.entries[i].state ≠ .vacant → 0 < s.entries[i].num → 0 < s.entries[i].den →
        let e := s.entries[i]
        let snaps : Prop := e.policy = .snap ∨ e.eps + theta < -9223372036854775808 ∨ 9223372036854775807 < e.eps + theta
        ∃ (m : Entry) (how : Replan), Entry.absorbed { e with lm := e.lm.map (· + theta) } s.servo.params.slewRange theta t m
          ∧ (e.motion ≠ .pending ∧ snaps → how = .snapped) ∧ (¬(e.motion ≠ .pending ∧ snaps) → how = .recompute e)
          ∧ (m.endsAt t (0 < theta) → s'.entries[i] = Entry.vacantAt (e.gen + 1))
          ∧ (¬m.endsAt t (0 < theta) →
              ({ s'.entries[i] with base := none, next := none, endTaken := false } : Entry)
                = { m with base := none, next := none, endTaken := false }
              ∧ s.basesFollow s' i)
          ∧ (∀ (x : Addr) (st : Stream), s.stations[x].stream = some st → st.entry.index = i →
              (m.endsAt t (0 < theta) → s'.stations[x].stream = none)
              ∧ (¬m.endsAt t (0 < theta) → s'.stations[x].stream = some (st.replan how m s.stations[x].delta t)))
          ∧ (∀ y ∈ e.watchers, i ∈ s'.stations[y].notices) ∧ (e.mgmtWatch = true → i ∈ s'.mgmtNotices)
          ∧ ∀ o : OutNo, s.outs[o].boundTo i = true →
              let a := { s.outs[o] with
                inProgress := s'.outs[o].inProgress, lastInactive := s'.outs[o].lastInactive }
              (m.endsAt t (0 < theta) → Output.emptied { a with binding := none } s'.outs[o])
              ∧ (¬m.endsAt t (0 < theta) →
                  (e.motion = .pending → s'.outs[o] = a)
                  ∧ (e.motion ≠ .pending → ¬snaps → a.moved theta t s'.outs[o])
                  ∧ (e.motion ≠ .pending → snaps → m.motion = .running → a.moved (-e.eps) t s'.outs[o])
                  ∧ (e.motion ≠ .pending → snaps → m.motion = .pending → a.emptied s'.outs[o])))
    ∧ (∀ o : OutNo,
        s'.outs[o].inProgress = (s.outs[o].inProgress.map fun p =>
          { p with active := p.active + theta, inactive := p.inactive + theta })
        ∧ s'.outs[o].lastInactive = s.outs[o].lastInactive.map (· + theta)
        ∧ (s.outs[o].binding = none → s'.outs[o].waiting = s.outs[o].waiting ∧ s'.outs[o].skipped = s.outs[o].skipped))
    ∧ (let c := s.civil
       let c' := s'.civil
       let leap : Option (Int × Nat) := match c.pending with
         | some (o, eo) => if (eo : Int) * 1000000000 ≤ t then some (o, eo) else none
         | none => none
       c'.jam = c.jam
       ∧ (∀ o eo, leap = some (o, eo) → c'.offset = o ∧ c'.pending = none ∧ c'.tL = some eo)
       ∧ (leap = none → c'.offset = c.offset ∧ c'.pending = c.pending
           ∧ c'.tL = match c.tL with
             | some l => if t < (l : Int) * 1000000000 then none else some l
             | none => none)
       ∧ c'.basedAt t)
    ∧ s.sameBut [.tb, .slots, .civil, .entries, .mgmtNotices, .outs, .chain, .stations, .attn] s'

/-- R101, R102, R41: SERVO takes each present parameter clamped to its range, the unlock window to one from the lock
window up, and is answered CLAMPED when a value was moved; I and C are brought within the new limit; a new timeout already
passed makes the timer expire at once; the entries whose carried offset exceeds the new slew range go from SLEWING to
HELD, and the streams on them are computed again (R156). -/
def Obligations.ServoTakesClampedParameters : Prop :=
  ∀ (s : State) (t : Tag) (q : ServoReq), s.servoInv → s.offsetInv → s.standsNext .mgmt t (.servo q) →
    let p := s.servo.params
    let asked : ServoParams :=
      { sth := q.sth.getD p.sth, lockWin := q.lockWin.getD p.lockWin, lockCount := q.lockCount.getD p.lockCount,
        unlockWin := q.unlockWin.getD p.unlockWin, persist := q.persist.getD p.persist, kp := q.kp.getD p.kp,
        ki := q.ki.getD p.ki, limit := q.limit.getD p.limit, timeout := q.timeout.getD p.timeout,
        ageLimit := q.ageLimit.getD p.ageLimit, minGrade := q.minGrade.getD p.minGrade,
        slewRange := q.slewRange.getD p.slewRange }
    let win := clampNat 10 1000000 asked.lockWin
    let n : ServoParams :=
      { sth := clampNat 1000 1000000000 asked.sth, lockWin := win, lockCount := clampNat 1 16 asked.lockCount,
        unlockWin := clampNat win 10000000 asked.unlockWin, persist := clampNat 1 8 asked.persist,
        kp := min 65535 asked.kp, ki := min 65535 asked.ki, limit := min 6871947 asked.limit,
        timeout := clampNat 1 60 asked.timeout, ageLimit := clampNat 1 86400 asked.ageLimit,
        minGrade := min 15 asked.minGrade, slewRange := min 1000000000 asked.slewRange }
    ∃ s' : State,
      exec (.servo .mgmt t q) s = .next (s'.reply .mgmt t (.servo q) (if n = asked then .ok else .clamped)
        (.servo n s'.servo.state s'.quality))
      ∧ s'.servo.params = n
      ∧ s'.servo.integral = clampInt (-(n.limit : Int)) n.limit s.servo.integral
      ∧ ((∀ c, s.servo.timer = some c → s.cycle < c + n.timeout * 125000000) →
          s'.servo.state = s.servo.state ∧ s'.servo.correction = clampInt (-(n.limit : Int)) n.limit s.servo.correction
          ∧ s'.servo.timer = s.servo.timer ∧ s'.servo.good = s.servo.good ∧ s'.servo.outliers = s.servo.outliers)
      ∧ (∀ c, s.servo.timer = some c → c + n.timeout * 125000000 ≤ s.cycle → n.timeout ≠ p.timeout →
          s.servo.state = .acquire ∨ s.servo.state = .locked →
          s'.servo.state = .holdover ∧ s'.servo.correction = s'.servo.integral ∧ s'.servo.timer = none
          ∧ s'.servo.ageStart = some s.cycle ∧ s'.servo.good = 0 ∧ s'.servo.outliers = 0)
      ∧ (∀ i : Idx, s'.entries[i] = s.entries[i].heldBy n.slewRange)
      ∧ (∀ x : Addr, s'.stations[x] = { s.stations[x] with
          notices := s'.stations[x].notices
          stream := s.stations[x].stream.map fun st =>
            st.heldBy s.entries[st.entry.index] n.slewRange s.stations[x].delta s.now })
      ∧ s'.servo.counters = s.servo.counters ∧ s'.servo.lastOffset = s.servo.lastOffset
      ∧ s.sameBut [.servo, .entries, .stations, .mgmtNotices, .attn] s'

/-- R98, R99: at the expiry of the holdover timer C becomes I, both counts 0, the age starts and SERVO is raised; when the
age passes the limit the class becomes 3 and SERVO is raised; nothing else moves, and before then neither command does
anything (log entry 4). -/
def Obligations.HoldoverKeepsIntegral : Prop :=
  ∀ s : State, s.resetPin = false → s.servoInv →
    (∀ c, s.servo.timer = some c → s.servo.state = .acquire ∨ s.servo.state = .locked →
      c + s.servo.params.timeout * 125000000 ≤ s.cycle →
      ∃ s' : State, exec .holdoverTimerExpiry s = .next s'
        ∧ s'.servo = { s.servo with state := .holdover, correction := s.servo.integral, good := 0, outliers := 0,
                                    timer := none, ageStart := some s.cycle, noted := 2 }
        ∧ s'.shows .servo ∧ s.sameBut [.servo, .attn] s')
    ∧ (∀ c, s.servo.timer = some c → s.cycle < c + s.servo.params.timeout * 125000000 →
        exec .holdoverTimerExpiry s = .next s)
    ∧ (∀ c, s.servo.state = .holdover → s.servo.ageStart = some c →
        c + s.servo.params.ageLimit * 125000000 < s.cycle → s.servo.noted = 2 →
        ∃ s' : State, exec .holdoverAgeLimitPassed s = .next s' ∧ s'.servo = { s.servo with noted := 3 } ∧ s'.quality = 3
          ∧ s'.shows .servo ∧ s.sameBut [.servo, .attn] s')
    ∧ (∀ c, s.servo.ageStart = some c → s.cycle ≤ c + s.servo.params.ageLimit * 125000000 →
        exec .holdoverAgeLimitPassed s = .next s)

/-- R79, R80: a strobe edge at least 12,500 cycles after the last accepted one, or the first, takes the next sequence
number and files it with T + p in the slot of its number mod 4; an earlier one only moves the glitch counter; edges while
RESET is asserted do nothing. -/
def Obligations.StrobeEdgeIsFiled : Prop :=
  ∀ (s : State) (p : Fin 8),
    let n : BitVec 8 := match s.latest with
      | none => 0
      | some q => q + 1
    (s.resetPin = false → (∀ c, s.lastEdge = some c → c + 12500 ≤ s.cycle) →
      ∃ k : Fin 4, k.val = n.toNat % 4 ∧ exec (.strobeEdge p) s = .next { s with
        latest := some n, lastEdge := some s.cycle, slots := s.slots.set k ⟨.filled, n, s.now + p.val⟩ })
    ∧ (s.resetPin = false → ∀ c, s.lastEdge = some c → s.cycle < c + 12500 →
      exec (.strobeEdge p) s = .next { s with servo := { s.servo with counters := { s.servo.counters with
        glitches := min 65535 (s.servo.counters.glitches + 1) } } })
    ∧ (s.resetPin = true → exec (.strobeEdge p) s = .next s)

/-! ## Civil time (chapter 3) -/

/-- R56, R57, R59, R62, R63: CIVIL takes O and J clamped, and the pending change by its action; a new O or J drops the
leap instant and re-bases at T_req, to the most recent daily jam or the origin, and any change computes the next jam anew;
an unknown action, or an Eo that is too large or not ahead, is BAD_FIELD. A new O or J computes both bases of every
labelled entry, a new pending change its next base; the entries keep everything else. That an entry switched before its
jam has a next base again then is log entry 63, the model's choice. -/
def Obligations.CivilTakesSettings : Prop :=
  ∀ (s : State) (t : Tag) (q : CivilReq), s.standsNext .mgmt t (.civil q) →
    ((∃ c, q.action = .other c) ∨ (∃ o e, q.action = .set o e ∧ (281474976710656 ≤ e ∨ e * 1000000000 ≤ s.now)) →
      exec (.civil .mgmt t q) s = .next (s.reply .mgmt t (.civil q) .badField .empty))
    ∧ ((∀ c, q.action ≠ .other c) →
      (∀ o e, q.action = .set o e → e < 281474976710656 ∧ s.now < e * 1000000000) →
      let o' := (q.offset.map (clampInt (-86400) 86400)).getD s.civil.offset
      let j' := (q.jam.map (clampNat 0 86399)).getD s.civil.jam
      let p' := match q.action with
        | .set o e => some (clampInt (-86400) 86400 o, e)
        | .cancel => none
        | _ => s.civil.pending
      ∃ (s' : State) (st : Status),
        exec (.civil .mgmt t q) s = .next (s'.reply .mgmt t (.civil q) st
          (.civil { offset := o', jam := j', pending := p', tB := s'.civil.tB, tn := s'.civil.tn }))
        ∧ (st = .ok ∨ st = .clamped)
        ∧ (st = .ok ↔ (∀ o, q.offset = some o → o' = o) ∧ (∀ j, q.jam = some j → j' = j)
            ∧ ∀ o e, q.action = .set o e → p' = some (o, e))
        ∧ s'.civil.offset = o' ∧ s'.civil.jam = j' ∧ s'.civil.pending = p'
        ∧ (o' = s.civil.offset → j' = s.civil.jam → s'.civil.tB = s.civil.tB ∧ s'.civil.tL = s.civil.tL
            ∧ (p' = s.civil.pending → s' = s))
        ∧ (¬(o' = s.civil.offset ∧ j' = s.civil.jam) →
            s'.civil.tL = none ∧ s'.civil.basedAt s.now)
        ∧ (¬(o' = s.civil.offset ∧ j' = s.civil.jam ∧ p' = s.civil.pending) → s'.civil.scheduled)
        ∧ (∀ i : Idx, ({ s'.entries[i] with base := none, next := none } : Entry)
            = { s.entries[i] with base := none, next := none })
        ∧ (∀ i : Idx, s.entries[i].state ≠ .vacant → 0 < s.entries[i].num → 0 < s.entries[i].den →
            (¬(o' = s.civil.offset ∧ j' = s.civil.jam) → s'.entries[i].labelled s'.civil)
            ∧ (o' = s.civil.offset → j' = s.civil.jam → s'.entries[i].base = s.entries[i].base
                ∧ (p' ≠ s.civil.pending → s'.entries[i].nextLabelled s'.civil)))
        ∧ s.sameBut [.civil, .entries] s')

/-! ## Timing outputs (chapter 6) -/

/-- R115 to R117, R107, R110: BIND sets one output in the order binding, divider with delay and width, enabled, polarity,
clear, and answers the record as it stands before the clear, with its state: DISABLED, or UNBOUND, or by the motion of its
entry WAITING or DRIVING; an output above 15, an unknown action or an unknown polarity is BAD_FIELD, and nothing changes.
Delay and width are fitted when the divider, the delay or the width is given or another entry is bound, and stay otherwise
(log entry 24, the model's choice). That a disabling lets a pending polarity take effect is log entry 23. The other
outputs stay. -/
def Obligations.BindSetsOutput : Prop :=
  ∀ (s : State) (t : Tag) (q : BindReq), s.standsNext .mgmt t (.bind q) →
    (15 < q.output ∨ (∃ c, q.action = .other c) ∨ (∃ c, q.polarity = some c ∧ 1 < c) →
      exec (.bind .mgmt t q) s = .next (s.reply .mgmt t (.bind q) .badField .empty))
    ∧ ∀ (o : OutNo) (b : Option EntryRef),
      q.output = o.val → (∀ c, q.polarity = some c → c ≤ 1) →
      (q.action = .keep ∧ b = s.outs[o].binding ∨ q.action = .unbind ∧ b = none
        ∨ ∃ (h : Handle) (i : Idx), q.action = .bind h ∧ h.index = i.val ∧ s.entries[i].gen = h.gen
            ∧ s.entries[i].state ≠ .vacant ∧ b = some ⟨i, h.gen⟩) →
      let a := s.outs[o]
      ∃ (r : Output) (st : Status),
        exec (.bind .mgmt t q) s = .next ((s.setOutput o (if q.clear then { r with skipped := 0 } else r)).reply .mgmt t
          (.bind q) st (.output o
            (if r.enabled = false then .disabled
             else match b with
               | none => .unbound
               | some e => if s.entries[e.index].motion = .pending then .waiting else .driving) r))
        ∧ r.binding = b ∧ r.enabled = q.enabled.getD a.enabled
        ∧ r.divider = (q.divider.map (clampNat 1 65535)).getD a.divider
        ∧ st = (if r.divider = q.divider.getD a.divider ∧ r.delay = q.delay.getD a.delay ∧ r.width = q.width.getD a.width
                then .ok else .clamped)
        ∧ (if b ≠ a.binding ∨ q.enabled = some false then
             r.waiting = [] ∧ r.skipped = min 65535 (a.skipped + a.waiting.length)
           else r.waiting = a.waiting ∧ r.skipped = a.skipped)
        ∧ (if q.enabled = some false then
             r.inProgress = none ∧ r.lastInactive = if a.inProgress = none then a.lastInactive else some s.now
           else r.inProgress = a.inProgress ∧ r.lastInactive = a.lastInactive)
        ∧ (q.divider ≠ none ∨ q.delay ≠ none ∨ q.width ≠ none ∨ b ≠ none ∧ b ≠ a.binding →
            match b with
            | some e =>
              r.delay = clampNat 0 (r.divider * s.entries[e.index].pf - 1) (q.delay.getD a.delay)
              ∧ r.width = clampNat 8 (r.divider * s.entries[e.index].pf / 2) (q.width.getD a.width)
            | none =>
              r.delay = clampNat 0 65534999999999 (q.delay.getD a.delay)
              ∧ r.width = clampNat 8 32767500000000 (q.width.getD a.width))
        ∧ (¬(q.divider ≠ none ∨ q.delay ≠ none ∨ q.width ≠ none ∨ b ≠ none ∧ b ≠ a.binding) →
            r.delay = a.delay ∧ r.width = a.width)
        ∧ (q.polarity = none → q.enabled ≠ some false ∨ a.inProgress = none →
            r.polarity = a.polarity ∧ r.pendingPol = a.pendingPol)
        ∧ (q.polarity = none → q.enabled = some false → a.inProgress ≠ none →
            r.polarity = a.pendingPol.getD a.polarity ∧ r.pendingPol = none)
        ∧ (∀ c p, q.polarity = some c → polarityOf c = some p →
            if r.inProgress = none then r.polarity = p ∧ r.pendingPol = none
            else r.polarity = a.polarity ∧ r.pendingPol = if p = a.polarity then none else some p)

/-- R109, R107: the first waiting pulse leaves the list at its active edge and is in progress when INHIBIT is not
asserted, none is in progress and the last inactive edge lies 8 ns back or is absent; else it is skipped. The pulse in
progress ends at its inactive edge. R111: the assertion of INHIBIT ends every pulse in progress and leaves the waiting
ones; the release changes nothing but the pin. The other outputs and the entries stay. That no edge acts before its
instant is log entry 4, and that an assertion at the very ns of an active edge counts the pulse as skipped and sets the
last inactive edge is log entry 22. -/
def Obligations.PulsesFollowEdgesAndInhibit : Prop :=
  ∀ s : State, s.resetPin = false →
    (∀ (o : OutNo) (p : Pulse) (ps : List Pulse), s.outs[o].waiting = p :: ps → p.active ≤ s.now →
      let a := s.outs[o]
      exec (.activeEdge o) s = .next (s.setOutput o
        (if s.inhibit = false ∧ a.inProgress = none ∧ ∀ x, a.lastInactive = some x → x + 8 ≤ p.active then
           { a with waiting := ps, inProgress := some p }
         else { a with waiting := ps, skipped := min 65535 (a.skipped + 1) })))
    ∧ (∀ o : OutNo, (∀ p ∈ s.outs[o].waiting.head?, (s.now : Int) < p.active) → exec (.activeEdge o) s = .next s)
    ∧ (∀ (o : OutNo) (p : Pulse), s.outs[o].inProgress = some p → p.inactive ≤ s.now →
      exec (.inactiveEdge o) s = .next (s.setOutput o { s.outs[o] with
        inProgress := none, lastInactive := some p.inactive, polarity := s.outs[o].pendingPol.getD s.outs[o].polarity,
        pendingPol := none }))
    ∧ (∀ o : OutNo, (∀ p ∈ s.outs[o].inProgress, (s.now : Int) < p.inactive) → exec (.inactiveEdge o) s = .next s)
    ∧ (∃ s' : State, exec .inhibitAssertion s = .next s' ∧ s'.inhibit = true
      ∧ (∀ o : OutNo, s'.outs[o].inProgress = none ∧ s'.outs[o].waiting = s.outs[o].waiting ∧ s'.pinRests o
          ∧ (s.outs[o].inProgress = none → s'.outs[o] = s.outs[o])
          ∧ (∀ p, s.outs[o].inProgress = some p → s'.outs[o] = { s.outs[o] with
              inProgress := none, lastInactive := some s.now, polarity := s.outs[o].pendingPol.getD s.outs[o].polarity
              pendingPol := none
              skipped := if p.active = s.now then min 65535 (s.outs[o].skipped + 1) else s.outs[o].skipped }))
      ∧ s.sameBut [.inhibit, .outs] s')
    ∧ exec .inhibitRelease s = .next { s with inhibit := false }

/-! ## Marks, ends and jams that fall due -/

/-- R39, R40, R12, R13: a due mark is emitted: kl and Lm take it, an entry that waited to start becomes RUNNING, ε moves
toward 0 by at most s while SLEWING and the entry is RUNNING when it reaches 0, an ENDING entry staying ENDING. R63: at a
mark at or above kb′ the next base becomes the current one and there is no next base. R112: at the start every output
bound to the entry, enabled or not, has its delay and width clamped against Pf first. R108: the mark then fixes a pulse on
each enabled output bound to it whose divider divides its index and that has room. R20: at its end instant an ENDING entry
whose next mark lies after it retires; one with a mark still due at or before it waits for that mark (the end due taken, a
flag of the model's), and retires by R17 with the mark after which the next one lies past E. R155: a suspended stream on
the entry whose step divides the mark has one more skipped, and the other streams stay. What has not fallen due does
nothing (log entry 4). That a mark below 0 is due is log entry 53, a mark at or before E and no other log entry 49, and
the place of a pulse beside one of the same active edge log entry 57. -/
def Obligations.MarksAndEndsFallDue : Prop :=
  ∀ (s : State) (i : Idx), s.resetPin = false →
    let e := s.entries[i]
    let k := e.nextMark
    let a := nominal e.num e.den k + e.phi + e.eps
    let moved : Int := if e.eps < 0 then min 0 (e.eps + e.slew) else max 0 (e.eps - e.slew)
    ((s.now : Int) < a → exec (.markDue i) s = .next s)
    ∧ (e.state ≠ .vacant → a ≤ s.now → (e.state = .ending → ∃ x : Nat, e.endAt = some x ∧ a ≤ x) →
      let motion : Motion := match e.motion with
        | .pending => .running
        | .slewing => if moved = 0 then .running else .slewing
        | other => other
      let switches : Prop := ∃ b, e.next = some b ∧ b.kb ≤ k
      ∃ (s' : State) (m : Entry), exec (.markDue i) s = .next s'
        ∧ m = { e with
            kl := some k, lm := some a, motion := motion, eps := if e.motion = .slewing then moved else e.eps
            ks := if e.motion = .pending then none else e.ks
            state := if e.state ≠ .ending ∧ motion ≠ e.motion then .running else e.state
            base := m.base, next := m.next }
        ∧ (switches → m.base = e.next ∧ m.next = none) ∧ (¬switches → m.base = e.base ∧ m.next = e.next)
        ∧ (let retires : Prop := e.endTaken = true ∧ e.state = .ending
             ∧ ∃ x : Nat, e.endAt = some x ∧ (x : Int) < nominal e.num e.den (k + 1) + e.phi + m.eps
           (retires → s'.entries[i] = Entry.vacantAt (e.gen + 1))
           ∧ (¬retires → s'.entries[i] = m ∧ s'.chain = s.chain)
           ∧ s.leftStations s' i retires (fun st _ =>
               if st.state = .suspended ∧ k % st.step = 0 then { st with skipped := min 255 (st.skipped + 1) } else st)
           ∧ (motion ≠ e.motion ∨ retires →
               (∀ y ∈ e.watchers, i ∈ s'.stations[y].notices) ∧ (e.mgmtWatch = true → i ∈ s'.mgmtNotices))
           ∧ ∀ o : OutNo,
            let r := s.outs[o]
            let r0 := if r.boundTo i = true ∧ e.motion = .pending then
                { r with delay := clampNat 0 (r.divider * e.pf - 1) r.delay,
                         width := clampNat 8 (r.divider * e.pf / 2) r.width }
              else r
            let x := a + r0.delay
            let r1 :=
              if r.enabled = true ∧ r.boundTo i = true ∧ k % r.divider = 0 then
                if r.waiting.length < 4 then { r0 with waiting := insertPulse ⟨k, x, x + r0.width⟩ r.waiting }
                else { r0 with skipped := min 65535 (r.skipped + 1) }
              else r0
            (¬retires ∨ r.boundTo i = false → s'.outs[o] = r1)
            ∧ (retires → r.boundTo i = true → s'.outs[o] = { r1 with
                binding := none, waiting := [], skipped := min 65535 (r1.skipped + r1.waiting.length) }))
        ∧ (∀ j : Idx, j ≠ i → s'.entries[j] = s.entries[j])
        ∧ s.sameBut [.entries, .stations, .outs, .chain, .mgmtNotices, .attn] s')
    ∧ (∀ x, e.state = .ending → e.endAt = some x →
        (s.now < x → exec (.endDue i) s = .next s)
        ∧ (x ≤ s.now → (x : Int) < a → exec (.endDue i) s = .next (s.retire i))
        ∧ (x ≤ s.now → a ≤ x → exec (.endDue i) s = .next (s.setEntry i { e with endTaken := true })))

/-- R60, R59, R62, R63, R67: when timebase time reaches tn, tB becomes tn; at a leap jam O becomes O′, the pending change
goes and tn is the leap instant; every entry that has not switched takes its next base; and the next jam and each next
base are computed anew. Before tn nothing happens (log entry 4). -/
def Obligations.JamSwitchesBases : Prop :=
  ∀ s : State, s.resetPin = false →
    (s.now < s.civil.tn * 1000000000 → exec .jamEvent s = .next s)
    ∧ (s.civil.tn * 1000000000 ≤ s.now →
      ∃ s' : State, exec .jamEvent s = .next s'
        ∧ s'.civil.tB = s.civil.tn ∧ s'.civil.jam = s.civil.jam
        ∧ (∀ o e, s.civil.pending = some (o, e) →
            if e = s.civil.tn then s'.civil.offset = o ∧ s'.civil.pending = none ∧ s'.civil.tL = some e
            else s'.civil.offset = s.civil.offset ∧ s'.civil.pending = some (o, e) ∧ s'.civil.tL = s.civil.tL)
        ∧ (s.civil.pending = none → s'.civil.offset = s.civil.offset ∧ s'.civil.pending = none ∧ s'.civil.tL = s.civil.tL)
        ∧ s'.civil.scheduled
        ∧ (∀ i : Idx,
            let e := s.entries[i]
            let e' := s'.entries[i]
            e'.base = (if e.next = none then e.base else e.next)
            ∧ (e.state ≠ .vacant → e.label ≠ .none → 0 < e.num → 0 < e.den →
                e'.nextLabelled s'.civil)
            ∧ ({ e' with base := none, next := none } : Entry) = { e with base := none, next := none })
        ∧ s.sameBut [.civil, .entries] s')

/-- R76: the REFCLK cycle that carries the seconds past 2^48 − 1 takes 2^48 × 10^9 ns away from T, the fraction kept,
makes the FILLED slots VOID, and is otherwise a timebase step of that size; the servo is not reached. R113: every waiting
pulse of every output is then skipped and counted. Before it, the command does nothing (log entry 4). -/
def Obligations.SecondsWrapStepsBack : Prop :=
  ∀ s : State, s.resetPin = false →
    let x := s.tb.ns * 4294967296 + s.tb.frac + s.rateWord
    let t := s.tb.seconds * 1000000000 + x / 4294967296
    (s.tb.seconds + x / 4294967296 / 1000000000 < 281474976710656 → exec .timebaseSecondsWrap s = .next s)
    ∧ (281474976710656 ≤ s.tb.seconds + x / 4294967296 / 1000000000 →
      ∃ s' : State, exec .timebaseSecondsWrap s = .next s'
        ∧ s'.now = t - 281474976710656000000000 ∧ s'.tb.frac = x % 4294967296 ∧ s'.cycle = s.cycle + 1
        ∧ (∀ k : Fin 4, s'.slots[k] =
            if s.slots[k].state = .filled then { s.slots[k] with state := .void } else s.slots[k])
        ∧ (∀ o : OutNo, s'.outs[o].waiting = []
            ∧ s'.outs[o].skipped = min 65535 (s.outs[o].skipped + s.outs[o].waiting.length))
        ∧ (t < 562949953421312000000000 →
            s' = State.applyStep (-281474976710656000000000) (s.tick.mapOutputs Output.discard))
        ∧ s.sameBut [.cycle, .tb, .readings, .slots, .civil, .entries, .mgmtNotices, .outs, .chain, .stations, .attn] s')

/-! ## Management port, banks and resets (chapter 10) -/

/-- R169, R161: a whole write transaction brings its body into a free slot; over an unread result, which is lost; not over
a request that waits, when it is lost itself. Any other transaction that is no read adds one to the error count. SDO
carries FFh in both. R170: a read returns the slot's status, and the length, body and check of a result, FFh beyond them;
the result leaves the slot when all of it was clocked out, unless a completion has replaced it since the read began, when
the read returns the old result whole and the new one stays, a loss counted. R178: the octets of a result are its code,
tag, status code and fields. A read as one command is its beginning and its end; a write ends a read in progress, an empty
transaction is an error, and 52h through SPI_WRITE is a read: log entry 18. In those octets the forms of an absent label,
an absent name and a motion are log entry 12, the places and widths of the fields behind an action and of tB and tn log
entry 13, and the fields of a CLAMPED result log entry 47: the model's choices, read from the layouts by inference; of a
tn past 2^48 s, log entry 65, nothing is said but that it has six octets. Said of a slot with no completion result waiting
(log entry 20). -/
def Obligations.SpiTransactionsMoveTheSlot : Prop :=
  (∀ s : State, s.resetPin = false →
    let p := s.port
    let lost := min 65535 (p.losses + 1)
    (∀ body : List Byte, 1 ≤ body.length → body.length ≤ 512 →
      let head := leOctets 2 body.length ++ body
      let p1 : Port := { p with reading := none, sdo := List.replicate (body.length + 4) 0xFF#8 }
      exec (.spiWrite (0x57#8 :: (head ++ spiCheck head))) s = .next (match p.slot with
        | .empty => { s with port := { p1 with slot := .request body, pendingShown := false },
                             arrivals := s.arrivals ++ [.mgmt] }
        | .result _ => { s with port := { p1 with slot := .request body, pendingShown := false, losses := lost },
                                arrivals := s.arrivals ++ [.mgmt] }
        | .request _ => { s with port := { p1 with losses := lost } }))
    ∧ (∀ octets : List Byte, octets.head? ≠ some 0x52#8 →
      (∀ body : List Byte, 1 ≤ body.length → body.length ≤ 512 →
        let head := leOctets 2 body.length ++ body
        octets ≠ 0x57#8 :: (head ++ spiCheck head)) →
      exec (.spiWrite octets) s = .next { s with port := { p with
        reading := none, sdo := List.replicate (octets.length - 1) 0xFF#8, errors := min 65535 (p.errors + 1) } })
    ∧ (∀ rest : List Byte, exec (.spiWrite (0x52#8 :: rest)) s = exec (.spiRead (.whole rest.length)) s)
    ∧ (∀ (n : Nat) (s' : State), exec (.spiRead .start) s = .next s' →
        exec (.spiRead (.whole n)) s = exec (.spiRead (.finish n)) s')
    ∧ (∀ r, p.slot = .result r →
        exec (.spiRead .start) s
          = .next { s with port := { p with reading := some ⟨0x02#8 :: spiResult r, true⟩, sdo := [0x02#8] } })
    ∧ (∀ b, p.slot = .request b →
        exec (.spiRead .start) s = .next { s with port := { p with reading := some ⟨[0x01#8], false⟩, sdo := [0x01#8] } })
    ∧ (p.slot = .empty →
        let st : Byte := if p.pendingShown then 0x01 else 0x00
        exec (.spiRead .start) s = .next { s with port := { p with reading := some ⟨[st], false⟩, sdo := [st] } })
    ∧ (∀ (a : List Byte) (holds : Bool) (n : Nat), p.reading = some ⟨a, holds⟩ →
        let out := a.take n ++ List.replicate (n - a.length) 0xFF#8
        (holds = false ∨ n < a.length →
          exec (.spiRead (.finish n)) s = .next { s with port := { p with reading := none, sdo := out } })
        ∧ (holds = true → a.length ≤ n → p.deferred = none →
          exec (.spiRead (.finish n)) s = .next { s with port := { p with reading := none, sdo := out, slot := .empty } }))
    ∧ (p.reading = none → ∀ n : Nat, exec (.spiRead (.finish n)) s = .next s)
    ∧ ∀ (old new : Result) (a : List Byte) (holds : Bool), p.slot = .result old → p.reading = some ⟨a, holds⟩ →
        s.completeOp new = { s with port := { p with
          slot := .result new, pendingShown := false, reading := some ⟨a, false⟩, losses := lost } })
  ∧ (∀ r : Result,
    let body := r.code :: r.tag :: r.status.code :: r.body.octets
    let head := leOctets 2 body.length ++ body
    r.octets = body ∧ spiResult r = head ++ spiCheck head)
  ∧ (∀ (h : Handle) (v : StoredView),
    let handle : List Byte := [BitVec.ofNat 8 h.index, h.gen]
    let stored := leSigned 4 v.phi ++ leOctets 4 v.slew ++ [v.label.code]
    Body.octets .empty = [] ∧ (Body.handle h).octets = handle ∧ (Body.created h v).octets = handle ++ stored
    ∧ (Body.stored v).octets = stored)
  ∧ (∀ e : Nat, e < 281474976710656000000000 →
    (Body.storedEnd e).octets = leOctets 6 (e / 1000000000) ++ leOctets 4 (e % 1000000000))
  ∧ (∀ d lead : Nat, (Body.storedStream d lead).octets = leOctets 2 d ++ leOctets 4 lead)
  ∧ (∀ (hs : List Handle) (more : Bool),
    (Body.handles hs more).octets = BitVec.ofNat 8 hs.length
      :: (hs.flatMap fun h => [BitVec.ofNat 8 h.index, h.gen]) ++ [if more then 1 else 0])
  ∧ (∀ (items : List (Handle × EntryState)) (more : Bool),
    (Body.notices items more).octets = BitVec.ofNat 8 items.length
      :: (items.flatMap fun x => [BitVec.ofNat 8 x.1.index, x.1.gen, x.2.code]) ++ [if more then 1 else 0])
  ∧ (∀ (hs : List Handle) (skipped : List Nat),
    (Body.loaded hs skipped).octets = BitVec.ofNat 8 hs.length
      :: (hs.flatMap fun h => [BitVec.ofNat 8 h.index, h.gen]) ++ BitVec.ofNat 8 skipped.length
      :: skipped.map (BitVec.ofNat 8))
  ∧ (∀ (i : Idx) (e : Entry), (∀ x, e.endAt = some x → x < 281474976710656000000000) →
    (Body.entry i e).octets =
      [BitVec.ofNat 8 i.val, e.gen, e.state.code] ++ (if e.state = .ending then [1, e.motion.toState.code] else [0])
      ++ [BitVec.ofNat 8 e.owner.number] ++ (match e.name with | some cs => BitVec.ofNat 8 cs.length :: cs | none => [0])
      ++ leOctets 4 e.num ++ leOctets 2 e.den ++ leOctets 4 e.pf ++ leSigned 4 e.phi ++ leSigned 8 e.eps ++ [e.policy.code]
      ++ leOctets 4 e.slew ++ [e.label.code]
      ++ (if e.motion = .pending then (match e.ks with | some k => 1 :: leOctets 8 k | none => [0]) else [0])
      ++ (match e.kl with | some k => 1 :: leOctets 8 k | none => [0])
      ++ (match e.endAt with | some x => 1 :: leOctets 6 (x / 1000000000) ++ leOctets 4 (x % 1000000000) | none => [0])
      ++ BitVec.ofNat 8 e.watchers.length :: e.watchers.map (fun x => BitVec.ofNat 8 (x.val + 1))
      ++ [if e.mgmtWatch then 1 else 0, BitVec.ofNat 8 e.realigns])
  ∧ (∀ v : NextView, 0 ≤ v.instant → v.instant < 281474976710656000000000 →
    (Body.next v).octets =
      [BitVec.ofNat 8 v.handle.index, v.handle.gen, v.state.code]
      ++ (if v.state = .ending then [1, v.motion.toState.code] else [0]) ++ leOctets 8 v.index
      ++ leOctets 6 (v.instant.toNat / 1000000000) ++ leOctets 4 (v.instant.toNat % 1000000000)
      ++ (match v.label with
          | some l => [BitVec.ofNat 8 l.hh, BitVec.ofNat 8 l.mm, BitVec.ofNat 8 l.ss,
                       BitVec.ofNat 8 l.ff ||| (if l.drop then 0x80 else 0)]
          | none => [0xFF, 0xFF, 0xFF, 0xFF])
      ++ [if v.afterEnd then 1 else 0])
  ∧ (∀ q : BitVec 8, (Body.seq q).octets = [q])
  ∧ (∀ v : SampleView, v.captured < 281474976710656000000000 → -(9223372036854775808 : Int) ≤ v.offset →
    v.offset ≤ 9223372036854775807 →
    (Body.sample v).octets = v.seq :: leOctets 6 (v.captured / 1000000000) ++ leOctets 4 (v.captured % 1000000000)
      ++ leSigned 8 v.offset ++ [if v.stepped then 1 else 0, v.servo.code, BitVec.ofNat 8 v.cls])
  ∧ (∀ (p : ServoParams) (st : ServoState) (cls : Nat), (Body.servo p st cls).octets =
    leOctets 4 p.sth ++ leOctets 4 p.lockWin ++ leOctets 1 p.lockCount ++ leOctets 4 p.unlockWin ++ leOctets 1 p.persist
    ++ leOctets 2 p.kp ++ leOctets 2 p.ki ++ leOctets 4 p.limit ++ leOctets 1 p.timeout ++ leOctets 4 p.ageLimit
    ++ leOctets 1 p.minGrade ++ leOctets 4 p.slewRange ++ [st.code, BitVec.ofNat 8 cls])
  ∧ (∀ v : CivilView, ∃ tn : List Byte, tn.length = 6 ∧ (v.tn < 281474976710656 → tn = leOctets 6 v.tn)
    ∧ (Body.civil v).octets =
      leSigned 4 v.offset ++ leOctets 4 v.jam
      ++ (match v.pending with | some (o, eo) => 1 :: leSigned 4 o ++ leOctets 6 eo | none => [0])
      ++ leOctets 6 v.tB ++ tn)
  ∧ (∀ (o : OutNo) (st : OutputState) (r : Output), (Body.output o st r).octets =
    [BitVec.ofNat 8 o.val, st.code, if r.enabled then 1 else 0]
    ++ (match r.binding with | some b => [1, BitVec.ofNat 8 b.index.val, b.gen] | none => [0]) ++ leOctets 2 r.divider
    ++ leOctets 6 r.delay ++ leOctets 6 r.width ++ [r.polarity.code]
    ++ (match r.pendingPol with | some p => [1, p.code] | none => [0]) ++ leOctets 1 r.waiting.length
    ++ leOctets 2 r.skipped)
  ∧ (∀ v : ChainView, (Body.chain v).octets =
    [v.state.code, BitVec.ofNat 8 v.timeout] ++ leOctets 2 v.orphan
    ++ [if v.autoRelease then 1 else 0, BitVec.ofNat 8 v.counts.absent, BitVec.ofNat 8 v.counts.joining,
        BitVec.ofNat 8 v.counts.present, BitVec.ofNat 8 v.counts.silent, BitVec.ofNat 8 v.counts.conflict])
  ∧ (∀ ok : Bool, (Body.resetDone ok).octets = [if ok then 1 else 0])
  ∧ (∀ v : StatusView, (∀ x, v.lastOffset = some x → -(9223372036854775808 : Int) ≤ x ∧ x ≤ 9223372036854775807) →
    (Body.status v).octets =
    [v.causes.toByte, v.mask.toByte, v.mode.code, v.servo.code] ++ leSigned 4 v.correction ++ leSigned 4 v.integral
    ++ [BitVec.ofNat 8 v.cls] ++ leOctets 4 v.ageSeconds
    ++ (match v.lastOffset with | some x => 1 :: leSigned 8 x | none => [0])
    ++ [BitVec.ofNat 8 v.good, BitVec.ofNat 8 v.outliers] ++ leOctets 2 v.counters.accepted ++ leOctets 2 v.counters.ignored
    ++ leOctets 2 v.counters.outliers ++ leOctets 2 v.counters.steps ++ leOctets 2 v.counters.glitches ++ [v.chain.code]
    ++ leOctets 2 v.line.short ++ leOctets 2 v.line.format ++ leOctets 2 v.line.check ++ leOctets 2 v.line.abort
    ++ leOctets 2 v.line.broken ++ leOctets 2 v.line.unexpected ++ leOctets 2 v.line.rangeRejected
    ++ leOctets 2 v.line.lateReport
    ++ [BitVec.ofNat 8 v.counts.absent, BitVec.ofNat 8 v.counts.joining, BitVec.ofNat 8 v.counts.present,
        BitVec.ofNat 8 v.counts.silent, BitVec.ofNat 8 v.counts.conflict]
    ++ leOctets 2 v.errors ++ leOctets 2 v.losses
    ++ (match v.op with | some (k, b) => [1, k.code, BitVec.ofNat 8 b.val] | none => [0])
    ++ [BitVec.ofNat 8 v.startBank.val, if v.startOk then 1 else 0])
  ∧ ∀ v : StationView,
    let instant (x : Int) : List Byte := leOctets 6 (x.toNat / 1000000000) ++ leOctets 4 (x.toNat % 1000000000)
    let opt (x : Option Nat) : List Byte := match x with | some t => 1 :: instant t | none => [0]
    (∀ x, v.lastRange = some x ∨ v.dueSince = some x ∨ v.silentSince = some x ∨ v.conflictSince = some x →
      x < 281474976710656000000000) →
    (∀ st x, v.stream = some st → st.s0 = some x → 0 ≤ x ∧ x < 281474976710656000000000) →
    (Body.station v).octets =
      [BitVec.ofNat 8 v.address, v.state.code]
      ++ (match v.delta with | some d => 1 :: leOctets 4 d | none => [0])
      ++ (match v.trip with | some q => 1 :: leOctets 4 q | none => [0]) ++ opt v.lastRange
      ++ [if v.rangeDue then 1 else 0] ++ opt v.dueSince ++ [BitVec.ofNat 8 v.missed, BitVec.ofNat 8 v.garbled]
      ++ opt v.silentSince ++ opt v.conflictSince ++ [v.slot.code, if v.owed then 1 else 0]
      ++ (match v.stream with
          | some st => [1, BitVec.ofNat 8 st.entry.index.val, st.entry.gen] ++ leOctets 2 st.step ++ leOctets 4 st.lead
              ++ [st.state.code] ++ (match st.kr with | some k => 1 :: leOctets 8 k | none => [0])
              ++ (match st.s0 with | some x => 1 :: instant x | none => [0])
              ++ (match st.last with | some k => 1 :: leOctets 8 k | none => [0]) ++ [BitVec.ofNat 8 st.skipped]
          | none => [0])
      ++ [BitVec.ofNat 8 v.owned] ++ BitVec.ofNat 8 v.watchList.length :: v.watchList.map (fun i => BitVec.ofNat 8 i.val)
      ++ [BitVec.ofNat 8 v.noticeCount]

/-- R172: STATUS sets the attention mask and mode when it is asked to, answers the figures as they then stand, and with
its clear flag takes every cause but ENTRIES out of the set and makes the counters 0; an unknown action or mode is
BAD_FIELD, and nothing changes. That bits 5 to 7 of a mask octet are dropped is log entry 10. -/
def Obligations.StatusReadsAndClears : Prop :=
  ∀ (s : State) (t : Tag) (clear : Bool) (act : AttnAction), s.standsNext .mgmt t (.status clear act) →
    ((∃ c, act = .other c) ∨ (∃ m c, act = .set m c ∧ 1 < c) →
      exec (.status .mgmt t clear act) s = .next (s.reply .mgmt t (.status clear act) .badField .empty))
    ∧ ∀ (mode : AttnMode) (mask : CauseSet),
      (act = .keep ∧ mode = s.attn.mode ∧ mask = s.attn.mask
        ∨ ∃ m c, act = .set m c ∧ attnModeOf c = some mode ∧ mask = CauseSet.ofByte m) →
      let view : StatusView :=
        { causes := s.attn.causes, mask := mask, mode := mode, servo := s.servo.state, correction := s.servo.correction,
          integral := s.servo.integral, cls := s.quality, ageSeconds := s.ageSeconds, lastOffset := s.servo.lastOffset,
          good := s.servo.good, outliers := s.servo.outliers, counters := s.servo.counters, chain := s.chain.state,
          line := s.chain.line, counts := s.stationCounts, errors := s.port.errors, losses := s.port.losses,
          op := s.store.op.map fun x => (x.kind, x.bank), startBank := s.store.startBank, startOk := s.store.startOk }
      let s1 : State := { s with attn := { s.attn with
        mode := mode, mask := mask, pulse := if mode = s.attn.mode then s.attn.pulse else none } }
      exec (.status .mgmt t clear act) s = .next (State.reply (
        if clear then { s1 with
          attn := { s1.attn with causes := ⟨false, false, false, s.attn.causes.entries, false⟩ }
          servo := { s.servo with counters := ⟨0, 0, 0, 0, 0⟩ }
          chain := { s.chain with line := ⟨0, 0, 0, 0, 0, 0, 0, 0⟩ }
          port := { s.port with errors := 0, losses := 0 } }
        else s1) .mgmt t (.status clear act) .ok (.status view))

/-- R173, R174, R175, R177, R161: a SAVE takes its snapshot and the bank loses its content, a LOAD and a RESET begin their
read; the request leaves the slot, which shows the operation as pending. With an operation in progress each is BUSY, with
a bank above 3 SAVE and LOAD are BAD_FIELD, and nothing changes. An accepted RESET is the soft reset: every entry VACANT
with no notice (R29), every station ABSENT with its record cleared and the chain HELD (R132), the service cycle back at
its beginning (R139), every output unbound, its waiting pulses counted (R119), and the pending civil change and the leap
instant gone (R71), while the timebase, the servo and the counters stay. That the flag of a passed start bank is clear
from then on is log entry 28, and that tn is computed again log entry 39. Said of a slot with no completion result waiting
(log entry 20). -/
def Obligations.StoreRequestsBegin : Prop :=
  ∀ (s : State) (t : Tag),
    let shown : Port := { s.port with slot := .empty, pendingShown := true }
    (∀ r : Req, (∃ b, b ≤ 3 ∧ (r = .save b ∨ r = .load b)) ∨ r = .reset → s.standsNext .mgmt t r → s.store.op ≠ none →
      exec (r.toInstr .mgmt t) s = .next (s.reply .mgmt t r .busy .empty))
    ∧ (∀ b : Nat, 3 < b →
      (s.standsNext .mgmt t (.save b) → exec (.save .mgmt t b) s = .next (s.reply .mgmt t (.save b) .badField .empty))
      ∧ (s.standsNext .mgmt t (.load b) → exec (.load .mgmt t b) s = .next (s.reply .mgmt t (.load b) .badField .empty)))
    ∧ (s.store.op = none → s.port.deferred = none →
      (∀ b : Fin 4, s.standsNext .mgmt t (.save b.val) →
        ∃ s' : State, exec (.save .mgmt t b.val) s = .next s'
          ∧ s'.port = shown ∧ s'.arrivals = s.arrivals.erase .mgmt
          ∧ s'.store = { s.store with op := some ⟨.save, b, some t, s.bankContent.bank⟩, banks := s.store.banks.set b [] }
          ∧ s.sameBut [.store, .port, .arrivals] s')
      ∧ (∀ b : Fin 4, s.standsNext .mgmt t (.load b.val) →
        ∃ s' : State, exec (.load .mgmt t b.val) s = .next s'
          ∧ s'.port = shown ∧ s'.arrivals = s.arrivals.erase .mgmt
          ∧ s'.store = { s.store with op := some ⟨.load, b, some t, []⟩ }
          ∧ s.sameBut [.store, .port, .arrivals] s')
      ∧ (s.standsNext .mgmt t .reset →
        ∃ s' : State, exec (.reset .mgmt t) s = .next s' ∧ s'.port = shown
          ∧ s'.store = { s.store with op := some ⟨.startBank, s.store.startBank, some t, []⟩, startOk := false }
          ∧ (∀ i : Idx, s'.entries[i] =
              if s.entries[i].state = .vacant then s.entries[i] else Entry.vacantAt (s.entries[i].gen + 1))
          ∧ s'.mgmtNotices = [] ∧ s'.attn.causes.entries = false
          ∧ (∀ x : Addr, s'.stations[x].state = .absent ∧ s'.stations[x].owned = 0 ∧ s'.stations[x].watchList = []
              ∧ s'.stations[x].notices = [] ∧ (s.stations[x].state ≠ .absent → s'.stations[x] = Station.cleared))
          ∧ s'.chain.state = .held ∧ s'.chain.line = s.chain.line ∧ s'.chain.pointer = 30 ∧ s'.chain.cursor = 0
          ∧ s'.chain.silenceStart = s.chain.silenceStart ∧ s'.chain.liveStart = s.chain.liveStart
          ∧ (s.chain.state ≠ .held → s'.shows .chain)
          ∧ (∀ o : OutNo, s'.outs[o] = { s.outs[o] with
              binding := none, waiting := [], skipped := min 65535 (s.outs[o].skipped + s.outs[o].waiting.length) })
          ∧ s'.civil.pending = none ∧ s'.civil.tL = none ∧ s'.civil.offset = s.civil.offset
          ∧ s'.civil.jam = s.civil.jam ∧ s'.attn.mask = s.attn.mask ∧ s'.attn.mode = s.attn.mode
          ∧ s.sameBut [.entries, .mgmtNotices, .attn, .stations, .chain, .outs, .civil, .store, .port, .arrivals] s'))

/-- R174, R161, R170: a SAVE whose bank reads back as its snapshot is OK; otherwise it is STORE_FAULT, and the bank fails
its check. Either way the operation ends, STORE is raised and the result enters a free slot, or replaces an unread result,
which is lost (log entry 20 for a slot that holds a request); a read of that result that is in progress goes on and will
deliver nothing. The other banks stay. -/
def Obligations.SaveVerifies : Prop :=
  ∀ (s : State) (b : Fin 4) (t : Tag) (snapshot stored : List Word32), s.resetPin = false →
    s.store.op = some ⟨.save, b, some t, snapshot⟩ →
    ∃ s' : State, exec (.saveCompletion stored) s = .next s'
      ∧ s'.store.op = none ∧ s'.shows .store
      ∧ (stored = snapshot → s'.store.banks[b] = snapshot) ∧ (stored ≠ snapshot → bankPasses s'.store.banks[b] = false)
      ∧ (∀ c : Fin 4, c ≠ b → s'.store.banks[c] = s.store.banks[c])
      ∧ s.deliversTo s' ⟨0x25#8, t, if stored = snapshot then .ok else .storeFault, .empty⟩
      ∧ s.sameBut [.store, .attn, .port] s'

/-- R175, R120, R30, R161: a LOAD whose bank fails its check is STORE_FAULT and changes no other record. One whose bank
passes takes its attention, servo, civil and chain settings, retires the owner-0 entries, creates the bank's in the lowest
entries that are then VACANT, sets the outputs and binds them by position; a definition is skipped when no entry remains
for it or its name is held (log entry 29); station-owned entries stay, but those of a station that the bank's orphan time
takes off. R72: a new O or J drops the leap instant and re-bases at the completion, the labelled entries that stay among
those re-based; where both are equal the bases stand. R102: I and C are brought within the new limit, and a holdover timer
that has counted the new timeout expires. R41, R156: a slew wider than the new slew range is HELD, and the streams on that
entry are computed again. Of the stations that the orphan time takes off: none where it equals the one in force, which is
log entry 48, the model's choice. A bank passes by log entry 30, its values are brought into range by log entry 41, and an
output whose record names no definition is unbound by log entry 31, the model's choices too. The result lists a handle for
each entry created and a position for each skipped, PARTIAL when any was. Either way the operation ends, STORE is raised
and the result enters a free slot, or replaces an unread result, which is lost, or waits for a request (log entry 20). A
pulse in progress stays (log entry 21). -/
def Obligations.LoadAppliesBank : Prop :=
  ∀ (s : State) (b : Fin 4) (t : Tag) (ws0 : List Word32), s.resetPin = false →
    s.store.op = some ⟨.load, b, some t, ws0⟩ →
    let ws := s.store.banks[b]
    let c := readBank ws
    let answered (r : Result) (s' : State) : Prop :=
      s'.store = { s.store with op := none } ∧ s'.shows .store ∧ s.deliversTo s' r
    (bankPasses ws = false →
      ∃ s' : State, exec .loadCompletion s = .next s' ∧ answered ⟨0x26#8, t, .storeFault, .empty⟩ s'
        ∧ s.sameBut [.store, .attn, .port] s')
    ∧ (bankPasses ws = true →
      ∃ (s' : State) (made : List (Option EntryRef)), exec .loadCompletion s = .next s'
        ∧ (let hs : List Handle := (made.filterMap id).map fun r => ⟨r.index.val, r.gen⟩
           let skipped := (List.range made.length).filter fun k => made[k]? = some none
           answered ⟨0x26#8, t, if skipped = [] then .ok else .partially, .loaded hs skipped⟩ s')
        ∧ s.tookSettings c false s' ∧ s'.chain.state = s.chain.state
        ∧ s.madeFrom false c made s' ∧ s.keptEntries false c s' ∧ (∀ o : OutNo, s.outputTook c made s' o)
        ∧ s.sameBut [.servo, .civil, .chain, .attn, .outs, .entries, .stations, .mgmtNotices, .arrivals, .store, .port] s')

/-- R176, R177, R132, R104, R118 to R120, R30: at the completion of the start bank load a bank that passes is applied, its
settings, entries, outputs and bindings as at a LOAD; after a hard reset one that fails leaves the built-in defaults in
every block, every output disabled and unbound, overtaking what requests set during the read (log entry 27), and raises
STORE, and no result enters the slot; after a soft RESET the built-in defaults are applied in its place (log entry 26),
STORE is raised and the RESET result, OK, says whether the bank passed; it enters a free slot, or replaces an unread
result, which is lost, or waits for a request (log entry 20). R71: the labels re-base at the completion whether or not O
or J changed. R102: the servo takes the parameters as at a LOAD. A HELD chain whose loaded auto-release flag is set is
released. After a bank that fails no entry stands (R28); after one that passes, the owner-0 entries retire (R30, step 5 of
R175), and a station's made during the read stays, although R54 has the load leave every entry VACANT (log entry 54, the
model's choice). That no station goes where the orphan time equals the one in force is log entry 48, that a pulse in
progress stays log entry 21, that a definition is skipped for a name made before it in the list log entry 29, and the
check and the ranges of a bank's words log entries 30, 31 and 41: the model's choices. -/
def Obligations.StartBankLoads : Prop :=
  ∀ (s : State) (b : Fin 4) (tag : Option Tag) (ws0 : List Word32), s.resetPin = false →
    s.store.op = some ⟨.startBank, b, tag, ws0⟩ →
    let ws := s.store.banks[b]
    let ok := bankPasses ws
    let c := if ok then readBank ws else BankContent.builtIn
    let all := !ok
    let live : Prop := ∃ a d, s.chain.liveStart = some a ∧ s.chain.lastDelim = some d ∧ s.cycle - d ≤ 12500
      ∧ 125000 ≤ s.cycle - a
    let loaded (s' : State) : Prop :=
      s.tookSettings c true s' ∧ s'.store = { s.store with op := none, startOk := ok } ∧ s.keptEntries all c s'
      ∧ s.sameBut [.servo, .civil, .chain, .attn, .outs, .entries, .stations, .mgmtNotices, .arrivals, .store, .port] s'
      ∧ (s.chain.state = .held → c.autoRelease = true →
          (live → s'.chain.state = .running) ∧ (¬live → s'.chain.state = .broken))
      ∧ (s.chain.state ≠ .held ∨ c.autoRelease = false → s'.chain.state = s.chain.state)
    (tag = none → ok = true →
      ∃ (s' : State) (made : List (Option EntryRef)), exec .startBankLoadCompletion s = .next s' ∧ loaded s'
        ∧ s.madeFrom all c made s' ∧ (∀ o : OutNo, s.outputTook c made s' o) ∧ s'.port = s.port)
    ∧ (tag = none → ok = false →
      ∃ s' : State, exec .startBankLoadCompletion s = .next s' ∧ loaded s' ∧ s.madeFrom all c [] s'
        ∧ (∀ o : OutNo, s'.outs[o] = ⟨false, none, 1, 0, 1000, .activeHigh, none, [], none, none, 0⟩)
        ∧ s'.shows .store ∧ s'.port = s.port)
    ∧ (∀ t, tag = some t →
      ∃ (s' : State) (made : List (Option EntryRef)), exec .startBankLoadCompletion s = .next s' ∧ loaded s'
        ∧ s.madeFrom all c made s' ∧ (∀ o : OutNo, s.outputTook c made s' o) ∧ s'.shows .store
        ∧ s.deliversTo s' ⟨0x27#8, t, .ok, .resetDone ok⟩)

/-- R28, R71, R86, R104, R118, R123, R132, R139, R170, R171, R176: while RESET is asserted every block holds its hard
reset values and the banks keep their content; at the release the straps name the start bank and its read begins, and
every other record stays as it was. CTX is at 1 while RESET is asserted. A release of a pin already released does nothing
(log entry 4). -/
def Obligations.HardResetSetsDefaults : Prop :=
  ∀ (s : State) (b : Fin 4),
    (∃ s' : State, exec .hardReset s = .next s' ∧ s'.resetPin = true
      ∧ s'.tb = ⟨0, 0, 0⟩ ∧ s'.latest = none ∧ s'.lastEdge = none ∧ (∀ k : Fin 4, s'.slots[k].state = .empty)
      ∧ s'.servo.state = .free ∧ s'.servo.integral = 0 ∧ s'.servo.correction = 0 ∧ s'.servo.good = 0
      ∧ s'.servo.outliers = 0 ∧ s'.servo.timer = none ∧ s'.servo.ageStart = none ∧ s'.servo.lastOffset = none ∧ s'.servo.counters = ⟨0, 0, 0, 0, 0⟩
      ∧ s'.servo.params = ⟨100000, 1000, 4, 20000, 3, 2200, 550, 3435974, 3, 14400, 6, 1000000⟩ ∧ s'.quality = 4
      ∧ s'.civil.offset = 0 ∧ s'.civil.jam = 0 ∧ s'.civil.pending = none ∧ s'.civil.tB = 0 ∧ s'.civil.tL = none
      ∧ s'.civil.tn = 86400
      ∧ (∀ i : Idx, s'.entries[i].state = .vacant ∧ s'.entries[i].gen = 0) ∧ s'.mgmtNotices = []
      ∧ (∀ o : OutNo, s'.outs[o] = ⟨false, none, 1, 0, 1000, .activeHigh, none, [], none, none, 0⟩)
      ∧ s'.chain.state = .held ∧ s'.chain.timeout = 20 ∧ s'.chain.orphan = 30 ∧ s'.chain.autoRelease = false
      ∧ s'.chain.line = ⟨0, 0, 0, 0, 0, 0, 0, 0⟩ ∧ s'.chain.step = .polls ∧ s'.chain.cursor = 0 ∧ s'.chain.pointer = 30
      ∧ s'.chain.liveStart = none ∧ s'.chain.svc = none ∧ s'.chain.tx = none
      ∧ (∀ x : Addr, s'.stations[x] = Station.cleared)
      ∧ s'.port.slot = .empty ∧ s'.port.pendingShown = false ∧ s'.port.errors = 0 ∧ s'.port.losses = 0
      ∧ s'.attn = ⟨⟨false, false, false, false, false⟩, ⟨true, true, true, true, true⟩, .level, none⟩
      ∧ s'.attnAsserted = false ∧ s'.store.op = none ∧ s'.store.startOk = false ∧ s'.store.banks = s.store.banks ∧ s'.arrivals = []
      ∧ s'.inhibit = s.inhibit ∧ s'.pending = s.pending
      ∧ s'.ctxHigh = true ∧ ∀ o : OutNo, s'.pinHigh o = false)
    ∧ (s.resetPin = true → exec (.resetRelease b) s = .next { s with
        resetPin := false
        chain := { s.chain with silenceStart := s.cycle, lineBase := s.cycle }
        store := { s.store with op := some ⟨.startBank, b, none, []⟩, startBank := b } })
    ∧ (s.resetPin = false → exec (.resetRelease b) s = .next s)

/-! ## The chain (chapters 7 and 8) -/

/-- R130, R131: CHAIN takes its settings clamped; a new orphan time makes ABSENT at once the SILENT stations whose timers
have reached it; KEEP leaves the chain state, RELEASE takes a HELD chain to RUNNING when a live run of 125,000 cycles is
in progress and to BROKEN otherwise, and leaves any other; an unknown action is BAD_FIELD. That an orphan time equal to
the one in force is not compared is log entry 48. R138: the counts of stations sum to 30. -/
def Obligations.ChainTakesSettingsAndReleases : Prop :=
  ∀ (s : State) (t : Tag) (q : ChainReq),
    let wait := (q.timeout.map (clampNat 2 200)).getD s.chain.timeout
    let orphan := (q.orphan.map (clampNat 1 600)).getD s.chain.orphan
    let auto := q.autoRelease.getD s.chain.autoRelease
    let st : Status := if (∀ x, q.timeout = some x → wait = x) ∧ (∀ x, q.orphan = some x → orphan = x) then .ok else .clamped
    let took (s' : State) : Prop :=
      s'.chain.timeout = wait ∧ s'.chain.orphan = orphan ∧ s'.chain.autoRelease = auto
      ∧ (∀ x : Addr,
          let late : Prop := s.stations[x].state = .silent ∧ orphan ≠ s.chain.orphan
            ∧ ∃ c, s.stations[x].orphanStart = some c ∧ orphan * 125000000 ≤ s.cycle - c
          (late → s'.stations[x].state = .absent) ∧ (¬late → s'.stations[x].state = s.stations[x].state))
      ∧ s.sameBut [.chain, .stations, .entries, .outs, .mgmtNotices, .attn, .arrivals] s'
    (∀ c, s.standsNext .mgmt t (.chain (.other c) q) →
      exec (.chain .mgmt t (.other c) q) s = .next (s.reply .mgmt t (.chain (.other c) q) .badField .empty))
    ∧ (s.standsNext .mgmt t (.chain .keep q) →
      ∃ s' : State, exec (.chain .mgmt t .keep q) s = .next (s'.reply .mgmt t (.chain .keep q) st
          (.chain ⟨s.chain.state, wait, orphan, auto, s'.stationCounts⟩))
        ∧ took s' ∧ s'.chain.state = s.chain.state)
    ∧ (s.standsNext .mgmt t (.chainRelease q) →
      ∃ s' : State, exec (.chainRelease .mgmt t q) s = .next (s'.reply .mgmt t (.chainRelease q) st
          (.chain ⟨s'.chain.state, wait, orphan, auto, s'.stationCounts⟩))
        ∧ took s' ∧ (s.chain.state ≠ .held → s'.chain.state = s.chain.state)
        ∧ (s.chain.state = .held →
            let live : Prop := ∃ a d, s.chain.liveStart = some a ∧ s.chain.lastDelim = some d ∧ s.cycle - d ≤ 12500
              ∧ 125000 ≤ s.cycle - a
            s'.shows .chain ∧ (live → s'.chain.state = .running) ∧ (¬live → s'.chain.state = .broken)))
    ∧ (let n := s.stationCounts
       n.absent + n.joining + n.present + n.silent + n.conflict = 30)

/-- R130, R131, R136, R139, R21: CHAIN with HOLD takes its settings clamped, CLAMPED when one was moved, and answers them
with the chain state and the counts. It takes a RUNNING or BROKEN chain to HELD, with nothing outstanding and the service
cycle back at its beginning: every station becomes ABSENT, its record cleared, and its entries retire; the entries of the
management owner stay. In HELD nothing but the settings changes, and a SILENT station whose timer has reached a new orphan
time becomes ABSENT; that an orphan time equal to the one in force is not compared is log entry 48, the model's choice. -/
def Obligations.HoldTakesStationsOff : Prop :=
  ∀ (s : State) (t : Tag) (q : ChainReq), s.ownedInv → s.watchInv → s.standsNext .mgmt t (.chainHold q) →
    let wait := (q.timeout.map (clampNat 2 200)).getD s.chain.timeout
    let orphan := (q.orphan.map (clampNat 1 600)).getD s.chain.orphan
    let auto := q.autoRelease.getD s.chain.autoRelease
    let st : Status := if (∀ x, q.timeout = some x → wait = x) ∧ (∀ x, q.orphan = some x → orphan = x) then .ok else .clamped
    ∃ s' : State,
      exec (.chainHold .mgmt t q) s = .next (s'.reply .mgmt t (.chainHold q) st
        (.chain ⟨.held, wait, orphan, auto, s'.stationCounts⟩))
      ∧ s'.chain.state = .held ∧ s'.chain.timeout = wait ∧ s'.chain.orphan = orphan ∧ s'.chain.autoRelease = auto
      ∧ (s.chain.state = .held →
          ((∀ x : Addr, ¬s.orphanedBy orphan x) →
            s' = { s with chain := { s.chain with timeout := wait, orphan := orphan, autoRelease := auto } })
          ∧ (∀ x : Addr, s.orphanedBy orphan x → s'.stations[x] = Station.cleared ∧ s'.shows .stations)
          ∧ (∀ x : Addr, ¬s.orphanedBy orphan x → s'.stations[x].state = s.stations[x].state)
          ∧ s'.chain.step = s.chain.step ∧ s'.chain.cursor = s.chain.cursor ∧ s'.chain.pointer = s.chain.pointer
          ∧ s'.chain.line = s.chain.line ∧ (s'.shows .chain ↔ s.shows .chain))
      ∧ (s.chain.state ≠ .held →
          s'.chain.svc = none ∧ s'.chain.tx = none ∧ s'.chain.step = .polls ∧ s'.chain.cursor = 0 ∧ s'.chain.pointer = 30
          ∧ s'.shows .chain
          ∧ (∀ x : Addr, s'.stations[x].state = .absent
              ∧ (s.stations[x].state ≠ .absent → s'.stations[x] = Station.cleared ∧ s'.shows .stations))
          ∧ (∀ i : Idx, s.entries[i].state ≠ .vacant →
              (∀ x : Addr, s.entries[i].owner = .station x → s.stations[x].state ≠ .absent →
                s'.entries[i] = Entry.vacantAt (s.entries[i].gen + 1))
              ∧ (s.entries[i].owner = .mgmt → s'.entries[i] = { s.entries[i] with watchers := s'.entries[i].watchers })))
      ∧ s.sameBut [.chain, .stations, .entries, .outs, .mgmtNotices, .attn, .arrivals] s'

/-- R139 to R141, R146, R147, R157, R122, R123: the addressee of the next service frame is chosen when nothing is
outstanding (log entry 36): the first polled station from the cursor up, then the first ABSENT address above the pointer,
then the station whose range has been due the longest, the lower address first, a step with no addressee passed over. At a
delimiter boundary with the line free a RUNNING chain forms the frame when it will end at least 1,000 ns before every
scheduled start of a report, and waits otherwise; the addressee is judged again then, and when it no longer qualifies
nothing is sent and the position moves on. The frame stands on CTX bit by bit from then on. R179, R180: a POLL carries the
slot, the refusal owed, the notice flag, the class and the lowest segment not yet delivered. -/
def Obligations.ServiceFramesYieldToReports : Prop :=
  (∀ (s : State) (x : Addr), s.resetPin = false → s.chain.chosen = some x →
    let r := s.stations[x]
    let c := s.chain
    let kind : FrameKind := match c.step with | .polls => .poll | .discover => .discover | .range => .range
    let cmd : Instr := match c.step with | .polls => .pollSend | .discover => .discoverSend | .range => .rangeSend
    let polled : Prop := r.state = .joining ∨ r.state = .present ∨ r.state = .silent
    let qualifies : Prop := match c.step with
      | .polls => polled
      | .discover => r.state = .absent
      | .range => (r.state = .joining ∨ r.state = .present) ∧ r.rangeDue = true
    let segment (res : Result) : List Byte := (res.octets.drop (45 * r.segment)).take 45
    let final (res : Result) : Bool := decide (res.octets.length ≤ 45 * r.segment + 45)
    let head (slot : Nat) : Byte := BitVec.ofNat 8
      (slot + (if r.owed = none then 0 else 4) + (if r.notices = [] then 0 else 8) + 16 * s.quality)
    let body : List Byte := match c.step with
      | .polls => match r.slot with
        | .empty => [head 0, r.owed.getD 0, 0]
        | .request _ => [head 1, r.owed.getD 0, 0]
        | .result res =>
          head 2 :: r.owed.getD 0 :: BitVec.ofNat 8 (r.segment % 64 + if final res then 128 else 0) :: segment res
      | _ => []
    let line := lineOf (BitVec.ofNat 8 (x.val + 1)) kind.code body
    let bits := line.length
    let behind : Chain := match c.step with
      | .polls => { c with cursor := x.val + 1, chosen := none }
      | .discover => { c with step := .range, cursor := 0, chosen := none }
      | .range => { c with step := .polls, cursor := 0, chosen := none }
    (c.state = .running → c.svc = none → c.tx = none → c.lineBase ≤ s.cycle → (s.cycle - c.lineBase) % 50 = 0 →
      ((∀ (y : Addr) (s0 : Int), s.holdsReport y = some s0 → (s.now + 40 * bits : Nat) + 1000 ≤ s0 - 360) →
        (qualifies →
          ∃ s' : State, exec cmd s = .next s'
            ∧ s'.chain = { behind with
                pointer := if c.step = .discover then x.val + 1 else c.pointer
                svc := some {
                  kind := kind, addr := x, window := none
                  segment := if c.step = .polls then
                      (match r.slot with | .result res => some (r.segment, final res) | _ => none)
                    else none
                  refusal := if c.step = .polls then r.owed else none }
                tx := some { kind := kind, addr := x, body := body, startCycle := s.cycle, startTime := s.now, bits := bits,
                             mark := 0, live := false }
                reportEnd := none }
            ∧ (∀ n : Nat, n < 5 * bits → State.ctxHigh { s' with cycle := s.cycle + n } = line.getD (n / 5) false)
            ∧ s.sameBut [.chain] s')
        ∧ (¬qualifies → exec cmd s = .next (State.moveOn { s with chain := behind })))
      ∧ ((∃ (y : Addr) (s0 : Int), s.holdsReport y = some s0 ∧ s0 - 360 < (s.now + 40 * bits : Nat) + 1000) →
        exec cmd s = .next s))
    ∧ (c.state ≠ .running ∨ c.svc ≠ none ∨ c.tx ≠ none ∨ s.cycle < c.lineBase ∨ (s.cycle - c.lineBase) % 50 ≠ 0 →
        exec cmd s = .next s)
    ∧ ∀ other : Instr, other = .pollSend ∨ other = .discoverSend ∨ other = .rangeSend → other ≠ cmd →
        exec other s = .next s)
  ∧ (∀ (s : State) (cmd : Instr), s.resetPin = false → cmd = .pollSend ∨ cmd = .discoverSend ∨ cmd = .rangeSend →
    s.chain.chosen = none →
    (s.chain.state = .running → s.chain.svc = none → s.nextTurn ≠ none → exec cmd s = exec cmd s.moveOn)
    ∧ (s.chain.state ≠ .running ∨ s.chain.svc ≠ none ∨ s.nextTurn = none → exec cmd s = .next s))
  ∧ (∀ s : State,
    (∀ n, s.nextTurn = some n →
      s.moveOn = { s with chain := { s.chain with step := n.step, cursor := n.cursor, chosen := some n.addr } })
    ∧ (s.nextTurn = none → s.moveOn = { s with chain := { s.chain with step := .polls, cursor := 0, chosen := none } })
    ∧ (∀ x : Addr, s.chain.step = .polls → s.chain.cursor ≤ x.val → s.stations[x].polled = true →
        (∀ y : Addr, s.chain.cursor ≤ y.val → y < x → s.stations[y].polled = false) →
        s.nextTurn = some ⟨.poll, x, .polls, x.val⟩)
    ∧ (s.chain.step = .polls → (∀ y : Addr, s.chain.cursor ≤ y.val → s.stations[y].polled = false) →
        s.nextTurn = State.nextTurn { s with chain := { s.chain with step := .discover } })
    ∧ (∀ j : Nat, j < 30 → ∀ x : Addr, x.val = (s.chain.pointer + j) % 30 → s.chain.step = .discover →
        s.stations[x].state = .absent →
        (∀ k : Nat, k < j → ∀ y : Addr, y.val = (s.chain.pointer + k) % 30 → s.stations[y].state ≠ .absent) →
        s.nextTurn = some ⟨.discover, x, .discover, 0⟩)
    ∧ (s.chain.step = .discover → (∀ y : Addr, s.stations[y].state ≠ .absent) →
        s.nextTurn = State.nextTurn { s with chain := { s.chain with step := .range } })
    ∧ (∀ x : Addr, s.chain.step = .range → s.stations[x].rangeable = true →
        (∀ y : Addr, s.stations[y].rangeable = true → y ≠ x →
          s.stations[x].dueSince.getD 0 < s.stations[y].dueSince.getD 0
          ∨ s.stations[x].dueSince = s.stations[y].dueSince ∧ x < y) →
        s.nextTurn = some ⟨.range, x, .range, 0⟩)
    ∧ (s.chain.step = .range → (∀ y : Addr, s.stations[y].rangeable = false) →
        s.nextTurn = State.nextTurn { s with chain := { s.chain with step := .polls, cursor := 0 } }))

/-- R142: the answer window opens when the closing delimiter of a service frame departs, with the timeout then in force
(log entry 35 for one opened late), and closes when it has passed, and not before (log entry 4); the last bit of the frame
is on CTX then (R125). A delimiter that arrives in the window, the cycle of its closing among them when it is taken first,
opens a frame whose answer it is. R134, R135, R137, R143, R144, R148, R149, R155, R158: that frame settles the answer at
its closing delimiter, or at its 53rd octet (log entry 58): an ECHO to DISCOVER joins the station and a garbled one counts
toward CONFLICT; a valid answer to a POLL or RANGE clears the missed count, brings a SILENT station back with its stream,
delivers the segment (R180) and the refusal that the POLL carried, and carries in a request or a measured delay; any other
is missed, and the fourth in a row makes the station SILENT, as does an empty window; its stream, suspended, keeps its
fields (log entry 61). A valid range that makes a JOINING station PRESENT chooses kr for its stream with nothing counted
(R151, R153), and one of a PRESENT station leaves kr and S0 (R156). That a step in the very cycle of the delimiter, taken
before it, rejects the round trip is log entry 37, that an ACTIVE stream is chosen anew at a return and that kr is absent
without the delay log entry 40, that kr at a return need not lie above the mark of a report cut short log entry 68, that
an answer is settled by its frame although the window has passed log entry 34, that a frame whose opening delimiter is
taken before the window's opening in one cycle started outside it log entry 35, and that an answer of a station gone since
is UNEXPECTED log entry 42: the model's choices. R127: a frame discarded as short, FORMAT or CHECK moves its counter, and
an abort its own at the ninth 1, while it settles at the next delimiter (log entry 33). R145: a valid frame outside every
window is unexpected. -/
def Obligations.AnswersSettle : Prop :=
  ∀ (s : State) (v : Service), s.resetPin = false → s.chain.svc = some v →
    let x := v.addr
    let r := s.stations[x]
    let line := s.chain.line
    let here : Prop := r.state = .joining ∨ r.state = .present
    let misses (s' : State) : Prop :=
      (r.missed < 3 → s'.stations[x] = { r with missed := r.missed + 1 })
      ∧ (3 ≤ r.missed →
          s'.stations[x] = { r with
            missed := 4, state := .silent, silentSince := some s.now, orphanStart := some s.cycle, reRangeStart := none,
            stream := r.stream.map fun st => { st with state := .suspended, holdStart := some s.cycle } }
          ∧ s'.shows .stations)
    let garbled (s' : State) : Prop :=
      (r.garbled < 2 → s'.stations[x] = { r with garbled := r.garbled + 1 })
      ∧ (2 ≤ r.garbled →
          s'.stations[x] = { r with garbled := 3, state := .conflict, conflictSince := some s.now,
                                    conflictStart := some s.cycle }
          ∧ s'.shows .stations)
    let format : LineCounters := { line with format := min 65535 (line.format + 1) }
    let unexpected : LineCounters := { line with unexpected := min 65535 (line.unexpected + 1) }
    let counted (j : Judgement) : LineCounters := match j with
      | .short => { line with short := min 65535 (line.short + 1) }
      | .format => format
      | .check => { line with check := min 65535 (line.check + 1) }
      | _ => line
    (∀ f, s.chain.tx = some f → f.kind ≠ .report → f.startCycle + 5 * (f.bits - 1) ≤ s.cycle →
      exec .answerWindowOpen s = .next { s with chain := { s.chain with
        tx := none, cut := none, lineBase := f.startCycle + 5 * f.bits, rx := { s.chain.rx with inWindow := false }
        svc := some { v with window := some ⟨s.cycle, s.now, s.chain.timeout * 125, none⟩ } } })
    ∧ ∀ w, v.window = some w →
      (w.openCycle + w.length ≤ s.cycle → s.chain.rx.inWindow = false →
        ∃ s' : State, exec .answerWindowClose s = .next s' ∧ s'.chain.svc = none ∧ s'.chain.line = line
          ∧ (∀ y : Addr, y ≠ x → s'.stations[y] = s.stations[y]) ∧ s.sameBut [.chain, .stations, .attn] s'
          ∧ (v.kind = .discover → r.state = .absent → s'.stations[x] = { r with garbled := 0 })
          ∧ (v.kind = .discover → r.state ≠ .absent → s'.stations[x] = r)
          ∧ (v.kind ≠ .discover → here → misses s') ∧ (v.kind ≠ .discover → ¬here → s'.stations[x] = r))
      ∧ (s.cycle < w.openCycle + w.length → 0 < w.length → exec .answerWindowClose s = .next s)
      ∧ (∀ p : Fin 8, (s.chain.rx.bit true).2 = .aborted →
          ∃ s' : State, exec (.returnFrame p [true]) s = .next s' ∧ s'.chain.svc = some v
            ∧ s'.chain.line = { line with abort := min 65535 (line.abort + 1) } ∧ s'.chain.rx.mode = .aborted
            ∧ s'.chain.rx.inWindow = s.chain.rx.inWindow ∧ s.sameBut [.chain] s')
      ∧ (∀ (p : Fin 8) (b : Bool), (s.chain.rx.bit b).2 = .overlong →
          ∃ s' : State, exec (.returnFrame p [b]) s = .next s' ∧ s'.chain.line = format ∧ s'.chain.rx.mode = .idle
            ∧ (∀ y : Addr, y ≠ x → s'.stations[y] = s.stations[y]) ∧ s.sameBut [.chain, .stations, .attn] s'
            ∧ (s.chain.rx.inWindow = false → s'.chain.svc = some v ∧ s'.stations[x] = r)
            ∧ (s.chain.rx.inWindow = true → s'.chain.svc = none
                ∧ (v.kind = .discover → r.state = .absent → garbled s')
                ∧ (v.kind = .poll ∨ v.kind = .range → here → misses s')
                ∧ (v.kind = .poll ∨ v.kind = .range → ¬here → s'.stations[x] = r)))
      ∧ ∀ (p : Fin 8) (j : Judgement), (s.chain.rx.bit false).2 = .delimiter j →
        (j = .fill →
          ∃ s' : State, exec (.returnFrame p [false]) s = .next s' ∧ s'.chain.svc = some v ∧ s'.chain.line = line
            ∧ s'.chain.rx = { s.chain.rx with
                mode := .content, ones := 0, bits := [], arrival := s.now + p.val
                inWindow := decide (w.openCycle ≤ s.cycle ∧ s.cycle ≤ w.openCycle + w.length)
                stepped := decide (∃ a ∈ w.steppedAt, a ≤ s.cycle) }
            ∧ s'.chain.silenceStart = s.cycle ∧ s'.chain.lastDelim = some s.cycle
            ∧ s.sameBut [.chain] s')
        ∧ (s.chain.rx.inWindow = false → j ≠ .fill →
          ∃ s' : State, exec (.returnFrame p [false]) s = .next s' ∧ s'.chain.svc = some v
            ∧ s'.chain.line = (match j with | .valid _ _ _ => unexpected | _ => counted j)
            ∧ s.sameBut [.chain] s')
        ∧ (s.chain.rx.inWindow = true → j ≠ .fill →
          ∃ s' : State, exec (.returnFrame p [false]) s = .next s' ∧ s'.chain.svc = none
            ∧ (∀ y : Addr, y ≠ x → s'.stations[y] = s.stations[y])
            ∧ s.sameBut [.chain, .stations, .attn, .arrivals] s'
            ∧ (j = .short ∨ j = .format ∨ j = .check ∨ j = .abort → s'.chain.line = counted j)
            ∧ (v.kind = .discover → r.state = .absent →
                (∀ b, j = .valid x .echo b →
                  s'.stations[x] = { r with state := .joining, missed := 0, garbled := 0, rangeDue := true,
                                            dueSince := some s.chain.rx.arrival }
                  ∧ s'.shows .stations ∧ s'.chain.line = line)
                ∧ (j = .format ∨ j = .check → garbled s')
                ∧ (∀ a k b, j = .valid a k b → a ≠ x ∨ k ≠ .echo → garbled s' ∧ s'.chain.line = format)
                ∧ (j = .abort ∨ j = .short → s'.stations[x] = { r with garbled := 0 }))
            ∧ (v.kind = .poll → here ∨ r.state = .silent →
                let back : Station :=
                  if r.state = .silent then
                    { r with state := if r.delta = none then .joining else .present, missed := 0, rangeDue := true,
                             dueSince := some s.now, silentSince := none, orphanStart := none, reRangeStart := none,
                             stream := r.stream.map fun st =>
                               Stream.choose { st with state := .active, holdStart := none } s.entries[st.entry.index] r.delta
                                 s.now none true }
                  else { r with missed := 0 }
                let rest : Station := { back with
                  slot := match v.segment with | some (_, true) => .empty | _ => r.slot
                  segment := match v.segment with | some (_, true) => 0 | some (k, false) => k + 1 | none => r.segment
                  owed := if v.refusal = none then r.owed else none }
                (∀ k b, j = .valid x k b → k ≠ .echo →
                  s'.chain.line = line ∧ (r.state = .silent → s'.shows .stations)
                  ∧ (k = .empty → s'.stations[x] = rest ∧ s'.arrivals = s.arrivals)
                  ∧ (k = .request → rest.slot = .empty →
                      s'.stations[x] = { rest with slot := .request b, segment := 0 }
                      ∧ s'.arrivals = s.arrivals ++ [.station x])
                  ∧ (k = .request → rest.slot ≠ .empty →
                      s'.stations[x] = { rest with owed := some (b.getD 1 0) } ∧ s'.arrivals = s.arrivals)))
            ∧ (v.kind = .range → here → ∀ b, j = .valid x .echo b →
                let q := s.chain.rx.arrival - w.openTime
                (s.chain.rx.stepped = true ∨ s.chain.rx.arrival < w.openTime + 1280 →
                  s'.stations[x] = { r with missed := 0 }
                  ∧ s'.chain.line = { line with rangeRejected := min 65535 (line.rangeRejected + 1) })
                ∧ (s.chain.rx.stepped = false → w.openTime + 1280 ≤ s.chain.rx.arrival →
                  s'.stations[x] = { r with
                    missed := 0, state := .present, delta := some ((q - 1280) / 2), trip := some q,
                    lastRange := some s.chain.rx.arrival, rangeDue := false, dueSince := none,
                    reRangeStart := some s.cycle
                    stream :=
                      if r.state = .joining then
                        r.stream.map fun st =>
                          st.choose s.entries[st.entry.index] (some ((q - 1280) / 2)) s.now none false
                      else r.stream }
                  ∧ s'.chain.line = line ∧ (r.state = .joining → s'.shows .stations)))
            ∧ (v.kind = .poll ∨ v.kind = .range → r.state = .absent ∨ r.state = .conflict →
                ∀ k b, j = .valid x k b → (k = .echo ↔ v.kind = .range) →
                  s'.chain.line = unexpected ∧ s'.stations[x] = r ∧ s'.arrivals = s.arrivals)
            ∧ (v.kind = .poll ∨ v.kind = .range →
                (∀ a k b, j = .valid a k b → a ≠ x ∨ ¬(k = .echo ↔ v.kind = .range) →
                  s'.chain.line = format ∧ (here → misses s') ∧ (¬here → s'.stations[x] = r))
                ∧ (j = .abort ∨ j = .short ∨ j = .format ∨ j = .check →
                  (here → misses s') ∧ (¬here → s'.stations[x] = r))))

/-- R146, R153, R154: the report with the earliest scheduled start, the lower address first, starts at a delimiter
boundary at or after it when the line is free; it is dropped when its countdown A(kr) − S − δ lies below 2,000 ns, and so
is one that has waited past a mark before the last. A(kr) is the projected instant of a mark to come, and the instant of
the last mark when the report has waited past it (log entry 66, read from the rules by inference). R179: the report
carries the handle, kr, the countdown, the label, the class with the entry's state and the skipped count. A report sent
whole, at the end of its last bit (log entry 60), makes its mark the last reported and the skipped count 0, and kr is
chosen anew, above the mark reported when kr is still that mark (log entry 40, which also has kr absent without the delay:
the model's choices). One whose stream has been closed since, its live flag clear, leaves every station as it is. The step
of a stream is at least 1, which every step keeps (WatchSidesStayInStep). -/
def Obligations.ReportsStartAndEnd : Prop :=
  (∀ (s : State) (x : Addr) (st : Stream), s.resetPin = false → s.stations[x].stream = some st → 1 ≤ st.step →
    (∀ (s0 : Int) (k d : Nat), s.holdsReport x = some s0 → st.kr = some k → s.stations[x].delta = some d →
      s.chain.state = .running → s.chain.tx = none → s.chain.lineBase ≤ s.cycle →
      (s.cycle - s.chain.lineBase) % 50 = 0 → (∀ c, s.chain.reportEnd = some c → c + 125 ≤ s.cycle) →
      s0 - 360 ≤ s.now →
      (∀ (y : Addr) (u : Int), s.holdsReport y = some u → y ≠ x → s0 < u ∨ s0 = u ∧ x < y) →
      let e := s.entries[st.entry.index]
      let label : List Byte := match e.labelAt k with
        | some l => [BitVec.ofNat 8 l.hh, BitVec.ofNat 8 l.mm, BitVec.ofNat 8 l.ss,
                     BitVec.ofNat 8 l.ff ||| (if l.drop then 0x80 else 0)]
        | none => [0xFF, 0xFF, 0xFF, 0xFF]
      let body (count : Int) : List Byte :=
        [BitVec.ofNat 8 st.entry.index.val, st.entry.gen] ++ leOctets 4 k ++ leSigned 3 count ++ label
        ++ [BitVec.ofNat 8 (s.quality + 8 * e.state.code.toNat), BitVec.ofNat 8 st.skipped]
      let dropped : Prop :=
        ∃ (s' : State) (st' : Stream), exec .reportStart s = .next s' ∧ s'.chain.tx = none
          ∧ s'.chain.line.lateReport = min 65535 (s.chain.line.lateReport + 1)
          ∧ s'.stations[x] = { s.stations[x] with stream := some st' } ∧ st'.skipped = min 255 (st.skipped + 1)
          ∧ st' = Stream.choose { st with skipped := min 255 (st.skipped + 1) } e (some d) s.now (some k) false
          ∧ st'.last = st.last ∧ (∀ k', st'.kr = some k' → k < k')
          ∧ (∀ y : Addr, y ≠ x → s'.stations[y] = s.stations[y]) ∧ s.sameBut [.chain, .stations] s'
      (∀ a : Int, e.nextMark ≤ k ∧ a = e.foreseen k ∨ k < e.nextMark ∧ e.kl = some k ∧ e.lm = some a →
        let count := a - (s.now + 360) - d
        (2000 ≤ count →
          exec .reportStart s = .next { s with chain := { s.chain with
            tx := some { kind := .report, addr := x, body := body count, startCycle := s.cycle, startTime := s.now,
                         bits := (lineOf (BitVec.ofNat 8 (x.val + 1)) 0x54#8 (body count)).length, mark := k, live := true }
            reportEnd := none } })
        ∧ (count < 2000 → dropped))
      ∧ (∀ a : Int, k < e.nextMark → e.kl ≠ some k → e.lm = some a → a ≤ s.now → dropped))
    ∧ (∀ f, s.chain.tx = some f → f.kind = .report → f.addr = x → f.live = true →
      f.startCycle + 5 * f.bits ≤ s.cycle →
      ∃ (s' : State) (st' : Stream), exec .reportSent s = .next s' ∧ s'.chain.tx = none
        ∧ s'.chain.lineBase = f.startCycle + 5 * f.bits ∧ s'.chain.reportEnd = some (f.startCycle + 5 * f.bits)
        ∧ s'.stations[x] = { s.stations[x] with stream := some st' } ∧ st'.last = some f.mark ∧ st'.skipped = 0
        ∧ st'.entry = st.entry ∧ st'.step = st.step ∧ st'.lead = st.lead ∧ st'.state = st.state
        ∧ st'.holdStart = st.holdStart ∧ (s.stations[x].delta = none → st'.kr = none ∧ st'.s0 = none)
        ∧ (∀ delay, s.stations[x].delta = some delay →
            let e := s.entries[st.entry.index]
            let fits : Nat → Prop := fun k => k % st.step = 0 ∧ e.nextMark ≤ k ∧ (st.kr = some f.mark → f.mark < k)
              ∧ (s.now : Int) ≤ e.foreseen k - delay - st.lead
            0 < e.num → 0 < e.den → e.pf = wholePeriod e.num e.den → e.slew ≤ max 1 (e.pf / 4) → 1 ≤ e.pf →
            ∃ k, fits k ∧ (∀ j, fits j → k ≤ j)
              ∧ (if e.state = .ending ∧ ∃ x, e.endAt = some x ∧ (x : Int) < e.foreseen k then st'.kr = none ∧ st'.s0 = none
                 else st'.kr = some k ∧ st'.s0 = some (e.foreseen k - delay - st.lead)))
        ∧ (∀ y : Addr, y ≠ x → s'.stations[y] = s.stations[y]) ∧ s.sameBut [.chain, .stations] s'))
  ∧ ∀ (s : State) (f : TxFrame), s.resetPin = false → s.chain.tx = some f → f.kind = .report → f.live = false →
    f.startCycle + 5 * f.bits ≤ s.cycle →
    exec .reportSent s = .next { s with chain := { s.chain with
      tx := none, lineBase := f.startCycle + 5 * f.bits, reportEnd := some (f.startCycle + 5 * f.bits) } }

/-- R124, R128, R129, R134 to R136, R141, R152, R155, R171: what the part does when a timer of the chain, of a station or
of the ATTN pulse runs out: silence breaks a RUNNING chain, ends the frame on CTX with nine 1s (log entry 38) and makes
its stations SILENT, a report cut short counting as skipped (R154), also in the very cycle at which its last bit has
ended, REPORT_SENT not taken (log entry 60, the model's choice), the streams that this suspends keeping kr and S0 (log
entry 61, the model's choice: R155 is silent), and in any chain state ends the live run; a live run of 125,000 cycles
brings a BROKEN one back at the beginning of its service cycle; an orphan becomes ABSENT and its entries retire; a
CONFLICT ends after 60 s; a suspended stream closes after 2 s and its entry is noted; the range falls due again after 1 s;
the ATTN pulse ends after 125 cycles. A raise of an absent cause adds it alone, and asserts ATTN when the cause is masked;
a raise of a present one changes nothing. Before its time an expiry does nothing (log entry 4); one taken late has the
instant and the cycle of its taking (log entry 19). -/
def Obligations.TimersRunOut : Prop :=
  ∀ (s : State) (x : Addr), s.resetPin = false →
    let r := s.stations[x]
    (s.chain.state = .running → s.chain.silenceStart + 125000 ≤ s.cycle →
      ∃ s' : State, exec .silenceTimerExpiry s = .next s' ∧ s'.chain.state = .broken ∧ s'.chain.svc = none
        ∧ s'.chain.tx = none ∧ s'.chain.liveStart = none ∧ s'.shows .chain
        ∧ s'.chain.line.broken = min 65535 (s.chain.line.broken + 1) ∧ s.sameBut [.chain, .stations, .attn] s'
        ∧ (r.state = .joining ∨ r.state = .present →
            s'.stations[x].state = .silent ∧ s'.stations[x].silentSince = some s.now
            ∧ s'.stations[x].orphanStart = some s.cycle ∧ s'.stations[x].delta = r.delta
            ∧ s'.stations[x].slot = r.slot ∧ s'.shows .stations
            ∧ s'.stations[x].stream = r.stream.map fun st => { st with
                state := .suspended, holdStart := some s.cycle
                skipped :=
                  if ∃ f, s.chain.tx = some f ∧ f.kind = .report ∧ f.live = true ∧ f.addr = x then min 255 (st.skipped + 1)
                  else st.skipped })
        ∧ (∀ f, s.chain.tx = some f → f.startCycle ≤ s.cycle →
            ∃ cut : Nat, s.cycle ≤ cut ∧ cut < s.cycle + 5 ∧ (cut - f.startCycle) % 5 = 0 ∧ s'.chain.lineBase = cut + 45
              ∧ ∀ c : Nat, s.cycle ≤ c → State.ctxHigh { s' with cycle := c } =
                  if c < cut then f.level s.cycle
                  else if c < cut + 45 then true
                  else ([false, true, true, true, true, true, true, true, true, false] : List Bool).getD
                    ((c - (cut + 45)) / 5 % 10) false)
        ∧ (s.chain.tx = none → s.chain.cut = none → s.cycle < s.chain.lineBase → s.chain.lineBase ≤ s.cycle + 5 →
            ∃ cut : Nat, s.cycle ≤ cut ∧ cut < s.cycle + 5 ∧ cut ≤ s.chain.lineBase ∧ (s.chain.lineBase - cut) % 5 = 0
              ∧ s'.chain.lineBase = cut + 45
              ∧ ∀ c : Nat, s.cycle ≤ c → State.ctxHigh { s' with cycle := c } =
                  if c < cut then false
                  else if c < cut + 45 then true
                  else ([false, true, true, true, true, true, true, true, true, false] : List Bool).getD
                    ((c - (cut + 45)) / 5 % 10) false)
        ∧ (r.state ≠ .joining → r.state ≠ .present →
            s'.stations[x].state = r.state ∧ s'.stations[x].silentSince = r.silentSince
            ∧ s'.stations[x].orphanStart = r.orphanStart ∧ s'.stations[x].conflictStart = r.conflictStart))
    ∧ (s.chain.state ≠ .running → s.chain.silenceStart + 125000 ≤ s.cycle →
        exec .silenceTimerExpiry s = .next { s with chain := { s.chain with liveStart := none } })
    ∧ (s.cycle < s.chain.silenceStart + 125000 → exec .silenceTimerExpiry s = .next s)
    ∧ (∀ a d, s.chain.state = .broken → s.chain.liveStart = some a → s.chain.lastDelim = some d → s.cycle ≤ d + 12500 →
      a + 125000 ≤ s.cycle →
      ∃ s' : State, exec .liveRunReached s = .next s' ∧ s'.chain = { s.chain with
          state := .running, step := .polls, cursor := 0, chosen := none }
        ∧ s'.shows .chain ∧ s.sameBut [.chain, .attn] s')
    ∧ (∀ c, r.state = .silent → r.orphanStart = some c → c + s.chain.orphan * 125000000 ≤ s.cycle →
      s.ownedInv → s.watchInv →
      ∃ s' : State, exec (.orphanTimerExpiry x) s = .next s' ∧ s'.stations[x] = Station.cleared ∧ s'.shows .stations
        ∧ (∀ i : Idx, s.entries[i].state ≠ .vacant →
            (s.entries[i].owner = .station x → s'.entries[i] = Entry.vacantAt (s.entries[i].gen + 1))
            ∧ (s.entries[i].owner ≠ .station x →
                s'.entries[i] = { s.entries[i] with watchers := s.entries[i].watchers.erase x }))
        ∧ s.sameBut [.chain, .stations, .entries, .outs, .mgmtNotices, .attn, .arrivals] s')
    ∧ (∀ c, r.state = .conflict → r.conflictStart = some c → c + 7500000000 ≤ s.cycle →
      ∃ s' : State, exec (.conflictTimerExpiry x) s = .next s' ∧ s'.shows .stations
        ∧ s'.stations = s.stations.set x { r with state := .absent, conflictSince := none, conflictStart := none, garbled := 0 }
        ∧ s.sameBut [.stations, .attn] s')
    ∧ (∀ st c, r.stream = some st → st.state = .suspended → st.holdStart = some c → c + 250000000 ≤ s.cycle →
      ∃ s' : State, exec (.streamHoldExpiry x) s = .next s'
        ∧ s'.stations[x] = { r with stream := none, notices := s'.stations[x].notices }
        ∧ (∀ i, i ∈ s'.stations[x].notices ↔ i = st.entry.index ∨ i ∈ r.notices)
        ∧ (∀ y : Addr, y ≠ x → s'.stations[y] = s.stations[y]) ∧ s.sameBut [.stations, .chain] s')
    ∧ (∀ c, r.reRangeStart = some c → c + 125000000 ≤ s.cycle →
      exec (.reRangeTimerExpiry x) s
        = .next (s.setStation x { r with rangeDue := true, dueSince := some s.now, reRangeStart := none }))
    ∧ (∀ c, s.attn.pulse = some c →
      (c + 125 ≤ s.cycle → exec .attnPulseEnd s = .next { s with attn := { s.attn with pulse := none } })
      ∧ (s.cycle < c + 125 → exec .attnPulseEnd s = .next s))
    ∧ (∀ c : Cause, s.shows c → s.raise c = s)
    ∧ (∀ c : Cause, ¬s.shows c →
      (s.raise c).shows c ∧ (∀ d : Cause, d ≠ c → ((s.raise c).shows d ↔ s.shows d))
      ∧ (s.attn.mask.has c = true → (s.raise c).attnAsserted = true) ∧ (s.raise c).attn.mask = s.attn.mask
      ∧ (s.raise c).attn.mode = s.attn.mode ∧ s.sameBut [.attn] (s.raise c))

/-! ## Labels (chapter 3) -/

/-- R65, R66: every COUNT and DROP label has hours below 24, minutes and seconds below 60 and frames below the labels of a
second. A COUNT label divides its count; under DROP the frame numbers below the drop count are left out in the first
second of each minute not divisible by ten, and the numbers go up by one elsewhere. -/
def Obligations.DropLabelsSkipNumbers : Prop :=
  (∀ (num den : Nat) (n : Int), 0 < num → 0 < den →
    let nL := labelsPerSecond num den
    let l := labelOf .count num den n
    l.hh < 24 ∧ l.mm < 60 ∧ l.ss < 60 ∧ l.ff < nL ∧ l.drop = false
    ∧ (l.hh : Int) = n / (3600 * nL) % 24 ∧ (l.mm : Int) = n / (60 * nL) % 60 ∧ (l.ss : Int) = n / nL % 60
    ∧ (l.ff : Int) = n % nL)
  ∧ ∀ (num den d : Nat) (n : Int), 0 < den → dropCount num den = some d →
    let nL := labelsPerSecond num den
    let l := labelOf .drop num den n
    let f := frameNumber nL d n
    let g := frameNumber nL d (n + 1)
    l.hh < 24 ∧ l.mm < 60 ∧ l.ss < 60 ∧ l.ff < nL ∧ l.drop = true
    ∧ ¬(l.ss = 0 ∧ l.mm % 10 ≠ 0 ∧ l.ff < d)
    ∧ g = (if (f + 1) % (60 * nL) = 0 ∧ ((f + 1) / (60 * nL)) % 10 ≠ 0 then f + 1 + d else f + 1)
end

