-- ==== Sys2Proof/Laws/State.lean ====
section
/-! SUPPORT. What each named update of State leaves as it was, one lemma for each field, and what the indexed updates give
at the place they write. -/

namespace Sys2Proof.Machine

open Sys2Proof

@[simp] theorem State.setEntry_tb (s : State) (i : Idx) (e : Entry) : (s.setEntry i e).tb = s.tb := rfl
@[simp] theorem State.setEntry_cycle (s : State) (i : Idx) (e : Entry) : (s.setEntry i e).cycle = s.cycle := rfl
@[simp] theorem State.setEntry_readings (s : State) (i : Idx) (e : Entry) : (s.setEntry i e).readings = s.readings := rfl
@[simp] theorem State.setEntry_resetPin (s : State) (i : Idx) (e : Entry) : (s.setEntry i e).resetPin = s.resetPin := rfl
@[simp] theorem State.setEntry_inhibit (s : State) (i : Idx) (e : Entry) : (s.setEntry i e).inhibit = s.inhibit := rfl
@[simp] theorem State.setEntry_lastEdge (s : State) (i : Idx) (e : Entry) : (s.setEntry i e).lastEdge = s.lastEdge := rfl
@[simp] theorem State.setEntry_slots (s : State) (i : Idx) (e : Entry) : (s.setEntry i e).slots = s.slots := rfl
@[simp] theorem State.setEntry_latest (s : State) (i : Idx) (e : Entry) : (s.setEntry i e).latest = s.latest := rfl
@[simp] theorem State.setEntry_servo (s : State) (i : Idx) (e : Entry) : (s.setEntry i e).servo = s.servo := rfl
@[simp] theorem State.setEntry_civil (s : State) (i : Idx) (e : Entry) : (s.setEntry i e).civil = s.civil := rfl
@[simp] theorem State.setEntry_mgmtNotices (s : State) (i : Idx) (e : Entry) : (s.setEntry i e).mgmtNotices = s.mgmtNotices := rfl
@[simp] theorem State.setEntry_outs (s : State) (i : Idx) (e : Entry) : (s.setEntry i e).outs = s.outs := rfl
@[simp] theorem State.setEntry_chain (s : State) (i : Idx) (e : Entry) : (s.setEntry i e).chain = s.chain := rfl
@[simp] theorem State.setEntry_stations (s : State) (i : Idx) (e : Entry) : (s.setEntry i e).stations = s.stations := rfl
@[simp] theorem State.setEntry_arrivals (s : State) (i : Idx) (e : Entry) : (s.setEntry i e).arrivals = s.arrivals := rfl
@[simp] theorem State.setEntry_port (s : State) (i : Idx) (e : Entry) : (s.setEntry i e).port = s.port := rfl
@[simp] theorem State.setEntry_attn (s : State) (i : Idx) (e : Entry) : (s.setEntry i e).attn = s.attn := rfl
@[simp] theorem State.setEntry_store (s : State) (i : Idx) (e : Entry) : (s.setEntry i e).store = s.store := rfl
@[simp] theorem State.setEntry_pending (s : State) (i : Idx) (e : Entry) : (s.setEntry i e).pending = s.pending := rfl

@[simp] theorem State.setStation_tb (s : State) (x : Addr) (r : Station) : (s.setStation x r).tb = s.tb := rfl
@[simp] theorem State.setStation_cycle (s : State) (x : Addr) (r : Station) : (s.setStation x r).cycle = s.cycle := rfl
@[simp] theorem State.setStation_readings (s : State) (x : Addr) (r : Station) : (s.setStation x r).readings = s.readings := rfl
@[simp] theorem State.setStation_resetPin (s : State) (x : Addr) (r : Station) : (s.setStation x r).resetPin = s.resetPin := rfl
@[simp] theorem State.setStation_inhibit (s : State) (x : Addr) (r : Station) : (s.setStation x r).inhibit = s.inhibit := rfl
@[simp] theorem State.setStation_lastEdge (s : State) (x : Addr) (r : Station) : (s.setStation x r).lastEdge = s.lastEdge := rfl
@[simp] theorem State.setStation_slots (s : State) (x : Addr) (r : Station) : (s.setStation x r).slots = s.slots := rfl
@[simp] theorem State.setStation_latest (s : State) (x : Addr) (r : Station) : (s.setStation x r).latest = s.latest := rfl
@[simp] theorem State.setStation_servo (s : State) (x : Addr) (r : Station) : (s.setStation x r).servo = s.servo := rfl
@[simp] theorem State.setStation_civil (s : State) (x : Addr) (r : Station) : (s.setStation x r).civil = s.civil := rfl
@[simp] theorem State.setStation_entries (s : State) (x : Addr) (r : Station) : (s.setStation x r).entries = s.entries := rfl
@[simp] theorem State.setStation_mgmtNotices (s : State) (x : Addr) (r : Station) : (s.setStation x r).mgmtNotices = s.mgmtNotices := rfl
@[simp] theorem State.setStation_outs (s : State) (x : Addr) (r : Station) : (s.setStation x r).outs = s.outs := rfl
@[simp] theorem State.setStation_chain (s : State) (x : Addr) (r : Station) : (s.setStation x r).chain = s.chain := rfl
@[simp] theorem State.setStation_arrivals (s : State) (x : Addr) (r : Station) : (s.setStation x r).arrivals = s.arrivals := rfl
@[simp] theorem State.setStation_port (s : State) (x : Addr) (r : Station) : (s.setStation x r).port = s.port := rfl
@[simp] theorem State.setStation_attn (s : State) (x : Addr) (r : Station) : (s.setStation x r).attn = s.attn := rfl
@[simp] theorem State.setStation_store (s : State) (x : Addr) (r : Station) : (s.setStation x r).store = s.store := rfl
@[simp] theorem State.setStation_pending (s : State) (x : Addr) (r : Station) : (s.setStation x r).pending = s.pending := rfl

@[simp] theorem State.setOutput_tb (s : State) (o : OutNo) (r : Output) : (s.setOutput o r).tb = s.tb := rfl
@[simp] theorem State.setOutput_cycle (s : State) (o : OutNo) (r : Output) : (s.setOutput o r).cycle = s.cycle := rfl
@[simp] theorem State.setOutput_readings (s : State) (o : OutNo) (r : Output) : (s.setOutput o r).readings = s.readings := rfl
@[simp] theorem State.setOutput_resetPin (s : State) (o : OutNo) (r : Output) : (s.setOutput o r).resetPin = s.resetPin := rfl
@[simp] theorem State.setOutput_inhibit (s : State) (o : OutNo) (r : Output) : (s.setOutput o r).inhibit = s.inhibit := rfl
@[simp] theorem State.setOutput_lastEdge (s : State) (o : OutNo) (r : Output) : (s.setOutput o r).lastEdge = s.lastEdge := rfl
@[simp] theorem State.setOutput_slots (s : State) (o : OutNo) (r : Output) : (s.setOutput o r).slots = s.slots := rfl
@[simp] theorem State.setOutput_latest (s : State) (o : OutNo) (r : Output) : (s.setOutput o r).latest = s.latest := rfl
@[simp] theorem State.setOutput_servo (s : State) (o : OutNo) (r : Output) : (s.setOutput o r).servo = s.servo := rfl
@[simp] theorem State.setOutput_civil (s : State) (o : OutNo) (r : Output) : (s.setOutput o r).civil = s.civil := rfl
@[simp] theorem State.setOutput_entries (s : State) (o : OutNo) (r : Output) : (s.setOutput o r).entries = s.entries := rfl
@[simp] theorem State.setOutput_mgmtNotices (s : State) (o : OutNo) (r : Output) : (s.setOutput o r).mgmtNotices = s.mgmtNotices := rfl
@[simp] theorem State.setOutput_chain (s : State) (o : OutNo) (r : Output) : (s.setOutput o r).chain = s.chain := rfl
@[simp] theorem State.setOutput_stations (s : State) (o : OutNo) (r : Output) : (s.setOutput o r).stations = s.stations := rfl
@[simp] theorem State.setOutput_arrivals (s : State) (o : OutNo) (r : Output) : (s.setOutput o r).arrivals = s.arrivals := rfl
@[simp] theorem State.setOutput_port (s : State) (o : OutNo) (r : Output) : (s.setOutput o r).port = s.port := rfl
@[simp] theorem State.setOutput_attn (s : State) (o : OutNo) (r : Output) : (s.setOutput o r).attn = s.attn := rfl
@[simp] theorem State.setOutput_store (s : State) (o : OutNo) (r : Output) : (s.setOutput o r).store = s.store := rfl
@[simp] theorem State.setOutput_pending (s : State) (o : OutNo) (r : Output) : (s.setOutput o r).pending = s.pending := rfl

@[simp] theorem State.mapEntries_tb (s : State) (f : Idx → Entry → Entry) : (s.mapEntries f).tb = s.tb := by simp only [State.mapEntries]
@[simp] theorem State.mapEntries_cycle (s : State) (f : Idx → Entry → Entry) : (s.mapEntries f).cycle = s.cycle := by simp only [State.mapEntries]
@[simp] theorem State.mapEntries_readings (s : State) (f : Idx → Entry → Entry) : (s.mapEntries f).readings = s.readings := by simp only [State.mapEntries]
@[simp] theorem State.mapEntries_resetPin (s : State) (f : Idx → Entry → Entry) : (s.mapEntries f).resetPin = s.resetPin := by simp only [State.mapEntries]
@[simp] theorem State.mapEntries_inhibit (s : State) (f : Idx → Entry → Entry) : (s.mapEntries f).inhibit = s.inhibit := by simp only [State.mapEntries]
@[simp] theorem State.mapEntries_lastEdge (s : State) (f : Idx → Entry → Entry) : (s.mapEntries f).lastEdge = s.lastEdge := by simp only [State.mapEntries]
@[simp] theorem State.mapEntries_slots (s : State) (f : Idx → Entry → Entry) : (s.mapEntries f).slots = s.slots := by simp only [State.mapEntries]
@[simp] theorem State.mapEntries_latest (s : State) (f : Idx → Entry → Entry) : (s.mapEntries f).latest = s.latest := by simp only [State.mapEntries]
@[simp] theorem State.mapEntries_servo (s : State) (f : Idx → Entry → Entry) : (s.mapEntries f).servo = s.servo := by simp only [State.mapEntries]
@[simp] theorem State.mapEntries_civil (s : State) (f : Idx → Entry → Entry) : (s.mapEntries f).civil = s.civil := by simp only [State.mapEntries]
@[simp] theorem State.mapEntries_mgmtNotices (s : State) (f : Idx → Entry → Entry) : (s.mapEntries f).mgmtNotices = s.mgmtNotices := by simp only [State.mapEntries]
@[simp] theorem State.mapEntries_outs (s : State) (f : Idx → Entry → Entry) : (s.mapEntries f).outs = s.outs := by simp only [State.mapEntries]
@[simp] theorem State.mapEntries_chain (s : State) (f : Idx → Entry → Entry) : (s.mapEntries f).chain = s.chain := by simp only [State.mapEntries]
@[simp] theorem State.mapEntries_stations (s : State) (f : Idx → Entry → Entry) : (s.mapEntries f).stations = s.stations := by simp only [State.mapEntries]
@[simp] theorem State.mapEntries_arrivals (s : State) (f : Idx → Entry → Entry) : (s.mapEntries f).arrivals = s.arrivals := by simp only [State.mapEntries]
@[simp] theorem State.mapEntries_port (s : State) (f : Idx → Entry → Entry) : (s.mapEntries f).port = s.port := by simp only [State.mapEntries]
@[simp] theorem State.mapEntries_attn (s : State) (f : Idx → Entry → Entry) : (s.mapEntries f).attn = s.attn := by simp only [State.mapEntries]
@[simp] theorem State.mapEntries_store (s : State) (f : Idx → Entry → Entry) : (s.mapEntries f).store = s.store := by simp only [State.mapEntries]
@[simp] theorem State.mapEntries_pending (s : State) (f : Idx → Entry → Entry) : (s.mapEntries f).pending = s.pending := by simp only [State.mapEntries]

@[simp] theorem State.mapStations_tb (s : State) (f : Addr → Station → Station) : (s.mapStations f).tb = s.tb := by simp only [State.mapStations]
@[simp] theorem State.mapStations_cycle (s : State) (f : Addr → Station → Station) : (s.mapStations f).cycle = s.cycle := by simp only [State.mapStations]
@[simp] theorem State.mapStations_readings (s : State) (f : Addr → Station → Station) : (s.mapStations f).readings = s.readings := by simp only [State.mapStations]
@[simp] theorem State.mapStations_resetPin (s : State) (f : Addr → Station → Station) : (s.mapStations f).resetPin = s.resetPin := by simp only [State.mapStations]
@[simp] theorem State.mapStations_inhibit (s : State) (f : Addr → Station → Station) : (s.mapStations f).inhibit = s.inhibit := by simp only [State.mapStations]
@[simp] theorem State.mapStations_lastEdge (s : State) (f : Addr → Station → Station) : (s.mapStations f).lastEdge = s.lastEdge := by simp only [State.mapStations]
@[simp] theorem State.mapStations_slots (s : State) (f : Addr → Station → Station) : (s.mapStations f).slots = s.slots := by simp only [State.mapStations]
@[simp] theorem State.mapStations_latest (s : State) (f : Addr → Station → Station) : (s.mapStations f).latest = s.latest := by simp only [State.mapStations]
@[simp] theorem State.mapStations_servo (s : State) (f : Addr → Station → Station) : (s.mapStations f).servo = s.servo := by simp only [State.mapStations]
@[simp] theorem State.mapStations_civil (s : State) (f : Addr → Station → Station) : (s.mapStations f).civil = s.civil := by simp only [State.mapStations]
@[simp] theorem State.mapStations_entries (s : State) (f : Addr → Station → Station) : (s.mapStations f).entries = s.entries := by simp only [State.mapStations]
@[simp] theorem State.mapStations_mgmtNotices (s : State) (f : Addr → Station → Station) : (s.mapStations f).mgmtNotices = s.mgmtNotices := by simp only [State.mapStations]
@[simp] theorem State.mapStations_outs (s : State) (f : Addr → Station → Station) : (s.mapStations f).outs = s.outs := by simp only [State.mapStations]
@[simp] theorem State.mapStations_chain (s : State) (f : Addr → Station → Station) : (s.mapStations f).chain = s.chain := by simp only [State.mapStations]
@[simp] theorem State.mapStations_arrivals (s : State) (f : Addr → Station → Station) : (s.mapStations f).arrivals = s.arrivals := by simp only [State.mapStations]
@[simp] theorem State.mapStations_port (s : State) (f : Addr → Station → Station) : (s.mapStations f).port = s.port := by simp only [State.mapStations]
@[simp] theorem State.mapStations_attn (s : State) (f : Addr → Station → Station) : (s.mapStations f).attn = s.attn := by simp only [State.mapStations]
@[simp] theorem State.mapStations_store (s : State) (f : Addr → Station → Station) : (s.mapStations f).store = s.store := by simp only [State.mapStations]
@[simp] theorem State.mapStations_pending (s : State) (f : Addr → Station → Station) : (s.mapStations f).pending = s.pending := by simp only [State.mapStations]

@[simp] theorem State.mapOutputs_tb (s : State) (f : Output → Output) : (s.mapOutputs f).tb = s.tb := by simp only [State.mapOutputs]
@[simp] theorem State.mapOutputs_cycle (s : State) (f : Output → Output) : (s.mapOutputs f).cycle = s.cycle := by simp only [State.mapOutputs]
@[simp] theorem State.mapOutputs_readings (s : State) (f : Output → Output) : (s.mapOutputs f).readings = s.readings := by simp only [State.mapOutputs]
@[simp] theorem State.mapOutputs_resetPin (s : State) (f : Output → Output) : (s.mapOutputs f).resetPin = s.resetPin := by simp only [State.mapOutputs]
@[simp] theorem State.mapOutputs_inhibit (s : State) (f : Output → Output) : (s.mapOutputs f).inhibit = s.inhibit := by simp only [State.mapOutputs]
@[simp] theorem State.mapOutputs_lastEdge (s : State) (f : Output → Output) : (s.mapOutputs f).lastEdge = s.lastEdge := by simp only [State.mapOutputs]
@[simp] theorem State.mapOutputs_slots (s : State) (f : Output → Output) : (s.mapOutputs f).slots = s.slots := by simp only [State.mapOutputs]
@[simp] theorem State.mapOutputs_latest (s : State) (f : Output → Output) : (s.mapOutputs f).latest = s.latest := by simp only [State.mapOutputs]
@[simp] theorem State.mapOutputs_servo (s : State) (f : Output → Output) : (s.mapOutputs f).servo = s.servo := by simp only [State.mapOutputs]
@[simp] theorem State.mapOutputs_civil (s : State) (f : Output → Output) : (s.mapOutputs f).civil = s.civil := by simp only [State.mapOutputs]
@[simp] theorem State.mapOutputs_entries (s : State) (f : Output → Output) : (s.mapOutputs f).entries = s.entries := by simp only [State.mapOutputs]
@[simp] theorem State.mapOutputs_mgmtNotices (s : State) (f : Output → Output) : (s.mapOutputs f).mgmtNotices = s.mgmtNotices := by simp only [State.mapOutputs]
@[simp] theorem State.mapOutputs_chain (s : State) (f : Output → Output) : (s.mapOutputs f).chain = s.chain := by simp only [State.mapOutputs]
@[simp] theorem State.mapOutputs_stations (s : State) (f : Output → Output) : (s.mapOutputs f).stations = s.stations := by simp only [State.mapOutputs]
@[simp] theorem State.mapOutputs_arrivals (s : State) (f : Output → Output) : (s.mapOutputs f).arrivals = s.arrivals := by simp only [State.mapOutputs]
@[simp] theorem State.mapOutputs_port (s : State) (f : Output → Output) : (s.mapOutputs f).port = s.port := by simp only [State.mapOutputs]
@[simp] theorem State.mapOutputs_attn (s : State) (f : Output → Output) : (s.mapOutputs f).attn = s.attn := by simp only [State.mapOutputs]
@[simp] theorem State.mapOutputs_store (s : State) (f : Output → Output) : (s.mapOutputs f).store = s.store := by simp only [State.mapOutputs]
@[simp] theorem State.mapOutputs_pending (s : State) (f : Output → Output) : (s.mapOutputs f).pending = s.pending := by simp only [State.mapOutputs]

@[simp] theorem State.countLine_tb (s : State) (f : LineCounters → LineCounters) : (s.countLine f).tb = s.tb := rfl
@[simp] theorem State.countLine_cycle (s : State) (f : LineCounters → LineCounters) : (s.countLine f).cycle = s.cycle := rfl
@[simp] theorem State.countLine_readings (s : State) (f : LineCounters → LineCounters) : (s.countLine f).readings = s.readings := rfl
@[simp] theorem State.countLine_resetPin (s : State) (f : LineCounters → LineCounters) : (s.countLine f).resetPin = s.resetPin := rfl
@[simp] theorem State.countLine_inhibit (s : State) (f : LineCounters → LineCounters) : (s.countLine f).inhibit = s.inhibit := rfl
@[simp] theorem State.countLine_lastEdge (s : State) (f : LineCounters → LineCounters) : (s.countLine f).lastEdge = s.lastEdge := rfl
@[simp] theorem State.countLine_slots (s : State) (f : LineCounters → LineCounters) : (s.countLine f).slots = s.slots := rfl
@[simp] theorem State.countLine_latest (s : State) (f : LineCounters → LineCounters) : (s.countLine f).latest = s.latest := rfl
@[simp] theorem State.countLine_servo (s : State) (f : LineCounters → LineCounters) : (s.countLine f).servo = s.servo := rfl
@[simp] theorem State.countLine_civil (s : State) (f : LineCounters → LineCounters) : (s.countLine f).civil = s.civil := rfl
@[simp] theorem State.countLine_entries (s : State) (f : LineCounters → LineCounters) : (s.countLine f).entries = s.entries := rfl
@[simp] theorem State.countLine_mgmtNotices (s : State) (f : LineCounters → LineCounters) : (s.countLine f).mgmtNotices = s.mgmtNotices := rfl
@[simp] theorem State.countLine_outs (s : State) (f : LineCounters → LineCounters) : (s.countLine f).outs = s.outs := rfl
@[simp] theorem State.countLine_stations (s : State) (f : LineCounters → LineCounters) : (s.countLine f).stations = s.stations := rfl
@[simp] theorem State.countLine_arrivals (s : State) (f : LineCounters → LineCounters) : (s.countLine f).arrivals = s.arrivals := rfl
@[simp] theorem State.countLine_port (s : State) (f : LineCounters → LineCounters) : (s.countLine f).port = s.port := rfl
@[simp] theorem State.countLine_attn (s : State) (f : LineCounters → LineCounters) : (s.countLine f).attn = s.attn := rfl
@[simp] theorem State.countLine_store (s : State) (f : LineCounters → LineCounters) : (s.countLine f).store = s.store := rfl
@[simp] theorem State.countLine_pending (s : State) (f : LineCounters → LineCounters) : (s.countLine f).pending = s.pending := rfl

@[simp] theorem State.setTime_cycle (s : State) (t : Nat) : (s.setTime t).cycle = s.cycle := by simp only [State.setTime]
@[simp] theorem State.setTime_readings (s : State) (t : Nat) : (s.setTime t).readings = s.readings := by simp only [State.setTime]
@[simp] theorem State.setTime_resetPin (s : State) (t : Nat) : (s.setTime t).resetPin = s.resetPin := by simp only [State.setTime]
@[simp] theorem State.setTime_inhibit (s : State) (t : Nat) : (s.setTime t).inhibit = s.inhibit := by simp only [State.setTime]
@[simp] theorem State.setTime_lastEdge (s : State) (t : Nat) : (s.setTime t).lastEdge = s.lastEdge := by simp only [State.setTime]
@[simp] theorem State.setTime_slots (s : State) (t : Nat) : (s.setTime t).slots = s.slots := by simp only [State.setTime]
@[simp] theorem State.setTime_latest (s : State) (t : Nat) : (s.setTime t).latest = s.latest := by simp only [State.setTime]
@[simp] theorem State.setTime_servo (s : State) (t : Nat) : (s.setTime t).servo = s.servo := by simp only [State.setTime]
@[simp] theorem State.setTime_civil (s : State) (t : Nat) : (s.setTime t).civil = s.civil := by simp only [State.setTime]
@[simp] theorem State.setTime_entries (s : State) (t : Nat) : (s.setTime t).entries = s.entries := by simp only [State.setTime]
@[simp] theorem State.setTime_mgmtNotices (s : State) (t : Nat) : (s.setTime t).mgmtNotices = s.mgmtNotices := by simp only [State.setTime]
@[simp] theorem State.setTime_outs (s : State) (t : Nat) : (s.setTime t).outs = s.outs := by simp only [State.setTime]
@[simp] theorem State.setTime_chain (s : State) (t : Nat) : (s.setTime t).chain = s.chain := by simp only [State.setTime]
@[simp] theorem State.setTime_stations (s : State) (t : Nat) : (s.setTime t).stations = s.stations := by simp only [State.setTime]
@[simp] theorem State.setTime_arrivals (s : State) (t : Nat) : (s.setTime t).arrivals = s.arrivals := by simp only [State.setTime]
@[simp] theorem State.setTime_port (s : State) (t : Nat) : (s.setTime t).port = s.port := by simp only [State.setTime]
@[simp] theorem State.setTime_attn (s : State) (t : Nat) : (s.setTime t).attn = s.attn := by simp only [State.setTime]
@[simp] theorem State.setTime_store (s : State) (t : Nat) : (s.setTime t).store = s.store := by simp only [State.setTime]
@[simp] theorem State.setTime_pending (s : State) (t : Nat) : (s.setTime t).pending = s.pending := by simp only [State.setTime]

@[simp] theorem State.countServo_tb (s : State) (f : ServoCounters → ServoCounters) : (s.countServo f).tb = s.tb := rfl
@[simp] theorem State.countServo_cycle (s : State) (f : ServoCounters → ServoCounters) : (s.countServo f).cycle = s.cycle := rfl
@[simp] theorem State.countServo_readings (s : State) (f : ServoCounters → ServoCounters) : (s.countServo f).readings = s.readings := rfl
@[simp] theorem State.countServo_resetPin (s : State) (f : ServoCounters → ServoCounters) : (s.countServo f).resetPin = s.resetPin := rfl
@[simp] theorem State.countServo_inhibit (s : State) (f : ServoCounters → ServoCounters) : (s.countServo f).inhibit = s.inhibit := rfl
@[simp] theorem State.countServo_lastEdge (s : State) (f : ServoCounters → ServoCounters) : (s.countServo f).lastEdge = s.lastEdge := rfl
@[simp] theorem State.countServo_slots (s : State) (f : ServoCounters → ServoCounters) : (s.countServo f).slots = s.slots := rfl
@[simp] theorem State.countServo_latest (s : State) (f : ServoCounters → ServoCounters) : (s.countServo f).latest = s.latest := rfl
@[simp] theorem State.countServo_civil (s : State) (f : ServoCounters → ServoCounters) : (s.countServo f).civil = s.civil := rfl
@[simp] theorem State.countServo_entries (s : State) (f : ServoCounters → ServoCounters) : (s.countServo f).entries = s.entries := rfl
@[simp] theorem State.countServo_mgmtNotices (s : State) (f : ServoCounters → ServoCounters) : (s.countServo f).mgmtNotices = s.mgmtNotices := rfl
@[simp] theorem State.countServo_outs (s : State) (f : ServoCounters → ServoCounters) : (s.countServo f).outs = s.outs := rfl
@[simp] theorem State.countServo_chain (s : State) (f : ServoCounters → ServoCounters) : (s.countServo f).chain = s.chain := rfl
@[simp] theorem State.countServo_stations (s : State) (f : ServoCounters → ServoCounters) : (s.countServo f).stations = s.stations := rfl
@[simp] theorem State.countServo_arrivals (s : State) (f : ServoCounters → ServoCounters) : (s.countServo f).arrivals = s.arrivals := rfl
@[simp] theorem State.countServo_port (s : State) (f : ServoCounters → ServoCounters) : (s.countServo f).port = s.port := rfl
@[simp] theorem State.countServo_attn (s : State) (f : ServoCounters → ServoCounters) : (s.countServo f).attn = s.attn := rfl
@[simp] theorem State.countServo_store (s : State) (f : ServoCounters → ServoCounters) : (s.countServo f).store = s.store := rfl
@[simp] theorem State.countServo_pending (s : State) (f : ServoCounters → ServoCounters) : (s.countServo f).pending = s.pending := rfl

@[simp] theorem State.setAttention_tb (s : State) (m : AttnMode) (k : CauseSet) : (s.setAttention m k).tb = s.tb := rfl
@[simp] theorem State.setAttention_cycle (s : State) (m : AttnMode) (k : CauseSet) : (s.setAttention m k).cycle = s.cycle := rfl
@[simp] theorem State.setAttention_readings (s : State) (m : AttnMode) (k : CauseSet) : (s.setAttention m k).readings = s.readings := rfl
@[simp] theorem State.setAttention_resetPin (s : State) (m : AttnMode) (k : CauseSet) : (s.setAttention m k).resetPin = s.resetPin := rfl
@[simp] theorem State.setAttention_inhibit (s : State) (m : AttnMode) (k : CauseSet) : (s.setAttention m k).inhibit = s.inhibit := rfl
@[simp] theorem State.setAttention_lastEdge (s : State) (m : AttnMode) (k : CauseSet) : (s.setAttention m k).lastEdge = s.lastEdge := rfl
@[simp] theorem State.setAttention_slots (s : State) (m : AttnMode) (k : CauseSet) : (s.setAttention m k).slots = s.slots := rfl
@[simp] theorem State.setAttention_latest (s : State) (m : AttnMode) (k : CauseSet) : (s.setAttention m k).latest = s.latest := rfl
@[simp] theorem State.setAttention_servo (s : State) (m : AttnMode) (k : CauseSet) : (s.setAttention m k).servo = s.servo := rfl
@[simp] theorem State.setAttention_civil (s : State) (m : AttnMode) (k : CauseSet) : (s.setAttention m k).civil = s.civil := rfl
@[simp] theorem State.setAttention_entries (s : State) (m : AttnMode) (k : CauseSet) : (s.setAttention m k).entries = s.entries := rfl
@[simp] theorem State.setAttention_mgmtNotices (s : State) (m : AttnMode) (k : CauseSet) : (s.setAttention m k).mgmtNotices = s.mgmtNotices := rfl
@[simp] theorem State.setAttention_outs (s : State) (m : AttnMode) (k : CauseSet) : (s.setAttention m k).outs = s.outs := rfl
@[simp] theorem State.setAttention_chain (s : State) (m : AttnMode) (k : CauseSet) : (s.setAttention m k).chain = s.chain := rfl
@[simp] theorem State.setAttention_stations (s : State) (m : AttnMode) (k : CauseSet) : (s.setAttention m k).stations = s.stations := rfl
@[simp] theorem State.setAttention_arrivals (s : State) (m : AttnMode) (k : CauseSet) : (s.setAttention m k).arrivals = s.arrivals := rfl
@[simp] theorem State.setAttention_port (s : State) (m : AttnMode) (k : CauseSet) : (s.setAttention m k).port = s.port := rfl
@[simp] theorem State.setAttention_store (s : State) (m : AttnMode) (k : CauseSet) : (s.setAttention m k).store = s.store := rfl
@[simp] theorem State.setAttention_pending (s : State) (m : AttnMode) (k : CauseSet) : (s.setAttention m k).pending = s.pending := rfl

@[simp] theorem State.setBank_tb (s : State) (b : Fin 4) (ws : List Word32) : (s.setBank b ws).tb = s.tb := rfl
@[simp] theorem State.setBank_cycle (s : State) (b : Fin 4) (ws : List Word32) : (s.setBank b ws).cycle = s.cycle := rfl
@[simp] theorem State.setBank_readings (s : State) (b : Fin 4) (ws : List Word32) : (s.setBank b ws).readings = s.readings := rfl
@[simp] theorem State.setBank_resetPin (s : State) (b : Fin 4) (ws : List Word32) : (s.setBank b ws).resetPin = s.resetPin := rfl
@[simp] theorem State.setBank_inhibit (s : State) (b : Fin 4) (ws : List Word32) : (s.setBank b ws).inhibit = s.inhibit := rfl
@[simp] theorem State.setBank_lastEdge (s : State) (b : Fin 4) (ws : List Word32) : (s.setBank b ws).lastEdge = s.lastEdge := rfl
@[simp] theorem State.setBank_slots (s : State) (b : Fin 4) (ws : List Word32) : (s.setBank b ws).slots = s.slots := rfl
@[simp] theorem State.setBank_latest (s : State) (b : Fin 4) (ws : List Word32) : (s.setBank b ws).latest = s.latest := rfl
@[simp] theorem State.setBank_servo (s : State) (b : Fin 4) (ws : List Word32) : (s.setBank b ws).servo = s.servo := rfl
@[simp] theorem State.setBank_civil (s : State) (b : Fin 4) (ws : List Word32) : (s.setBank b ws).civil = s.civil := rfl
@[simp] theorem State.setBank_entries (s : State) (b : Fin 4) (ws : List Word32) : (s.setBank b ws).entries = s.entries := rfl
@[simp] theorem State.setBank_mgmtNotices (s : State) (b : Fin 4) (ws : List Word32) : (s.setBank b ws).mgmtNotices = s.mgmtNotices := rfl
@[simp] theorem State.setBank_outs (s : State) (b : Fin 4) (ws : List Word32) : (s.setBank b ws).outs = s.outs := rfl
@[simp] theorem State.setBank_chain (s : State) (b : Fin 4) (ws : List Word32) : (s.setBank b ws).chain = s.chain := rfl
@[simp] theorem State.setBank_stations (s : State) (b : Fin 4) (ws : List Word32) : (s.setBank b ws).stations = s.stations := rfl
@[simp] theorem State.setBank_arrivals (s : State) (b : Fin 4) (ws : List Word32) : (s.setBank b ws).arrivals = s.arrivals := rfl
@[simp] theorem State.setBank_port (s : State) (b : Fin 4) (ws : List Word32) : (s.setBank b ws).port = s.port := rfl
@[simp] theorem State.setBank_attn (s : State) (b : Fin 4) (ws : List Word32) : (s.setBank b ws).attn = s.attn := rfl
@[simp] theorem State.setBank_pending (s : State) (b : Fin 4) (ws : List Word32) : (s.setBank b ws).pending = s.pending := rfl

@[simp] theorem State.beginOp_tb (s : State) (x : StoreOp) : (s.beginOp x).tb = s.tb := rfl
@[simp] theorem State.beginOp_cycle (s : State) (x : StoreOp) : (s.beginOp x).cycle = s.cycle := rfl
@[simp] theorem State.beginOp_readings (s : State) (x : StoreOp) : (s.beginOp x).readings = s.readings := rfl
@[simp] theorem State.beginOp_resetPin (s : State) (x : StoreOp) : (s.beginOp x).resetPin = s.resetPin := rfl
@[simp] theorem State.beginOp_inhibit (s : State) (x : StoreOp) : (s.beginOp x).inhibit = s.inhibit := rfl
@[simp] theorem State.beginOp_lastEdge (s : State) (x : StoreOp) : (s.beginOp x).lastEdge = s.lastEdge := rfl
@[simp] theorem State.beginOp_slots (s : State) (x : StoreOp) : (s.beginOp x).slots = s.slots := rfl
@[simp] theorem State.beginOp_latest (s : State) (x : StoreOp) : (s.beginOp x).latest = s.latest := rfl
@[simp] theorem State.beginOp_servo (s : State) (x : StoreOp) : (s.beginOp x).servo = s.servo := rfl
@[simp] theorem State.beginOp_civil (s : State) (x : StoreOp) : (s.beginOp x).civil = s.civil := rfl
@[simp] theorem State.beginOp_entries (s : State) (x : StoreOp) : (s.beginOp x).entries = s.entries := rfl
@[simp] theorem State.beginOp_mgmtNotices (s : State) (x : StoreOp) : (s.beginOp x).mgmtNotices = s.mgmtNotices := rfl
@[simp] theorem State.beginOp_outs (s : State) (x : StoreOp) : (s.beginOp x).outs = s.outs := rfl
@[simp] theorem State.beginOp_chain (s : State) (x : StoreOp) : (s.beginOp x).chain = s.chain := rfl
@[simp] theorem State.beginOp_stations (s : State) (x : StoreOp) : (s.beginOp x).stations = s.stations := rfl
@[simp] theorem State.beginOp_arrivals (s : State) (x : StoreOp) : (s.beginOp x).arrivals = s.arrivals := rfl
@[simp] theorem State.beginOp_port (s : State) (x : StoreOp) : (s.beginOp x).port = s.port := rfl
@[simp] theorem State.beginOp_attn (s : State) (x : StoreOp) : (s.beginOp x).attn = s.attn := rfl
@[simp] theorem State.beginOp_pending (s : State) (x : StoreOp) : (s.beginOp x).pending = s.pending := rfl

@[simp] theorem State.setStartOk_tb (s : State) (b : Bool) : (s.setStartOk b).tb = s.tb := rfl
@[simp] theorem State.setStartOk_cycle (s : State) (b : Bool) : (s.setStartOk b).cycle = s.cycle := rfl
@[simp] theorem State.setStartOk_readings (s : State) (b : Bool) : (s.setStartOk b).readings = s.readings := rfl
@[simp] theorem State.setStartOk_resetPin (s : State) (b : Bool) : (s.setStartOk b).resetPin = s.resetPin := rfl
@[simp] theorem State.setStartOk_inhibit (s : State) (b : Bool) : (s.setStartOk b).inhibit = s.inhibit := rfl
@[simp] theorem State.setStartOk_lastEdge (s : State) (b : Bool) : (s.setStartOk b).lastEdge = s.lastEdge := rfl
@[simp] theorem State.setStartOk_slots (s : State) (b : Bool) : (s.setStartOk b).slots = s.slots := rfl
@[simp] theorem State.setStartOk_latest (s : State) (b : Bool) : (s.setStartOk b).latest = s.latest := rfl
@[simp] theorem State.setStartOk_servo (s : State) (b : Bool) : (s.setStartOk b).servo = s.servo := rfl
@[simp] theorem State.setStartOk_civil (s : State) (b : Bool) : (s.setStartOk b).civil = s.civil := rfl
@[simp] theorem State.setStartOk_entries (s : State) (b : Bool) : (s.setStartOk b).entries = s.entries := rfl
@[simp] theorem State.setStartOk_mgmtNotices (s : State) (b : Bool) : (s.setStartOk b).mgmtNotices = s.mgmtNotices := rfl
@[simp] theorem State.setStartOk_outs (s : State) (b : Bool) : (s.setStartOk b).outs = s.outs := rfl
@[simp] theorem State.setStartOk_chain (s : State) (b : Bool) : (s.setStartOk b).chain = s.chain := rfl
@[simp] theorem State.setStartOk_stations (s : State) (b : Bool) : (s.setStartOk b).stations = s.stations := rfl
@[simp] theorem State.setStartOk_arrivals (s : State) (b : Bool) : (s.setStartOk b).arrivals = s.arrivals := rfl
@[simp] theorem State.setStartOk_port (s : State) (b : Bool) : (s.setStartOk b).port = s.port := rfl
@[simp] theorem State.setStartOk_attn (s : State) (b : Bool) : (s.setStartOk b).attn = s.attn := rfl
@[simp] theorem State.setStartOk_pending (s : State) (b : Bool) : (s.setStartOk b).pending = s.pending := rfl

@[simp] theorem State.markSlot_tb (s : State) (q : BitVec 8) (st : SlotState) : (s.markSlot q st).tb = s.tb := rfl
@[simp] theorem State.markSlot_cycle (s : State) (q : BitVec 8) (st : SlotState) : (s.markSlot q st).cycle = s.cycle := rfl
@[simp] theorem State.markSlot_readings (s : State) (q : BitVec 8) (st : SlotState) : (s.markSlot q st).readings = s.readings := rfl
@[simp] theorem State.markSlot_resetPin (s : State) (q : BitVec 8) (st : SlotState) : (s.markSlot q st).resetPin = s.resetPin := rfl
@[simp] theorem State.markSlot_inhibit (s : State) (q : BitVec 8) (st : SlotState) : (s.markSlot q st).inhibit = s.inhibit := rfl
@[simp] theorem State.markSlot_lastEdge (s : State) (q : BitVec 8) (st : SlotState) : (s.markSlot q st).lastEdge = s.lastEdge := rfl
@[simp] theorem State.markSlot_latest (s : State) (q : BitVec 8) (st : SlotState) : (s.markSlot q st).latest = s.latest := rfl
@[simp] theorem State.markSlot_servo (s : State) (q : BitVec 8) (st : SlotState) : (s.markSlot q st).servo = s.servo := rfl
@[simp] theorem State.markSlot_civil (s : State) (q : BitVec 8) (st : SlotState) : (s.markSlot q st).civil = s.civil := rfl
@[simp] theorem State.markSlot_entries (s : State) (q : BitVec 8) (st : SlotState) : (s.markSlot q st).entries = s.entries := rfl
@[simp] theorem State.markSlot_mgmtNotices (s : State) (q : BitVec 8) (st : SlotState) : (s.markSlot q st).mgmtNotices = s.mgmtNotices := rfl
@[simp] theorem State.markSlot_outs (s : State) (q : BitVec 8) (st : SlotState) : (s.markSlot q st).outs = s.outs := rfl
@[simp] theorem State.markSlot_chain (s : State) (q : BitVec 8) (st : SlotState) : (s.markSlot q st).chain = s.chain := rfl
@[simp] theorem State.markSlot_stations (s : State) (q : BitVec 8) (st : SlotState) : (s.markSlot q st).stations = s.stations := rfl
@[simp] theorem State.markSlot_arrivals (s : State) (q : BitVec 8) (st : SlotState) : (s.markSlot q st).arrivals = s.arrivals := rfl
@[simp] theorem State.markSlot_port (s : State) (q : BitVec 8) (st : SlotState) : (s.markSlot q st).port = s.port := rfl
@[simp] theorem State.markSlot_attn (s : State) (q : BitVec 8) (st : SlotState) : (s.markSlot q st).attn = s.attn := rfl
@[simp] theorem State.markSlot_store (s : State) (q : BitVec 8) (st : SlotState) : (s.markSlot q st).store = s.store := rfl
@[simp] theorem State.markSlot_pending (s : State) (q : BitVec 8) (st : SlotState) : (s.markSlot q st).pending = s.pending := rfl

@[simp] theorem State.fileEdge_tb (s : State) (p : Fin 8) : (s.fileEdge p).tb = s.tb := by simp only [State.fileEdge]
@[simp] theorem State.fileEdge_cycle (s : State) (p : Fin 8) : (s.fileEdge p).cycle = s.cycle := by simp only [State.fileEdge]
@[simp] theorem State.fileEdge_readings (s : State) (p : Fin 8) : (s.fileEdge p).readings = s.readings := by simp only [State.fileEdge]
@[simp] theorem State.fileEdge_resetPin (s : State) (p : Fin 8) : (s.fileEdge p).resetPin = s.resetPin := by simp only [State.fileEdge]
@[simp] theorem State.fileEdge_inhibit (s : State) (p : Fin 8) : (s.fileEdge p).inhibit = s.inhibit := by simp only [State.fileEdge]
@[simp] theorem State.fileEdge_servo (s : State) (p : Fin 8) : (s.fileEdge p).servo = s.servo := by simp only [State.fileEdge]
@[simp] theorem State.fileEdge_civil (s : State) (p : Fin 8) : (s.fileEdge p).civil = s.civil := by simp only [State.fileEdge]
@[simp] theorem State.fileEdge_entries (s : State) (p : Fin 8) : (s.fileEdge p).entries = s.entries := by simp only [State.fileEdge]
@[simp] theorem State.fileEdge_mgmtNotices (s : State) (p : Fin 8) : (s.fileEdge p).mgmtNotices = s.mgmtNotices := by simp only [State.fileEdge]
@[simp] theorem State.fileEdge_outs (s : State) (p : Fin 8) : (s.fileEdge p).outs = s.outs := by simp only [State.fileEdge]
@[simp] theorem State.fileEdge_chain (s : State) (p : Fin 8) : (s.fileEdge p).chain = s.chain := by simp only [State.fileEdge]
@[simp] theorem State.fileEdge_stations (s : State) (p : Fin 8) : (s.fileEdge p).stations = s.stations := by simp only [State.fileEdge]
@[simp] theorem State.fileEdge_arrivals (s : State) (p : Fin 8) : (s.fileEdge p).arrivals = s.arrivals := by simp only [State.fileEdge]
@[simp] theorem State.fileEdge_port (s : State) (p : Fin 8) : (s.fileEdge p).port = s.port := by simp only [State.fileEdge]
@[simp] theorem State.fileEdge_attn (s : State) (p : Fin 8) : (s.fileEdge p).attn = s.attn := by simp only [State.fileEdge]
@[simp] theorem State.fileEdge_store (s : State) (p : Fin 8) : (s.fileEdge p).store = s.store := by simp only [State.fileEdge]
@[simp] theorem State.fileEdge_pending (s : State) (p : Fin 8) : (s.fileEdge p).pending = s.pending := by simp only [State.fileEdge]

@[simp] theorem State.tick_resetPin (s : State) : (s.tick).resetPin = s.resetPin := by simp only [State.tick]
@[simp] theorem State.tick_inhibit (s : State) : (s.tick).inhibit = s.inhibit := by simp only [State.tick]
@[simp] theorem State.tick_lastEdge (s : State) : (s.tick).lastEdge = s.lastEdge := by simp only [State.tick]
@[simp] theorem State.tick_slots (s : State) : (s.tick).slots = s.slots := by simp only [State.tick]
@[simp] theorem State.tick_latest (s : State) : (s.tick).latest = s.latest := by simp only [State.tick]
@[simp] theorem State.tick_servo (s : State) : (s.tick).servo = s.servo := by simp only [State.tick]
@[simp] theorem State.tick_civil (s : State) : (s.tick).civil = s.civil := by simp only [State.tick]
@[simp] theorem State.tick_entries (s : State) : (s.tick).entries = s.entries := by simp only [State.tick]
@[simp] theorem State.tick_mgmtNotices (s : State) : (s.tick).mgmtNotices = s.mgmtNotices := by simp only [State.tick]
@[simp] theorem State.tick_outs (s : State) : (s.tick).outs = s.outs := by simp only [State.tick]
@[simp] theorem State.tick_chain (s : State) : (s.tick).chain = s.chain := by simp only [State.tick]
@[simp] theorem State.tick_stations (s : State) : (s.tick).stations = s.stations := by simp only [State.tick]
@[simp] theorem State.tick_arrivals (s : State) : (s.tick).arrivals = s.arrivals := by simp only [State.tick]
@[simp] theorem State.tick_port (s : State) : (s.tick).port = s.port := by simp only [State.tick]
@[simp] theorem State.tick_attn (s : State) : (s.tick).attn = s.attn := by simp only [State.tick]
@[simp] theorem State.tick_store (s : State) : (s.tick).store = s.store := by simp only [State.tick]
@[simp] theorem State.tick_pending (s : State) : (s.tick).pending = s.pending := by simp only [State.tick]

@[simp] theorem State.countLoss_tb (s : State) : (s.countLoss).tb = s.tb := by simp only [State.countLoss]
@[simp] theorem State.countLoss_cycle (s : State) : (s.countLoss).cycle = s.cycle := by simp only [State.countLoss]
@[simp] theorem State.countLoss_readings (s : State) : (s.countLoss).readings = s.readings := by simp only [State.countLoss]
@[simp] theorem State.countLoss_resetPin (s : State) : (s.countLoss).resetPin = s.resetPin := by simp only [State.countLoss]
@[simp] theorem State.countLoss_inhibit (s : State) : (s.countLoss).inhibit = s.inhibit := by simp only [State.countLoss]
@[simp] theorem State.countLoss_lastEdge (s : State) : (s.countLoss).lastEdge = s.lastEdge := by simp only [State.countLoss]
@[simp] theorem State.countLoss_slots (s : State) : (s.countLoss).slots = s.slots := by simp only [State.countLoss]
@[simp] theorem State.countLoss_latest (s : State) : (s.countLoss).latest = s.latest := by simp only [State.countLoss]
@[simp] theorem State.countLoss_servo (s : State) : (s.countLoss).servo = s.servo := by simp only [State.countLoss]
@[simp] theorem State.countLoss_civil (s : State) : (s.countLoss).civil = s.civil := by simp only [State.countLoss]
@[simp] theorem State.countLoss_entries (s : State) : (s.countLoss).entries = s.entries := by simp only [State.countLoss]
@[simp] theorem State.countLoss_mgmtNotices (s : State) : (s.countLoss).mgmtNotices = s.mgmtNotices := by simp only [State.countLoss]
@[simp] theorem State.countLoss_outs (s : State) : (s.countLoss).outs = s.outs := by simp only [State.countLoss]
@[simp] theorem State.countLoss_chain (s : State) : (s.countLoss).chain = s.chain := by simp only [State.countLoss]
@[simp] theorem State.countLoss_stations (s : State) : (s.countLoss).stations = s.stations := by simp only [State.countLoss]
@[simp] theorem State.countLoss_arrivals (s : State) : (s.countLoss).arrivals = s.arrivals := by simp only [State.countLoss]
@[simp] theorem State.countLoss_attn (s : State) : (s.countLoss).attn = s.attn := by simp only [State.countLoss]
@[simp] theorem State.countLoss_store (s : State) : (s.countLoss).store = s.store := by simp only [State.countLoss]
@[simp] theorem State.countLoss_pending (s : State) : (s.countLoss).pending = s.pending := by simp only [State.countLoss]

@[simp] theorem State.countError_tb (s : State) : (s.countError).tb = s.tb := by simp only [State.countError]
@[simp] theorem State.countError_cycle (s : State) : (s.countError).cycle = s.cycle := by simp only [State.countError]
@[simp] theorem State.countError_readings (s : State) : (s.countError).readings = s.readings := by simp only [State.countError]
@[simp] theorem State.countError_resetPin (s : State) : (s.countError).resetPin = s.resetPin := by simp only [State.countError]
@[simp] theorem State.countError_inhibit (s : State) : (s.countError).inhibit = s.inhibit := by simp only [State.countError]
@[simp] theorem State.countError_lastEdge (s : State) : (s.countError).lastEdge = s.lastEdge := by simp only [State.countError]
@[simp] theorem State.countError_slots (s : State) : (s.countError).slots = s.slots := by simp only [State.countError]
@[simp] theorem State.countError_latest (s : State) : (s.countError).latest = s.latest := by simp only [State.countError]
@[simp] theorem State.countError_servo (s : State) : (s.countError).servo = s.servo := by simp only [State.countError]
@[simp] theorem State.countError_civil (s : State) : (s.countError).civil = s.civil := by simp only [State.countError]
@[simp] theorem State.countError_entries (s : State) : (s.countError).entries = s.entries := by simp only [State.countError]
@[simp] theorem State.countError_mgmtNotices (s : State) : (s.countError).mgmtNotices = s.mgmtNotices := by simp only [State.countError]
@[simp] theorem State.countError_outs (s : State) : (s.countError).outs = s.outs := by simp only [State.countError]
@[simp] theorem State.countError_chain (s : State) : (s.countError).chain = s.chain := by simp only [State.countError]
@[simp] theorem State.countError_stations (s : State) : (s.countError).stations = s.stations := by simp only [State.countError]
@[simp] theorem State.countError_arrivals (s : State) : (s.countError).arrivals = s.arrivals := by simp only [State.countError]
@[simp] theorem State.countError_attn (s : State) : (s.countError).attn = s.attn := by simp only [State.countError]
@[simp] theorem State.countError_store (s : State) : (s.countError).store = s.store := by simp only [State.countError]
@[simp] theorem State.countError_pending (s : State) : (s.countError).pending = s.pending := by simp only [State.countError]

@[simp] theorem State.leaveSlot_tb (s : State) : (s.leaveSlot).tb = s.tb := by simp only [State.leaveSlot]
@[simp] theorem State.leaveSlot_cycle (s : State) : (s.leaveSlot).cycle = s.cycle := by simp only [State.leaveSlot]
@[simp] theorem State.leaveSlot_readings (s : State) : (s.leaveSlot).readings = s.readings := by simp only [State.leaveSlot]
@[simp] theorem State.leaveSlot_resetPin (s : State) : (s.leaveSlot).resetPin = s.resetPin := by simp only [State.leaveSlot]
@[simp] theorem State.leaveSlot_inhibit (s : State) : (s.leaveSlot).inhibit = s.inhibit := by simp only [State.leaveSlot]
@[simp] theorem State.leaveSlot_lastEdge (s : State) : (s.leaveSlot).lastEdge = s.lastEdge := by simp only [State.leaveSlot]
@[simp] theorem State.leaveSlot_slots (s : State) : (s.leaveSlot).slots = s.slots := by simp only [State.leaveSlot]
@[simp] theorem State.leaveSlot_latest (s : State) : (s.leaveSlot).latest = s.latest := by simp only [State.leaveSlot]
@[simp] theorem State.leaveSlot_servo (s : State) : (s.leaveSlot).servo = s.servo := by simp only [State.leaveSlot]
@[simp] theorem State.leaveSlot_civil (s : State) : (s.leaveSlot).civil = s.civil := by simp only [State.leaveSlot]
@[simp] theorem State.leaveSlot_entries (s : State) : (s.leaveSlot).entries = s.entries := by simp only [State.leaveSlot]
@[simp] theorem State.leaveSlot_mgmtNotices (s : State) : (s.leaveSlot).mgmtNotices = s.mgmtNotices := by simp only [State.leaveSlot]
@[simp] theorem State.leaveSlot_outs (s : State) : (s.leaveSlot).outs = s.outs := by simp only [State.leaveSlot]
@[simp] theorem State.leaveSlot_chain (s : State) : (s.leaveSlot).chain = s.chain := by simp only [State.leaveSlot]
@[simp] theorem State.leaveSlot_stations (s : State) : (s.leaveSlot).stations = s.stations := by simp only [State.leaveSlot]
@[simp] theorem State.leaveSlot_attn (s : State) : (s.leaveSlot).attn = s.attn := by simp only [State.leaveSlot]
@[simp] theorem State.leaveSlot_store (s : State) : (s.leaveSlot).store = s.store := by simp only [State.leaveSlot]
@[simp] theorem State.leaveSlot_pending (s : State) : (s.leaveSlot).pending = s.pending := by simp only [State.leaveSlot]

@[simp] theorem State.clearFigures_tb (s : State) : (s.clearFigures).tb = s.tb := rfl
@[simp] theorem State.clearFigures_cycle (s : State) : (s.clearFigures).cycle = s.cycle := rfl
@[simp] theorem State.clearFigures_readings (s : State) : (s.clearFigures).readings = s.readings := rfl
@[simp] theorem State.clearFigures_resetPin (s : State) : (s.clearFigures).resetPin = s.resetPin := rfl
@[simp] theorem State.clearFigures_inhibit (s : State) : (s.clearFigures).inhibit = s.inhibit := rfl
@[simp] theorem State.clearFigures_lastEdge (s : State) : (s.clearFigures).lastEdge = s.lastEdge := rfl
@[simp] theorem State.clearFigures_slots (s : State) : (s.clearFigures).slots = s.slots := rfl
@[simp] theorem State.clearFigures_latest (s : State) : (s.clearFigures).latest = s.latest := rfl
@[simp] theorem State.clearFigures_civil (s : State) : (s.clearFigures).civil = s.civil := rfl
@[simp] theorem State.clearFigures_entries (s : State) : (s.clearFigures).entries = s.entries := rfl
@[simp] theorem State.clearFigures_mgmtNotices (s : State) : (s.clearFigures).mgmtNotices = s.mgmtNotices := rfl
@[simp] theorem State.clearFigures_outs (s : State) : (s.clearFigures).outs = s.outs := rfl
@[simp] theorem State.clearFigures_stations (s : State) : (s.clearFigures).stations = s.stations := rfl
@[simp] theorem State.clearFigures_arrivals (s : State) : (s.clearFigures).arrivals = s.arrivals := rfl
@[simp] theorem State.clearFigures_store (s : State) : (s.clearFigures).store = s.store := rfl
@[simp] theorem State.clearFigures_pending (s : State) : (s.clearFigures).pending = s.pending := rfl

@[simp] theorem State.setEntry_at (s : State) (i : Idx) (e : Entry) : (s.setEntry i e).entries[i.val] = e := by
  simp [State.setEntry]

theorem State.setEntry_ne (s : State) (i j : Idx) (e : Entry) (h : j ≠ i) :
    (s.setEntry i e).entries[j.val] = s.entries[j.val] := by
  have : i.val ≠ j.val := fun g => h (Fin.ext g.symm)
  simp [State.setEntry, Vector.getElem_set_ne, this]

@[simp] theorem State.setStation_at (s : State) (x : Addr) (r : Station) : (s.setStation x r).stations[x.val] = r := by
  simp [State.setStation]

theorem State.setStation_ne (s : State) (x j : Addr) (r : Station) (h : j ≠ x) :
    (s.setStation x r).stations[j.val] = s.stations[j.val] := by
  have : x.val ≠ j.val := fun g => h (Fin.ext g.symm)
  simp [State.setStation, Vector.getElem_set_ne, this]

@[simp] theorem State.setOutput_at (s : State) (o : OutNo) (r : Output) : (s.setOutput o r).outs[o.val] = r := by
  simp [State.setOutput]

theorem State.setOutput_ne (s : State) (o j : OutNo) (r : Output) (h : j ≠ o) :
    (s.setOutput o r).outs[j.val] = s.outs[j.val] := by
  have : o.val ≠ j.val := fun g => h (Fin.ext g.symm)
  simp [State.setOutput, Vector.getElem_set_ne, this]

@[simp] theorem State.mapEntries_at (s : State) (f : Idx → Entry → Entry) (i : Idx) : (s.mapEntries f).entries[i.val] = f i s.entries[i] := by
  simp [State.mapEntries]

@[simp] theorem State.mapStations_at (s : State) (f : Addr → Station → Station) (x : Addr) : (s.mapStations f).stations[x.val] = f x s.stations[x] := by
  simp [State.mapStations]

@[simp] theorem State.mapOutputs_at (s : State) (f : Output → Output) (o : OutNo) : (s.mapOutputs f).outs[o.val] = f s.outs[o] := by
  simp [State.mapOutputs]

end Sys2Proof.Machine
end

