-- ==== Sys2Proof/Laws/Chain.lean ====
section
/-! SUPPORT. What the operations behind the notices, the readings, the port's reads and the service cycle can do, said once for
each. -/

namespace Sys2Proof.Machine

open Sys2Proof Config

/-! ## Notice sets -/

@[simp] theorem mem_insertIdx (i j : Idx) (l : List Idx) : j ∈ insertIdx i l ↔ j = i ∨ j ∈ l := by
  induction l with
  | nil => simp [insertIdx]
  | cons k ks ih =>
    by_cases h1 : i < k
    · simp [insertIdx, h1]
    · by_cases h2 : i = k
      · subst h2; simp [insertIdx]
      · simp [insertIdx, h1, h2, ih, or_left_comm]

/-- R7: a set in ascending order stays so with one more member. -/
theorem insertIdx_ascending (i : Idx) {l : List Idx} (h : l.Pairwise (· < ·)) : (insertIdx i l).Pairwise (· < ·) := by
  induction l with
  | nil => simp [insertIdx]
  | cons k ks ih =>
    obtain ⟨hk, hks⟩ := List.pairwise_cons.1 h
    by_cases h1 : i < k
    · simp only [insertIdx, h1, if_true]
      exact List.pairwise_cons.2 ⟨fun j hj => (List.mem_cons.1 hj).elim (fun e => e ▸ h1) fun hj => lt_trans h1 (hk j hj), h⟩
    · by_cases h2 : i = k
      · simpa [insertIdx, h1, h2] using h
      · simp only [insertIdx, h1, h2, if_false]
        refine List.pairwise_cons.2 ⟨fun j hj => ?_, ih hks⟩
        rcases (mem_insertIdx i j ks).1 hj with rfl | hj
        · exact lt_of_le_of_ne (not_lt.1 h1) (Ne.symm h2)
        · exact hk j hj

/-! ## Readings -/

/-- R122: a bit that begins in the present cycle is read at the present time. -/
@[simp] theorem State.timeAt_cycle (s : State) : s.timeAt s.cycle = s.now := by simp [State.timeAt]

@[simp] theorem State.bitCycle_zero (s : State) : s.bitCycle 0 = s.cycle := by simp [State.bitCycle]

/-! ## CTX -/

/-- R123: CTX is held at 1 while RESET is asserted. -/
theorem State.ctxHigh_reset {s : State} (h : s.resetPin = true) : s.ctxHigh = true := by simp [State.ctxHigh, h]

theorem State.ctxHigh_frame {s : State} {f : TxFrame} (h : s.resetPin = false) (hf : s.chain.tx = some f) :
    s.ctxHigh = f.level s.cycle := by simp [State.ctxHigh, h, hf]

/-- R124: leaving RUNNING with nothing on CTX sends nothing; in the last bit of a service frame the nine 1s go out. -/
theorem State.abortTx_none {s : State} (h : s.chain.tx = none) :
    s.abortTx = if s.lastBit then
        s.cutLine { bit := false, start := s.chain.lineBase - cyclesPerBit * ((s.chain.lineBase - s.cycle) / cyclesPerBit) }
      else s := by simp [State.abortTx, h]

/-! ## Label bases -/

@[simp] theorem Civil.rebased_offset (c : Civil) (r : Nat) : (c.rebased r).offset = c.offset := rfl
@[simp] theorem Civil.rebased_jam (c : Civil) (r : Nat) : (c.rebased r).jam = c.jam := rfl
@[simp] theorem Civil.rebased_pending (c : Civil) (r : Nat) : (c.rebased r).pending = c.pending := rfl
@[simp] theorem Civil.rebased_tL (c : Civil) (r : Nat) : (c.rebased r).tL = c.tL := rfl

/-- R58, R61: a re-base that leaves tB as it was, with O and J unchanged, leaves every entry as it was. -/
theorem State.rebase_kept {s : State} {old : Civil} {r : Nat} (h : old.keepsBases (s.civil.rebased r) = true) :
    s.rebase old r = { s with civil := s.civil.rebased r } := by simp [State.rebase, h]

/-- R58: any other re-base computes both bases of every labelled entry. -/
theorem State.rebase_moved {s : State} {old : Civil} {r : Nat} (h : old.keepsBases (s.civil.rebased r) = false) :
    s.rebase old r = { s with civil := s.civil.rebased r }.mapEntries fun _ e =>
      if e.state = EntryState.vacant then e else e.withBases (s.civil.rebased r) := by simp [State.rebase, h]

/-! ## Reports -/

/-- R154: A(kr) of a mark to come. -/
theorem Entry.reportInstant_ahead {e : Entry} {k : Nat} (h : e.nextMark ≤ k) : e.reportInstant k = e.foreseen k := by
  simp [Entry.reportInstant, h]

/-- R154: A(kr) of a mark that the report has waited past. -/
theorem Entry.reportInstant_past {e : Entry} {k : Nat} {l : Int} (h : k < e.nextMark) (hl : e.lm = some l) :
    e.reportInstant k = l := by simp [Entry.reportInstant, Nat.not_le.2 h, hl]

/-- R153: a choice of kr moves kr, S0 and the skipped count alone. -/
theorem Stream.choose_keeps (st : Stream) (e : Entry) (delta : Option Nat) (t : Int) (above : Option Nat) (counted : Bool) :
    ∃ (k : Option Nat) (a : Option Int) (n : Nat),
      st.choose e delta t above counted = { st with kr := k, s0 := a, skipped := n } := by
  cases delta with
  | none => exact ⟨none, none, st.skipped, rfl⟩
  | some d =>
    cases above <;>
    · simp only [Stream.choose]
      split <;> exact ⟨_, _, _, rfl⟩

@[simp] theorem Stream.choose_step (st : Stream) (e : Entry) (delta : Option Nat) (t : Int) (above : Option Nat) (counted : Bool) :
    (st.choose e delta t above counted).step = st.step := by
  obtain ⟨k, a, n, h⟩ := st.choose_keeps e delta t above counted
  simp [h]

@[simp] theorem Stream.choose_lead (st : Stream) (e : Entry) (delta : Option Nat) (t : Int) (above : Option Nat) (counted : Bool) :
    (st.choose e delta t above counted).lead = st.lead := by
  obtain ⟨k, a, n, h⟩ := st.choose_keeps e delta t above counted
  simp [h]

/-- R156: no event at the entry lowers a stream's step or moves its lead. -/
theorem Stream.replan_keeps (st : Stream) (how : Replan) (e : Entry) (delta : Option Nat) (t : Int) :
    st.step ≤ (st.replan how e delta t).step ∧ (st.replan how e delta t).lead = st.lead := by
  cases how with
  | snapped => simp [Stream.replan]
  | restarted => simp [Stream.replan]
  | recompute old =>
    simp only [Stream.replan]
    (repeat' split) <;> simp

theorem Stream.replan_snapped (st : Stream) (e : Entry) (delta : Option Nat) (t : Int) :
    st.replan .snapped e delta t = st.choose e delta t none false := rfl
/-- R153, R156: a rate restart counts the multiples passed over, ACTIVE or SUSPENDED. -/
theorem Stream.replan_restarted (st : Stream) (e : Entry) (delta : Option Nat) (t : Int) :
    st.replan .restarted e delta t = Stream.choose { st with step := max st.step (leastStep e.pf) } e delta t none true := rfl
/-- R156: without a kr, or a path delay, an event at the entry chooses. -/
theorem Stream.replan_absent {st : Stream} {old e : Entry} {delta : Option Nat} {t : Int} (h : st.kr = none ∨ delta = none) :
    st.replan (.recompute old) e delta t = st.choose e delta t none false := by
  rcases h with h | h
  · simp [Stream.replan, h]
  · subst h
    cases hk : st.kr <;> simp [Stream.replan, hk]

/-- R155, R156: a change of the streams on entry `i` reaches every station's stream on it, and nothing else of a station. -/
@[simp] theorem State.mapStreamsOn_at (s : State) (i : Idx) (f : Station → Stream → Stream) (x : Addr) :
    (s.mapStreamsOn i f).stations[x.val] = { s.stations[x] with
      stream := s.stations[x].stream.map fun st => if st.entry.index = i then f s.stations[x] st else st } := by
  simp only [State.mapStreamsOn, State.mapStations_at]
  generalize s.stations[x] = r
  split
  · next st h => by_cases e : st.entry.index = i <;> simp only [h, e, if_true, if_false, Option.map_some]; rw [← h]
  · next h => simp only [h, Option.map_none]; rw [← h]

/-- R156: what an event at entry `i` leaves in every station's stream. -/
@[simp] theorem State.replan_at (s : State) (i : Idx) (how : Replan) (t : Int) (x : Addr) :
    (s.replan i how t).stations[x.val] = { s.stations[x] with
      stream := s.stations[x].stream.map fun st =>
        if st.entry.index = i then st.replan how s.entries[i] s.stations[x].delta t else st } :=
  s.mapStreamsOn_at i _ x

/-- R155: what a mark due of entry `i` leaves in every station's stream. -/
@[simp] theorem State.skipSuspended_at (s : State) (i : Idx) (k : Nat) (x : Addr) :
    (s.skipSuspended i k).stations[x.val] = { s.stations[x] with
      stream := s.stations[x].stream.map fun st =>
        if st.entry.index = i then
          if st.state = .suspended ∧ k % st.step = 0 then { st with skipped := satAdd 255 st.skipped 1 } else st
        else st } :=
  s.mapStreamsOn_at i _ x

/-- R154, R156: a report that has waited past its mark stands while A(kr) does. -/
theorem Stream.replan_late {st : Stream} {old e : Entry} {k d : Nat} {t : Int} (hk : st.kr = some k) (h : k < e.nextMark)
    (ho : k < old.nextMark) (ha : e.reportInstant k = old.reportInstant k) :
    st.replan (.recompute old) e (some d) t = st := by simp [Stream.replan, hk, h, ho, ha]

/-- R151: a stream just opened has the step it is given. -/
theorem openStream_step (ref : EntryRef) (e : Entry) (d lead : Nat) (delta : Option Nat) (t : Nat) :
    (openStream ref e d lead delta t).step = d := by simp [openStream]

/-! ## Reads -/

@[simp] theorem Port.finishRead_none {p : Port} (h : p.reading = none) (n : Nat) : p.finishRead n = p := by
  simp [Port.finishRead, h]

theorem Port.finishRead_some {p : Port} {x : PortRead} (h : p.reading = some x) (n : Nat) :
    p.finishRead n = p.endRead x n := by simp [Port.finishRead, h]

/-- R170: a read delivers its result when all of it has gone out and the slot still holds it. -/
theorem Port.endRead_delivers {p : Port} {x : PortRead} {n : Nat} (hx : x.holds = true) (hn : x.answer.length ≤ n) :
    p.endRead x n = { p with reading := none, sdo := x.clockOut n }.vacate := by simp [Port.endRead, hx, hn]

theorem Port.endRead_keeps {p : Port} {x : PortRead} {n : Nat} (h : x.holds = false ∨ n < x.answer.length) :
    p.endRead x n = { p with reading := none, sdo := x.clockOut n } := by
  rcases h with h | h
  · simp [Port.endRead, h]
  · simp [Port.endRead, Nat.not_le.2 h]

/-! ## The service cycle -/

/-- R139, R146, R147: when the frame of a step is due, and to whom. -/
theorem State.serviceDue_some_iff (s : State) (k : FrameKind) (x : Addr) :
    s.serviceDue k = some x ↔ s.chain.chosen = some x ∧ s.chain.step.frame = k ∧ s.chain.state = .running
      ∧ s.chain.svc = none ∧ s.lineFree = true ∧ s.admits (frameBits k x (s.serviceBody k x)) = true := by
  unfold State.serviceDue
  cases h : s.chain.chosen with
  | none => simp
  | some y =>
    by_cases e : y = x
    · subst e; simp
    · simp [e]

/-- R139: forming a frame sends it, passes its addressee over, or does nothing. -/
theorem State.formService_cases (s : State) (k : FrameKind) :
    (∃ x, s.serviceDue k = some x ∧ s.qualifies k x = true ∧ s.formService k = s.sendService k x)
    ∨ (∃ x, s.serviceDue k = some x ∧ s.qualifies k x = false ∧ s.formService k = s.passOver k x)
    ∨ s.serviceDue k = none ∧ s.formService k = s := by
  unfold State.formService
  cases h : s.serviceDue k with
  | none => simp
  | some x => cases hq : s.qualifies k x <;> simp [hq]

/-- R139: a chosen addressee is kept. -/
theorem State.choose_of_chosen {s : State} {x : Addr} (h : s.chain.chosen = some x) : s.choose = s := by
  simp [State.choose, State.choiceDue, h]

end Sys2Proof.Machine
end

