-- ==== Sys2Proof/Laws/Frames.lean ====
section
/-! SUPPORT. What the shared operations leave as it was: for each operation, one lemma for each of the fields it never
changes. -/

namespace Sys2Proof.Machine

open Sys2Proof Config

/-- A fold of steps that keep a figure keeps it. -/
theorem keep_foldl {α β : Type} (g : State → β) {f : State → α → State} (l : List α) (s : State)
    (h : ∀ s a, g (f s a) = g s) : g (l.foldl f s) = g s := by
  induction l generalizing s with
  | nil => rfl
  | cons a l ih => rw [List.foldl_cons, ih, h]


@[simp] theorem State.raise_cycle (s : State) (c : Cause) :
    (s.raise c).cycle = s.cycle := by unfold State.raise; split <;> simp
@[simp] theorem State.raise_readings (s : State) (c : Cause) :
    (s.raise c).readings = s.readings := by unfold State.raise; split <;> simp
@[simp] theorem State.raise_tb (s : State) (c : Cause) :
    (s.raise c).tb = s.tb := by unfold State.raise; split <;> simp
@[simp] theorem State.raise_resetPin (s : State) (c : Cause) :
    (s.raise c).resetPin = s.resetPin := by unfold State.raise; split <;> simp
@[simp] theorem State.raise_inhibit (s : State) (c : Cause) :
    (s.raise c).inhibit = s.inhibit := by unfold State.raise; split <;> simp
@[simp] theorem State.raise_servo (s : State) (c : Cause) :
    (s.raise c).servo = s.servo := by unfold State.raise; split <;> simp
@[simp] theorem State.raise_entries (s : State) (c : Cause) :
    (s.raise c).entries = s.entries := by unfold State.raise; split <;> simp
@[simp] theorem State.raise_outs (s : State) (c : Cause) :
    (s.raise c).outs = s.outs := by unfold State.raise; split <;> simp
@[simp] theorem State.raise_pending (s : State) (c : Cause) :
    (s.raise c).pending = s.pending := by unfold State.raise; split <;> simp

@[simp] theorem State.noteManagement_cycle (s : State) (i : Idx) :
    (s.noteManagement i).cycle = s.cycle := by unfold State.noteManagement; split <;> simp
@[simp] theorem State.noteManagement_readings (s : State) (i : Idx) :
    (s.noteManagement i).readings = s.readings := by unfold State.noteManagement; split <;> simp
@[simp] theorem State.noteManagement_tb (s : State) (i : Idx) :
    (s.noteManagement i).tb = s.tb := by unfold State.noteManagement; split <;> simp
@[simp] theorem State.noteManagement_resetPin (s : State) (i : Idx) :
    (s.noteManagement i).resetPin = s.resetPin := by unfold State.noteManagement; split <;> simp
@[simp] theorem State.noteManagement_inhibit (s : State) (i : Idx) :
    (s.noteManagement i).inhibit = s.inhibit := by unfold State.noteManagement; split <;> simp
@[simp] theorem State.noteManagement_servo (s : State) (i : Idx) :
    (s.noteManagement i).servo = s.servo := by unfold State.noteManagement; split <;> simp
@[simp] theorem State.noteManagement_entries (s : State) (i : Idx) :
    (s.noteManagement i).entries = s.entries := by unfold State.noteManagement; split <;> simp
@[simp] theorem State.noteManagement_outs (s : State) (i : Idx) :
    (s.noteManagement i).outs = s.outs := by unfold State.noteManagement; split <;> simp
@[simp] theorem State.noteManagement_pending (s : State) (i : Idx) :
    (s.noteManagement i).pending = s.pending := by unfold State.noteManagement; split <;> simp

@[simp] theorem State.notify_cycle (s : State) (i : Idx) :
    (s.notify i).cycle = s.cycle := by simp only [State.notify]; (repeat' split) <;> simp
@[simp] theorem State.notify_readings (s : State) (i : Idx) :
    (s.notify i).readings = s.readings := by simp only [State.notify]; (repeat' split) <;> simp
@[simp] theorem State.notify_tb (s : State) (i : Idx) :
    (s.notify i).tb = s.tb := by simp only [State.notify]; (repeat' split) <;> simp
@[simp] theorem State.notify_resetPin (s : State) (i : Idx) :
    (s.notify i).resetPin = s.resetPin := by simp only [State.notify]; (repeat' split) <;> simp
@[simp] theorem State.notify_inhibit (s : State) (i : Idx) :
    (s.notify i).inhibit = s.inhibit := by simp only [State.notify]; (repeat' split) <;> simp
@[simp] theorem State.notify_servo (s : State) (i : Idx) :
    (s.notify i).servo = s.servo := by simp only [State.notify]; (repeat' split) <;> simp
@[simp] theorem State.notify_entries (s : State) (i : Idx) :
    (s.notify i).entries = s.entries := by simp only [State.notify]; (repeat' split) <;> simp
@[simp] theorem State.notify_outs (s : State) (i : Idx) :
    (s.notify i).outs = s.outs := by simp only [State.notify]; (repeat' split) <;> simp
@[simp] theorem State.notify_pending (s : State) (i : Idx) :
    (s.notify i).pending = s.pending := by simp only [State.notify]; (repeat' split) <;> simp

@[simp] theorem State.settleEntries_cycle (s : State) :
    (s.settleEntries).cycle = s.cycle := by unfold State.settleEntries; split <;> simp
@[simp] theorem State.settleEntries_readings (s : State) :
    (s.settleEntries).readings = s.readings := by unfold State.settleEntries; split <;> simp
@[simp] theorem State.settleEntries_tb (s : State) :
    (s.settleEntries).tb = s.tb := by unfold State.settleEntries; split <;> simp
@[simp] theorem State.settleEntries_resetPin (s : State) :
    (s.settleEntries).resetPin = s.resetPin := by unfold State.settleEntries; split <;> simp
@[simp] theorem State.settleEntries_inhibit (s : State) :
    (s.settleEntries).inhibit = s.inhibit := by unfold State.settleEntries; split <;> simp
@[simp] theorem State.settleEntries_servo (s : State) :
    (s.settleEntries).servo = s.servo := by unfold State.settleEntries; split <;> simp
@[simp] theorem State.settleEntries_entries (s : State) :
    (s.settleEntries).entries = s.entries := by unfold State.settleEntries; split <;> simp
@[simp] theorem State.settleEntries_outs (s : State) :
    (s.settleEntries).outs = s.outs := by unfold State.settleEntries; split <;> simp
@[simp] theorem State.settleEntries_pending (s : State) :
    (s.settleEntries).pending = s.pending := by unfold State.settleEntries; split <;> simp

@[simp] theorem State.shiftPulses_cycle (s : State) (i : Idx) (d t : Int) :
    (s.shiftPulses i d t).cycle = s.cycle := by simp [State.shiftPulses]
@[simp] theorem State.shiftPulses_readings (s : State) (i : Idx) (d t : Int) :
    (s.shiftPulses i d t).readings = s.readings := by simp [State.shiftPulses]
@[simp] theorem State.shiftPulses_tb (s : State) (i : Idx) (d t : Int) :
    (s.shiftPulses i d t).tb = s.tb := by simp [State.shiftPulses]
@[simp] theorem State.shiftPulses_resetPin (s : State) (i : Idx) (d t : Int) :
    (s.shiftPulses i d t).resetPin = s.resetPin := by simp [State.shiftPulses]
@[simp] theorem State.shiftPulses_inhibit (s : State) (i : Idx) (d t : Int) :
    (s.shiftPulses i d t).inhibit = s.inhibit := by simp [State.shiftPulses]
@[simp] theorem State.shiftPulses_servo (s : State) (i : Idx) (d t : Int) :
    (s.shiftPulses i d t).servo = s.servo := by simp [State.shiftPulses]
@[simp] theorem State.shiftPulses_entries (s : State) (i : Idx) (d t : Int) :
    (s.shiftPulses i d t).entries = s.entries := by simp [State.shiftPulses]
@[simp] theorem State.shiftPulses_pending (s : State) (i : Idx) (d t : Int) :
    (s.shiftPulses i d t).pending = s.pending := by simp [State.shiftPulses]

@[simp] theorem State.stopPulses_cycle (s : State) (i : Idx) :
    (s.stopPulses i).cycle = s.cycle := by simp [State.stopPulses]
@[simp] theorem State.stopPulses_readings (s : State) (i : Idx) :
    (s.stopPulses i).readings = s.readings := by simp [State.stopPulses]
@[simp] theorem State.stopPulses_tb (s : State) (i : Idx) : (s.stopPulses i).tb = s.tb := by simp [State.stopPulses]
@[simp] theorem State.stopPulses_resetPin (s : State) (i : Idx) :
    (s.stopPulses i).resetPin = s.resetPin := by simp [State.stopPulses]
@[simp] theorem State.stopPulses_inhibit (s : State) (i : Idx) :
    (s.stopPulses i).inhibit = s.inhibit := by simp [State.stopPulses]
@[simp] theorem State.stopPulses_servo (s : State) (i : Idx) :
    (s.stopPulses i).servo = s.servo := by simp [State.stopPulses]
@[simp] theorem State.stopPulses_entries (s : State) (i : Idx) :
    (s.stopPulses i).entries = s.entries := by simp [State.stopPulses]
@[simp] theorem State.stopPulses_pending (s : State) (i : Idx) :
    (s.stopPulses i).pending = s.pending := by simp [State.stopPulses]

@[simp] theorem State.dropBindings_cycle (s : State) (i : Idx) :
    (s.dropBindings i).cycle = s.cycle := by simp [State.dropBindings]
@[simp] theorem State.dropBindings_readings (s : State) (i : Idx) :
    (s.dropBindings i).readings = s.readings := by simp [State.dropBindings]
@[simp] theorem State.dropBindings_tb (s : State) (i : Idx) :
    (s.dropBindings i).tb = s.tb := by simp [State.dropBindings]
@[simp] theorem State.dropBindings_resetPin (s : State) (i : Idx) :
    (s.dropBindings i).resetPin = s.resetPin := by simp [State.dropBindings]
@[simp] theorem State.dropBindings_inhibit (s : State) (i : Idx) :
    (s.dropBindings i).inhibit = s.inhibit := by simp [State.dropBindings]
@[simp] theorem State.dropBindings_servo (s : State) (i : Idx) :
    (s.dropBindings i).servo = s.servo := by simp [State.dropBindings]
@[simp] theorem State.dropBindings_entries (s : State) (i : Idx) :
    (s.dropBindings i).entries = s.entries := by simp [State.dropBindings]
@[simp] theorem State.dropBindings_pending (s : State) (i : Idx) :
    (s.dropBindings i).pending = s.pending := by simp [State.dropBindings]

@[simp] theorem State.fixPulses_cycle (s : State) (i : Idx) (k : Nat) (a : Int) :
    (s.fixPulses i k a).cycle = s.cycle := by simp [State.fixPulses]
@[simp] theorem State.fixPulses_readings (s : State) (i : Idx) (k : Nat) (a : Int) :
    (s.fixPulses i k a).readings = s.readings := by simp [State.fixPulses]
@[simp] theorem State.fixPulses_tb (s : State) (i : Idx) (k : Nat) (a : Int) :
    (s.fixPulses i k a).tb = s.tb := by simp [State.fixPulses]
@[simp] theorem State.fixPulses_resetPin (s : State) (i : Idx) (k : Nat) (a : Int) :
    (s.fixPulses i k a).resetPin = s.resetPin := by simp [State.fixPulses]
@[simp] theorem State.fixPulses_inhibit (s : State) (i : Idx) (k : Nat) (a : Int) :
    (s.fixPulses i k a).inhibit = s.inhibit := by simp [State.fixPulses]
@[simp] theorem State.fixPulses_servo (s : State) (i : Idx) (k : Nat) (a : Int) :
    (s.fixPulses i k a).servo = s.servo := by simp [State.fixPulses]
@[simp] theorem State.fixPulses_entries (s : State) (i : Idx) (k : Nat) (a : Int) :
    (s.fixPulses i k a).entries = s.entries := by simp [State.fixPulses]
@[simp] theorem State.fixPulses_pending (s : State) (i : Idx) (k : Nat) (a : Int) :
    (s.fixPulses i k a).pending = s.pending := by simp [State.fixPulses]

@[simp] theorem State.fitOutputs_cycle (s : State) (i : Idx) :
    (s.fitOutputs i).cycle = s.cycle := by simp [State.fitOutputs]
@[simp] theorem State.fitOutputs_readings (s : State) (i : Idx) :
    (s.fitOutputs i).readings = s.readings := by simp [State.fitOutputs]
@[simp] theorem State.fitOutputs_tb (s : State) (i : Idx) : (s.fitOutputs i).tb = s.tb := by simp [State.fitOutputs]
@[simp] theorem State.fitOutputs_resetPin (s : State) (i : Idx) :
    (s.fitOutputs i).resetPin = s.resetPin := by simp [State.fitOutputs]
@[simp] theorem State.fitOutputs_inhibit (s : State) (i : Idx) :
    (s.fitOutputs i).inhibit = s.inhibit := by simp [State.fitOutputs]
@[simp] theorem State.fitOutputs_servo (s : State) (i : Idx) :
    (s.fitOutputs i).servo = s.servo := by simp [State.fitOutputs]
@[simp] theorem State.fitOutputs_entries (s : State) (i : Idx) :
    (s.fitOutputs i).entries = s.entries := by simp [State.fitOutputs]
@[simp] theorem State.fitOutputs_pending (s : State) (i : Idx) :
    (s.fitOutputs i).pending = s.pending := by simp [State.fitOutputs]

@[simp] theorem State.mapStreamsOn_cycle (s : State) (i : Idx) (f : Station → Stream → Stream) :
    (s.mapStreamsOn i f).cycle = s.cycle := by simp [State.mapStreamsOn]
@[simp] theorem State.mapStreamsOn_readings (s : State) (i : Idx) (f : Station → Stream → Stream) :
    (s.mapStreamsOn i f).readings = s.readings := by simp [State.mapStreamsOn]
@[simp] theorem State.mapStreamsOn_tb (s : State) (i : Idx) (f : Station → Stream → Stream) :
    (s.mapStreamsOn i f).tb = s.tb := by simp [State.mapStreamsOn]
@[simp] theorem State.mapStreamsOn_resetPin (s : State) (i : Idx) (f : Station → Stream → Stream) :
    (s.mapStreamsOn i f).resetPin = s.resetPin := by simp [State.mapStreamsOn]
@[simp] theorem State.mapStreamsOn_inhibit (s : State) (i : Idx) (f : Station → Stream → Stream) :
    (s.mapStreamsOn i f).inhibit = s.inhibit := by simp [State.mapStreamsOn]
@[simp] theorem State.mapStreamsOn_servo (s : State) (i : Idx) (f : Station → Stream → Stream) :
    (s.mapStreamsOn i f).servo = s.servo := by simp [State.mapStreamsOn]
@[simp] theorem State.mapStreamsOn_entries (s : State) (i : Idx) (f : Station → Stream → Stream) :
    (s.mapStreamsOn i f).entries = s.entries := by simp [State.mapStreamsOn]
@[simp] theorem State.mapStreamsOn_outs (s : State) (i : Idx) (f : Station → Stream → Stream) :
    (s.mapStreamsOn i f).outs = s.outs := by simp [State.mapStreamsOn]
@[simp] theorem State.mapStreamsOn_pending (s : State) (i : Idx) (f : Station → Stream → Stream) :
    (s.mapStreamsOn i f).pending = s.pending := by simp [State.mapStreamsOn]

@[simp] theorem State.replan_cycle (s : State) (i : Idx) (how : Replan) (t : Int) :
    (s.replan i how t).cycle = s.cycle := by simp [State.replan]
@[simp] theorem State.replan_readings (s : State) (i : Idx) (how : Replan) (t : Int) :
    (s.replan i how t).readings = s.readings := by simp [State.replan]
@[simp] theorem State.replan_tb (s : State) (i : Idx) (how : Replan) (t : Int) :
    (s.replan i how t).tb = s.tb := by simp [State.replan]
@[simp] theorem State.replan_resetPin (s : State) (i : Idx) (how : Replan) (t : Int) :
    (s.replan i how t).resetPin = s.resetPin := by simp [State.replan]
@[simp] theorem State.replan_inhibit (s : State) (i : Idx) (how : Replan) (t : Int) :
    (s.replan i how t).inhibit = s.inhibit := by simp [State.replan]
@[simp] theorem State.replan_servo (s : State) (i : Idx) (how : Replan) (t : Int) :
    (s.replan i how t).servo = s.servo := by simp [State.replan]
@[simp] theorem State.replan_entries (s : State) (i : Idx) (how : Replan) (t : Int) :
    (s.replan i how t).entries = s.entries := by simp [State.replan]
@[simp] theorem State.replan_outs (s : State) (i : Idx) (how : Replan) (t : Int) :
    (s.replan i how t).outs = s.outs := by simp [State.replan]
@[simp] theorem State.replan_pending (s : State) (i : Idx) (how : Replan) (t : Int) :
    (s.replan i how t).pending = s.pending := by simp [State.replan]

@[simp] theorem State.skipSuspended_cycle (s : State) (i : Idx) (k : Nat) :
    (s.skipSuspended i k).cycle = s.cycle := by simp [State.skipSuspended]
@[simp] theorem State.skipSuspended_readings (s : State) (i : Idx) (k : Nat) :
    (s.skipSuspended i k).readings = s.readings := by simp [State.skipSuspended]
@[simp] theorem State.skipSuspended_tb (s : State) (i : Idx) (k : Nat) :
    (s.skipSuspended i k).tb = s.tb := by simp [State.skipSuspended]
@[simp] theorem State.skipSuspended_resetPin (s : State) (i : Idx) (k : Nat) :
    (s.skipSuspended i k).resetPin = s.resetPin := by simp [State.skipSuspended]
@[simp] theorem State.skipSuspended_inhibit (s : State) (i : Idx) (k : Nat) :
    (s.skipSuspended i k).inhibit = s.inhibit := by simp [State.skipSuspended]
@[simp] theorem State.skipSuspended_servo (s : State) (i : Idx) (k : Nat) :
    (s.skipSuspended i k).servo = s.servo := by simp [State.skipSuspended]
@[simp] theorem State.skipSuspended_entries (s : State) (i : Idx) (k : Nat) :
    (s.skipSuspended i k).entries = s.entries := by simp [State.skipSuspended]
@[simp] theorem State.skipSuspended_outs (s : State) (i : Idx) (k : Nat) :
    (s.skipSuspended i k).outs = s.outs := by simp [State.skipSuspended]
@[simp] theorem State.skipSuspended_pending (s : State) (i : Idx) (k : Nat) :
    (s.skipSuspended i k).pending = s.pending := by simp [State.skipSuspended]

@[simp] theorem State.closeStream_cycle (s : State) (x : Addr) :
    (s.closeStream x).cycle = s.cycle := by simp [State.closeStream]
@[simp] theorem State.closeStream_readings (s : State) (x : Addr) :
    (s.closeStream x).readings = s.readings := by simp [State.closeStream]
@[simp] theorem State.closeStream_tb (s : State) (x : Addr) :
    (s.closeStream x).tb = s.tb := by simp [State.closeStream]
@[simp] theorem State.closeStream_resetPin (s : State) (x : Addr) :
    (s.closeStream x).resetPin = s.resetPin := by simp [State.closeStream]
@[simp] theorem State.closeStream_inhibit (s : State) (x : Addr) :
    (s.closeStream x).inhibit = s.inhibit := by simp [State.closeStream]
@[simp] theorem State.closeStream_servo (s : State) (x : Addr) :
    (s.closeStream x).servo = s.servo := by simp [State.closeStream]
@[simp] theorem State.closeStream_entries (s : State) (x : Addr) :
    (s.closeStream x).entries = s.entries := by simp [State.closeStream]
@[simp] theorem State.closeStream_outs (s : State) (x : Addr) :
    (s.closeStream x).outs = s.outs := by simp [State.closeStream]
@[simp] theorem State.closeStream_pending (s : State) (x : Addr) :
    (s.closeStream x).pending = s.pending := by simp [State.closeStream]

@[simp] theorem State.closeStreamsOn_cycle (s : State) (i : Idx) :
    (s.closeStreamsOn i).cycle = s.cycle := by unfold State.closeStreamsOn; (repeat' split) <;> simp
@[simp] theorem State.closeStreamsOn_readings (s : State) (i : Idx) :
    (s.closeStreamsOn i).readings = s.readings := by unfold State.closeStreamsOn; (repeat' split) <;> simp
@[simp] theorem State.closeStreamsOn_tb (s : State) (i : Idx) :
    (s.closeStreamsOn i).tb = s.tb := by unfold State.closeStreamsOn; (repeat' split) <;> simp
@[simp] theorem State.closeStreamsOn_resetPin (s : State) (i : Idx) :
    (s.closeStreamsOn i).resetPin = s.resetPin := by unfold State.closeStreamsOn; (repeat' split) <;> simp
@[simp] theorem State.closeStreamsOn_inhibit (s : State) (i : Idx) :
    (s.closeStreamsOn i).inhibit = s.inhibit := by unfold State.closeStreamsOn; (repeat' split) <;> simp
@[simp] theorem State.closeStreamsOn_servo (s : State) (i : Idx) :
    (s.closeStreamsOn i).servo = s.servo := by unfold State.closeStreamsOn; (repeat' split) <;> simp
@[simp] theorem State.closeStreamsOn_entries (s : State) (i : Idx) :
    (s.closeStreamsOn i).entries = s.entries := by unfold State.closeStreamsOn; (repeat' split) <;> simp
@[simp] theorem State.closeStreamsOn_outs (s : State) (i : Idx) :
    (s.closeStreamsOn i).outs = s.outs := by unfold State.closeStreamsOn; (repeat' split) <;> simp
@[simp] theorem State.closeStreamsOn_pending (s : State) (i : Idx) :
    (s.closeStreamsOn i).pending = s.pending := by unfold State.closeStreamsOn; (repeat' split) <;> simp

@[simp] theorem State.untie_cycle (s : State) (i : Idx) : (s.untie i).cycle = s.cycle := by simp [State.untie]
@[simp] theorem State.untie_readings (s : State) (i : Idx) : (s.untie i).readings = s.readings := by simp [State.untie]
@[simp] theorem State.untie_tb (s : State) (i : Idx) : (s.untie i).tb = s.tb := by simp [State.untie]
@[simp] theorem State.untie_resetPin (s : State) (i : Idx) :
    (s.untie i).resetPin = s.resetPin := by simp [State.untie]
@[simp] theorem State.untie_inhibit (s : State) (i : Idx) : (s.untie i).inhibit = s.inhibit := by simp [State.untie]
@[simp] theorem State.untie_servo (s : State) (i : Idx) : (s.untie i).servo = s.servo := by simp [State.untie]
@[simp] theorem State.untie_outs (s : State) (i : Idx) : (s.untie i).outs = s.outs := by simp [State.untie]
@[simp] theorem State.untie_pending (s : State) (i : Idx) : (s.untie i).pending = s.pending := by simp [State.untie]

@[simp] theorem State.disown_cycle (s : State) (l : Link) :
    (s.disown l).cycle = s.cycle := by unfold State.disown; split <;> simp
@[simp] theorem State.disown_readings (s : State) (l : Link) :
    (s.disown l).readings = s.readings := by unfold State.disown; split <;> simp
@[simp] theorem State.disown_tb (s : State) (l : Link) :
    (s.disown l).tb = s.tb := by unfold State.disown; split <;> simp
@[simp] theorem State.disown_resetPin (s : State) (l : Link) :
    (s.disown l).resetPin = s.resetPin := by unfold State.disown; split <;> simp
@[simp] theorem State.disown_inhibit (s : State) (l : Link) :
    (s.disown l).inhibit = s.inhibit := by unfold State.disown; split <;> simp
@[simp] theorem State.disown_servo (s : State) (l : Link) :
    (s.disown l).servo = s.servo := by unfold State.disown; split <;> simp
@[simp] theorem State.disown_entries (s : State) (l : Link) :
    (s.disown l).entries = s.entries := by unfold State.disown; split <;> simp
@[simp] theorem State.disown_outs (s : State) (l : Link) :
    (s.disown l).outs = s.outs := by unfold State.disown; split <;> simp
@[simp] theorem State.disown_pending (s : State) (l : Link) :
    (s.disown l).pending = s.pending := by unfold State.disown; split <;> simp

@[simp] theorem State.retire_cycle (s : State) (i : Idx) :
    (s.retire i).cycle = s.cycle := by simp only [State.retire]; (repeat' split) <;> simp
@[simp] theorem State.retire_readings (s : State) (i : Idx) :
    (s.retire i).readings = s.readings := by simp only [State.retire]; (repeat' split) <;> simp
@[simp] theorem State.retire_tb (s : State) (i : Idx) :
    (s.retire i).tb = s.tb := by simp only [State.retire]; (repeat' split) <;> simp
@[simp] theorem State.retire_resetPin (s : State) (i : Idx) :
    (s.retire i).resetPin = s.resetPin := by simp only [State.retire]; (repeat' split) <;> simp
@[simp] theorem State.retire_inhibit (s : State) (i : Idx) :
    (s.retire i).inhibit = s.inhibit := by simp only [State.retire]; (repeat' split) <;> simp
@[simp] theorem State.retire_servo (s : State) (i : Idx) :
    (s.retire i).servo = s.servo := by simp only [State.retire]; (repeat' split) <;> simp
@[simp] theorem State.retire_pending (s : State) (i : Idx) :
    (s.retire i).pending = s.pending := by simp only [State.retire]; (repeat' split) <;> simp

@[simp] theorem State.endCheck_cycle (s : State) (i : Idx) :
    (s.endCheck i).cycle = s.cycle := by simp only [State.endCheck]; (repeat' split) <;> simp
@[simp] theorem State.endCheck_readings (s : State) (i : Idx) :
    (s.endCheck i).readings = s.readings := by simp only [State.endCheck]; (repeat' split) <;> simp
@[simp] theorem State.endCheck_tb (s : State) (i : Idx) :
    (s.endCheck i).tb = s.tb := by simp only [State.endCheck]; (repeat' split) <;> simp
@[simp] theorem State.endCheck_resetPin (s : State) (i : Idx) :
    (s.endCheck i).resetPin = s.resetPin := by simp only [State.endCheck]; (repeat' split) <;> simp
@[simp] theorem State.endCheck_inhibit (s : State) (i : Idx) :
    (s.endCheck i).inhibit = s.inhibit := by simp only [State.endCheck]; (repeat' split) <;> simp
@[simp] theorem State.endCheck_servo (s : State) (i : Idx) :
    (s.endCheck i).servo = s.servo := by simp only [State.endCheck]; (repeat' split) <;> simp
@[simp] theorem State.endCheck_pending (s : State) (i : Idx) :
    (s.endCheck i).pending = s.pending := by simp only [State.endCheck]; (repeat' split) <;> simp

@[simp] theorem State.orphan_cycle (s : State) (x : Addr) :
    (s.orphan x).cycle = s.cycle := by simp [State.orphan, keep_foldl State.cycle, apply_ite State.cycle]
@[simp] theorem State.orphan_readings (s : State) (x : Addr) :
    (s.orphan x).readings = s.readings := by simp [State.orphan, keep_foldl State.readings, apply_ite State.readings]
@[simp] theorem State.orphan_tb (s : State) (x : Addr) :
    (s.orphan x).tb = s.tb := by simp [State.orphan, keep_foldl State.tb, apply_ite State.tb]
@[simp] theorem State.orphan_resetPin (s : State) (x : Addr) :
    (s.orphan x).resetPin = s.resetPin := by simp [State.orphan, keep_foldl State.resetPin, apply_ite State.resetPin]
@[simp] theorem State.orphan_inhibit (s : State) (x : Addr) :
    (s.orphan x).inhibit = s.inhibit := by simp [State.orphan, keep_foldl State.inhibit, apply_ite State.inhibit]
@[simp] theorem State.orphan_servo (s : State) (x : Addr) :
    (s.orphan x).servo = s.servo := by simp [State.orphan, keep_foldl State.servo, apply_ite State.servo]
@[simp] theorem State.orphan_pending (s : State) (x : Addr) :
    (s.orphan x).pending = s.pending := by simp [State.orphan, keep_foldl State.pending, apply_ite State.pending]

@[simp] theorem State.snap_cycle (s : State) (i : Idx) (d r : Int) :
    (s.snap i d r).cycle = s.cycle := by simp only [State.snap]; (repeat' split) <;> simp
@[simp] theorem State.snap_readings (s : State) (i : Idx) (d r : Int) :
    (s.snap i d r).readings = s.readings := by simp only [State.snap]; (repeat' split) <;> simp
@[simp] theorem State.snap_tb (s : State) (i : Idx) (d r : Int) :
    (s.snap i d r).tb = s.tb := by simp only [State.snap]; (repeat' split) <;> simp
@[simp] theorem State.snap_resetPin (s : State) (i : Idx) (d r : Int) :
    (s.snap i d r).resetPin = s.resetPin := by simp only [State.snap]; (repeat' split) <;> simp
@[simp] theorem State.snap_inhibit (s : State) (i : Idx) (d r : Int) :
    (s.snap i d r).inhibit = s.inhibit := by simp only [State.snap]; (repeat' split) <;> simp
@[simp] theorem State.snap_servo (s : State) (i : Idx) (d r : Int) :
    (s.snap i d r).servo = s.servo := by simp only [State.snap]; (repeat' split) <;> simp
@[simp] theorem State.snap_pending (s : State) (i : Idx) (d r : Int) :
    (s.snap i d r).pending = s.pending := by simp only [State.snap]; (repeat' split) <;> simp

@[simp] theorem State.moveOffset_cycle (s : State) (i : Idx) (old : Entry) (a b c r : Int) :
    (s.moveOffset i old a b c r).cycle = s.cycle := by simp only [State.moveOffset]; (repeat' split) <;> simp
@[simp] theorem State.moveOffset_readings (s : State) (i : Idx) (old : Entry) (a b c r : Int) :
    (s.moveOffset i old a b c r).readings = s.readings := by simp only [State.moveOffset]; (repeat' split) <;> simp
@[simp] theorem State.moveOffset_tb (s : State) (i : Idx) (old : Entry) (a b c r : Int) :
    (s.moveOffset i old a b c r).tb = s.tb := by simp only [State.moveOffset]; (repeat' split) <;> simp
@[simp] theorem State.moveOffset_resetPin (s : State) (i : Idx) (old : Entry) (a b c r : Int) :
    (s.moveOffset i old a b c r).resetPin = s.resetPin := by simp only [State.moveOffset]; (repeat' split) <;> simp
@[simp] theorem State.moveOffset_inhibit (s : State) (i : Idx) (old : Entry) (a b c r : Int) :
    (s.moveOffset i old a b c r).inhibit = s.inhibit := by simp only [State.moveOffset]; (repeat' split) <;> simp
@[simp] theorem State.moveOffset_servo (s : State) (i : Idx) (old : Entry) (a b c r : Int) :
    (s.moveOffset i old a b c r).servo = s.servo := by simp only [State.moveOffset]; (repeat' split) <;> simp
@[simp] theorem State.moveOffset_pending (s : State) (i : Idx) (old : Entry) (a b c r : Int) :
    (s.moveOffset i old a b c r).pending = s.pending := by simp only [State.moveOffset]; (repeat' split) <;> simp

@[simp] theorem State.stepEntry_cycle (s : State) (th : Int) (t : Nat) (i : Idx) :
    (State.stepEntry th t s i).cycle = s.cycle := by simp only [State.stepEntry]; (repeat' split) <;> simp
@[simp] theorem State.stepEntry_readings (s : State) (th : Int) (t : Nat) (i : Idx) :
    (State.stepEntry th t s i).readings = s.readings := by simp only [State.stepEntry]; (repeat' split) <;> simp
@[simp] theorem State.stepEntry_tb (s : State) (th : Int) (t : Nat) (i : Idx) :
    (State.stepEntry th t s i).tb = s.tb := by simp only [State.stepEntry]; (repeat' split) <;> simp
@[simp] theorem State.stepEntry_resetPin (s : State) (th : Int) (t : Nat) (i : Idx) :
    (State.stepEntry th t s i).resetPin = s.resetPin := by simp only [State.stepEntry]; (repeat' split) <;> simp
@[simp] theorem State.stepEntry_inhibit (s : State) (th : Int) (t : Nat) (i : Idx) :
    (State.stepEntry th t s i).inhibit = s.inhibit := by simp only [State.stepEntry]; (repeat' split) <;> simp
@[simp] theorem State.stepEntry_servo (s : State) (th : Int) (t : Nat) (i : Idx) :
    (State.stepEntry th t s i).servo = s.servo := by simp only [State.stepEntry]; (repeat' split) <;> simp
@[simp] theorem State.stepEntry_pending (s : State) (th : Int) (t : Nat) (i : Idx) :
    (State.stepEntry th t s i).pending = s.pending := by simp only [State.stepEntry]; (repeat' split) <;> simp

@[simp] theorem State.phaseChange_cycle (s : State) (i : Idx) (p : Int) :
    (s.phaseChange i p).cycle = s.cycle := by simp only [State.phaseChange]; (repeat' split) <;> simp
@[simp] theorem State.phaseChange_readings (s : State) (i : Idx) (p : Int) :
    (s.phaseChange i p).readings = s.readings := by simp only [State.phaseChange]; (repeat' split) <;> simp
@[simp] theorem State.phaseChange_tb (s : State) (i : Idx) (p : Int) :
    (s.phaseChange i p).tb = s.tb := by simp only [State.phaseChange]; (repeat' split) <;> simp
@[simp] theorem State.phaseChange_resetPin (s : State) (i : Idx) (p : Int) :
    (s.phaseChange i p).resetPin = s.resetPin := by simp only [State.phaseChange]; (repeat' split) <;> simp
@[simp] theorem State.phaseChange_inhibit (s : State) (i : Idx) (p : Int) :
    (s.phaseChange i p).inhibit = s.inhibit := by simp only [State.phaseChange]; (repeat' split) <;> simp
@[simp] theorem State.phaseChange_servo (s : State) (i : Idx) (p : Int) :
    (s.phaseChange i p).servo = s.servo := by simp only [State.phaseChange]; (repeat' split) <;> simp
@[simp] theorem State.phaseChange_pending (s : State) (i : Idx) (p : Int) :
    (s.phaseChange i p).pending = s.pending := by simp only [State.phaseChange]; (repeat' split) <;> simp

@[simp] theorem State.holdWide_cycle (s : State) :
    (s.holdWide).cycle = s.cycle := by simp [State.holdWide, keep_foldl State.cycle, apply_ite State.cycle]
@[simp] theorem State.holdWide_readings (s : State) :
    (s.holdWide).readings = s.readings := by simp [State.holdWide, keep_foldl State.readings, apply_ite State.readings]
@[simp] theorem State.holdWide_tb (s : State) :
    (s.holdWide).tb = s.tb := by simp [State.holdWide, keep_foldl State.tb, apply_ite State.tb]
@[simp] theorem State.holdWide_resetPin (s : State) :
    (s.holdWide).resetPin = s.resetPin := by simp [State.holdWide, keep_foldl State.resetPin, apply_ite State.resetPin]
@[simp] theorem State.holdWide_inhibit (s : State) :
    (s.holdWide).inhibit = s.inhibit := by simp [State.holdWide, keep_foldl State.inhibit, apply_ite State.inhibit]
@[simp] theorem State.holdWide_servo (s : State) :
    (s.holdWide).servo = s.servo := by simp [State.holdWide, keep_foldl State.servo, apply_ite State.servo]
@[simp] theorem State.holdWide_outs (s : State) :
    (s.holdWide).outs = s.outs := by simp [State.holdWide, keep_foldl State.outs, apply_ite State.outs]
@[simp] theorem State.holdWide_pending (s : State) :
    (s.holdWide).pending = s.pending := by simp [State.holdWide, keep_foldl State.pending, apply_ite State.pending]

@[simp] theorem State.reschedule_cycle (s : State) : (s.reschedule).cycle = s.cycle := by simp [State.reschedule]
@[simp] theorem State.reschedule_readings (s : State) : (s.reschedule).readings = s.readings := by simp [State.reschedule]
@[simp] theorem State.reschedule_tb (s : State) : (s.reschedule).tb = s.tb := by simp [State.reschedule]
@[simp] theorem State.reschedule_resetPin (s : State) :
    (s.reschedule).resetPin = s.resetPin := by simp [State.reschedule]
@[simp] theorem State.reschedule_inhibit (s : State) :
    (s.reschedule).inhibit = s.inhibit := by simp [State.reschedule]
@[simp] theorem State.reschedule_servo (s : State) : (s.reschedule).servo = s.servo := by simp [State.reschedule]
@[simp] theorem State.reschedule_outs (s : State) : (s.reschedule).outs = s.outs := by simp [State.reschedule]
@[simp] theorem State.reschedule_pending (s : State) :
    (s.reschedule).pending = s.pending := by simp [State.reschedule]

@[simp] theorem State.rebase_cycle (s : State) (old : Civil) (r : Nat) :
    (s.rebase old r).cycle = s.cycle := by simp [State.rebase, apply_ite State.cycle]
@[simp] theorem State.rebase_readings (s : State) (old : Civil) (r : Nat) :
    (s.rebase old r).readings = s.readings := by simp [State.rebase, apply_ite State.readings]
@[simp] theorem State.rebase_tb (s : State) (old : Civil) (r : Nat) :
    (s.rebase old r).tb = s.tb := by simp [State.rebase, apply_ite State.tb]
@[simp] theorem State.rebase_resetPin (s : State) (old : Civil) (r : Nat) :
    (s.rebase old r).resetPin = s.resetPin := by simp [State.rebase, apply_ite State.resetPin]
@[simp] theorem State.rebase_inhibit (s : State) (old : Civil) (r : Nat) :
    (s.rebase old r).inhibit = s.inhibit := by simp [State.rebase, apply_ite State.inhibit]
@[simp] theorem State.rebase_servo (s : State) (old : Civil) (r : Nat) :
    (s.rebase old r).servo = s.servo := by simp [State.rebase, apply_ite State.servo]
@[simp] theorem State.rebase_outs (s : State) (old : Civil) (r : Nat) :
    (s.rebase old r).outs = s.outs := by simp [State.rebase, apply_ite State.outs]
@[simp] theorem State.rebase_pending (s : State) (old : Civil) (r : Nat) :
    (s.rebase old r).pending = s.pending := by simp [State.rebase, apply_ite State.pending]

@[simp] theorem State.stepLabels_cycle (s : State) (t : Nat) :
    (s.stepLabels t).cycle = s.cycle := by simp [State.stepLabels]
@[simp] theorem State.stepLabels_readings (s : State) (t : Nat) :
    (s.stepLabels t).readings = s.readings := by simp [State.stepLabels]
@[simp] theorem State.stepLabels_tb (s : State) (t : Nat) : (s.stepLabels t).tb = s.tb := by simp [State.stepLabels]
@[simp] theorem State.stepLabels_resetPin (s : State) (t : Nat) :
    (s.stepLabels t).resetPin = s.resetPin := by simp [State.stepLabels]
@[simp] theorem State.stepLabels_inhibit (s : State) (t : Nat) :
    (s.stepLabels t).inhibit = s.inhibit := by simp [State.stepLabels]
@[simp] theorem State.stepLabels_servo (s : State) (t : Nat) :
    (s.stepLabels t).servo = s.servo := by simp [State.stepLabels]
@[simp] theorem State.stepLabels_outs (s : State) (t : Nat) :
    (s.stepLabels t).outs = s.outs := by simp [State.stepLabels]
@[simp] theorem State.stepLabels_pending (s : State) (t : Nat) :
    (s.stepLabels t).pending = s.pending := by simp [State.stepLabels]

@[simp] theorem State.stepEffects_cycle (s : State) (th : Int) (t : Nat) :
    (s.stepEffects th t).cycle = s.cycle := by simp [State.stepEffects, keep_foldl State.cycle]
@[simp] theorem State.stepEffects_readings (s : State) (th : Int) (t : Nat) :
    (s.stepEffects th t).readings = s.readings := by simp [State.stepEffects, keep_foldl State.readings]
@[simp] theorem State.stepEffects_tb (s : State) (th : Int) (t : Nat) :
    (s.stepEffects th t).tb = s.tb := by simp [State.stepEffects, keep_foldl State.tb]
@[simp] theorem State.stepEffects_resetPin (s : State) (th : Int) (t : Nat) :
    (s.stepEffects th t).resetPin = s.resetPin := by simp [State.stepEffects, keep_foldl State.resetPin]
@[simp] theorem State.stepEffects_inhibit (s : State) (th : Int) (t : Nat) :
    (s.stepEffects th t).inhibit = s.inhibit := by simp [State.stepEffects, keep_foldl State.inhibit]
@[simp] theorem State.stepEffects_servo (s : State) (th : Int) (t : Nat) :
    (s.stepEffects th t).servo = s.servo := by simp [State.stepEffects, keep_foldl State.servo]
@[simp] theorem State.stepEffects_pending (s : State) (th : Int) (t : Nat) :
    (s.stepEffects th t).pending = s.pending := by simp [State.stepEffects, keep_foldl State.pending]

@[simp] theorem State.wrap_cycle (s : State) : (s.wrap).cycle = s.cycle := by simp [State.wrap]
@[simp] theorem State.wrap_readings (s : State) : (s.wrap).readings = s.readings := by simp [State.wrap]
@[simp] theorem State.wrap_resetPin (s : State) : (s.wrap).resetPin = s.resetPin := by simp [State.wrap]
@[simp] theorem State.wrap_inhibit (s : State) : (s.wrap).inhibit = s.inhibit := by simp [State.wrap]
@[simp] theorem State.wrap_servo (s : State) : (s.wrap).servo = s.servo := by simp [State.wrap]
@[simp] theorem State.wrap_pending (s : State) : (s.wrap).pending = s.pending := by simp [State.wrap]

@[simp] theorem State.applyStep_cycle (s : State) (th : Int) :
    (s.applyStep th).cycle = s.cycle := by simp only [State.applyStep]; (repeat' split) <;> simp
@[simp] theorem State.applyStep_readings (s : State) (th : Int) :
    (s.applyStep th).readings = s.readings := by simp only [State.applyStep]; (repeat' split) <;> simp
@[simp] theorem State.applyStep_resetPin (s : State) (th : Int) :
    (s.applyStep th).resetPin = s.resetPin := by simp only [State.applyStep]; (repeat' split) <;> simp
@[simp] theorem State.applyStep_inhibit (s : State) (th : Int) :
    (s.applyStep th).inhibit = s.inhibit := by simp only [State.applyStep]; (repeat' split) <;> simp
@[simp] theorem State.applyStep_servo (s : State) (th : Int) :
    (s.applyStep th).servo = s.servo := by simp only [State.applyStep]; (repeat' split) <;> simp
@[simp] theorem State.applyStep_pending (s : State) (th : Int) :
    (s.applyStep th).pending = s.pending := by simp only [State.applyStep]; (repeat' split) <;> simp

@[simp] theorem State.silence_cycle (s : State) (x : Addr) : (s.silence x).cycle = s.cycle := by simp [State.silence]
@[simp] theorem State.silence_readings (s : State) (x : Addr) : (s.silence x).readings = s.readings := by simp [State.silence]
@[simp] theorem State.silence_tb (s : State) (x : Addr) : (s.silence x).tb = s.tb := by simp [State.silence]
@[simp] theorem State.silence_resetPin (s : State) (x : Addr) :
    (s.silence x).resetPin = s.resetPin := by simp [State.silence]
@[simp] theorem State.silence_inhibit (s : State) (x : Addr) :
    (s.silence x).inhibit = s.inhibit := by simp [State.silence]
@[simp] theorem State.silence_servo (s : State) (x : Addr) : (s.silence x).servo = s.servo := by simp [State.silence]
@[simp] theorem State.silence_entries (s : State) (x : Addr) :
    (s.silence x).entries = s.entries := by simp [State.silence]
@[simp] theorem State.silence_outs (s : State) (x : Addr) : (s.silence x).outs = s.outs := by simp [State.silence]
@[simp] theorem State.silence_pending (s : State) (x : Addr) :
    (s.silence x).pending = s.pending := by simp [State.silence]

@[simp] theorem State.clearStation_cycle (s : State) (x : Addr) :
    (s.clearStation x).cycle = s.cycle := by simp [State.clearStation]
@[simp] theorem State.clearStation_readings (s : State) (x : Addr) :
    (s.clearStation x).readings = s.readings := by simp [State.clearStation]
@[simp] theorem State.clearStation_tb (s : State) (x : Addr) :
    (s.clearStation x).tb = s.tb := by simp [State.clearStation]
@[simp] theorem State.clearStation_resetPin (s : State) (x : Addr) :
    (s.clearStation x).resetPin = s.resetPin := by simp [State.clearStation]
@[simp] theorem State.clearStation_inhibit (s : State) (x : Addr) :
    (s.clearStation x).inhibit = s.inhibit := by simp [State.clearStation]
@[simp] theorem State.clearStation_servo (s : State) (x : Addr) :
    (s.clearStation x).servo = s.servo := by simp [State.clearStation]
@[simp] theorem State.clearStation_entries (s : State) (x : Addr) :
    (s.clearStation x).entries = s.entries := by simp [State.clearStation]
@[simp] theorem State.clearStation_outs (s : State) (x : Addr) :
    (s.clearStation x).outs = s.outs := by simp [State.clearStation]
@[simp] theorem State.clearStation_pending (s : State) (x : Addr) :
    (s.clearStation x).pending = s.pending := by simp [State.clearStation]

@[simp] theorem State.stationAbsent_cycle (s : State) (x : Addr) :
    (s.stationAbsent x).cycle = s.cycle := by simp [State.stationAbsent]
@[simp] theorem State.stationAbsent_readings (s : State) (x : Addr) :
    (s.stationAbsent x).readings = s.readings := by simp [State.stationAbsent]
@[simp] theorem State.stationAbsent_tb (s : State) (x : Addr) :
    (s.stationAbsent x).tb = s.tb := by simp [State.stationAbsent]
@[simp] theorem State.stationAbsent_resetPin (s : State) (x : Addr) :
    (s.stationAbsent x).resetPin = s.resetPin := by simp [State.stationAbsent]
@[simp] theorem State.stationAbsent_inhibit (s : State) (x : Addr) :
    (s.stationAbsent x).inhibit = s.inhibit := by simp [State.stationAbsent]
@[simp] theorem State.stationAbsent_servo (s : State) (x : Addr) :
    (s.stationAbsent x).servo = s.servo := by simp [State.stationAbsent]
@[simp] theorem State.stationAbsent_pending (s : State) (x : Addr) :
    (s.stationAbsent x).pending = s.pending := by simp [State.stationAbsent]

@[simp] theorem State.cutLine_cycle (s : State) (x : CutFrame) : (s.cutLine x).cycle = s.cycle := rfl
@[simp] theorem State.cutLine_readings (s : State) (x : CutFrame) : (s.cutLine x).readings = s.readings := rfl
@[simp] theorem State.cutLine_tb (s : State) (x : CutFrame) : (s.cutLine x).tb = s.tb := rfl
@[simp] theorem State.cutLine_resetPin (s : State) (x : CutFrame) : (s.cutLine x).resetPin = s.resetPin := rfl
@[simp] theorem State.cutLine_inhibit (s : State) (x : CutFrame) : (s.cutLine x).inhibit = s.inhibit := rfl
@[simp] theorem State.cutLine_servo (s : State) (x : CutFrame) : (s.cutLine x).servo = s.servo := rfl
@[simp] theorem State.cutLine_entries (s : State) (x : CutFrame) : (s.cutLine x).entries = s.entries := rfl
@[simp] theorem State.cutLine_outs (s : State) (x : CutFrame) : (s.cutLine x).outs = s.outs := rfl
@[simp] theorem State.cutLine_stations (s : State) (x : CutFrame) : (s.cutLine x).stations = s.stations := rfl
@[simp] theorem State.cutLine_pending (s : State) (x : CutFrame) : (s.cutLine x).pending = s.pending := rfl
@[simp] theorem State.cutLine_tx (s : State) (x : CutFrame) : (s.cutLine x).chain.tx = none := rfl
@[simp] theorem State.cutLine_cut (s : State) (x : CutFrame) : (s.cutLine x).chain.cut = some x := rfl
@[simp] theorem State.cutLine_lineBase (s : State) (x : CutFrame) : (s.cutLine x).chain.lineBase = x.stop := rfl
@[simp] theorem State.abortTx_cycle (s : State) :
    (s.abortTx).cycle = s.cycle := by unfold State.abortTx; (repeat' split) <;> simp
@[simp] theorem State.abortTx_readings (s : State) :
    (s.abortTx).readings = s.readings := by unfold State.abortTx; (repeat' split) <;> simp
@[simp] theorem State.abortTx_tb (s : State) :
    (s.abortTx).tb = s.tb := by unfold State.abortTx; (repeat' split) <;> simp
@[simp] theorem State.abortTx_resetPin (s : State) :
    (s.abortTx).resetPin = s.resetPin := by unfold State.abortTx; (repeat' split) <;> simp
@[simp] theorem State.abortTx_inhibit (s : State) :
    (s.abortTx).inhibit = s.inhibit := by unfold State.abortTx; (repeat' split) <;> simp
@[simp] theorem State.abortTx_servo (s : State) :
    (s.abortTx).servo = s.servo := by unfold State.abortTx; (repeat' split) <;> simp
@[simp] theorem State.abortTx_entries (s : State) :
    (s.abortTx).entries = s.entries := by unfold State.abortTx; (repeat' split) <;> simp
@[simp] theorem State.abortTx_outs (s : State) :
    (s.abortTx).outs = s.outs := by unfold State.abortTx; (repeat' split) <;> simp
@[simp] theorem State.abortTx_pending (s : State) :
    (s.abortTx).pending = s.pending := by unfold State.abortTx; (repeat' split) <;> simp

@[simp] theorem State.leaveChain_cycle (s : State) (c : ChainState) :
    (s.leaveChain c).cycle = s.cycle := by simp [State.leaveChain]
@[simp] theorem State.leaveChain_readings (s : State) (c : ChainState) :
    (s.leaveChain c).readings = s.readings := by simp [State.leaveChain]
@[simp] theorem State.leaveChain_tb (s : State) (c : ChainState) :
    (s.leaveChain c).tb = s.tb := by simp [State.leaveChain]
@[simp] theorem State.leaveChain_resetPin (s : State) (c : ChainState) :
    (s.leaveChain c).resetPin = s.resetPin := by simp [State.leaveChain]
@[simp] theorem State.leaveChain_inhibit (s : State) (c : ChainState) :
    (s.leaveChain c).inhibit = s.inhibit := by simp [State.leaveChain]
@[simp] theorem State.leaveChain_servo (s : State) (c : ChainState) :
    (s.leaveChain c).servo = s.servo := by simp [State.leaveChain]
@[simp] theorem State.leaveChain_entries (s : State) (c : ChainState) :
    (s.leaveChain c).entries = s.entries := by simp [State.leaveChain]
@[simp] theorem State.leaveChain_outs (s : State) (c : ChainState) :
    (s.leaveChain c).outs = s.outs := by simp [State.leaveChain]
@[simp] theorem State.leaveChain_pending (s : State) (c : ChainState) :
    (s.leaveChain c).pending = s.pending := by simp [State.leaveChain]

@[simp] theorem State.enterRunning_cycle (s : State) :
    (s.enterRunning).cycle = s.cycle := by simp [State.enterRunning]
@[simp] theorem State.enterRunning_readings (s : State) :
    (s.enterRunning).readings = s.readings := by simp [State.enterRunning]
@[simp] theorem State.enterRunning_tb (s : State) : (s.enterRunning).tb = s.tb := by simp [State.enterRunning]
@[simp] theorem State.enterRunning_resetPin (s : State) :
    (s.enterRunning).resetPin = s.resetPin := by simp [State.enterRunning]
@[simp] theorem State.enterRunning_inhibit (s : State) :
    (s.enterRunning).inhibit = s.inhibit := by simp [State.enterRunning]
@[simp] theorem State.enterRunning_servo (s : State) :
    (s.enterRunning).servo = s.servo := by simp [State.enterRunning]
@[simp] theorem State.enterRunning_entries (s : State) :
    (s.enterRunning).entries = s.entries := by simp [State.enterRunning]
@[simp] theorem State.enterRunning_outs (s : State) : (s.enterRunning).outs = s.outs := by simp [State.enterRunning]
@[simp] theorem State.enterRunning_pending (s : State) :
    (s.enterRunning).pending = s.pending := by simp [State.enterRunning]

@[simp] theorem State.enterBroken_cycle (s : State) :
    (s.enterBroken).cycle = s.cycle := by simp [State.enterBroken, keep_foldl State.cycle, apply_ite State.cycle]
@[simp] theorem State.enterBroken_readings (s : State) :
    (s.enterBroken).readings = s.readings := by simp [State.enterBroken, keep_foldl State.readings, apply_ite State.readings]
@[simp] theorem State.enterBroken_tb (s : State) :
    (s.enterBroken).tb = s.tb := by simp [State.enterBroken, keep_foldl State.tb, apply_ite State.tb]
@[simp] theorem State.enterBroken_resetPin (s : State) :
    (s.enterBroken).resetPin = s.resetPin := by simp [State.enterBroken, keep_foldl State.resetPin, apply_ite State.resetPin]
@[simp] theorem State.enterBroken_inhibit (s : State) :
    (s.enterBroken).inhibit = s.inhibit := by simp [State.enterBroken, keep_foldl State.inhibit, apply_ite State.inhibit]
@[simp] theorem State.enterBroken_servo (s : State) :
    (s.enterBroken).servo = s.servo := by simp [State.enterBroken, keep_foldl State.servo, apply_ite State.servo]
@[simp] theorem State.enterBroken_entries (s : State) :
    (s.enterBroken).entries = s.entries := by simp [State.enterBroken, keep_foldl State.entries, apply_ite State.entries]
@[simp] theorem State.enterBroken_outs (s : State) :
    (s.enterBroken).outs = s.outs := by simp [State.enterBroken, keep_foldl State.outs, apply_ite State.outs]
@[simp] theorem State.enterBroken_pending (s : State) :
    (s.enterBroken).pending = s.pending := by simp [State.enterBroken, keep_foldl State.pending, apply_ite State.pending]

@[simp] theorem State.holdChain_cycle (s : State) :
    (s.holdChain).cycle = s.cycle := by simp [State.holdChain, keep_foldl State.cycle, apply_ite State.cycle]
@[simp] theorem State.holdChain_readings (s : State) :
    (s.holdChain).readings = s.readings := by simp [State.holdChain, keep_foldl State.readings, apply_ite State.readings]
@[simp] theorem State.holdChain_tb (s : State) :
    (s.holdChain).tb = s.tb := by simp [State.holdChain, keep_foldl State.tb, apply_ite State.tb]
@[simp] theorem State.holdChain_resetPin (s : State) :
    (s.holdChain).resetPin = s.resetPin := by simp [State.holdChain, keep_foldl State.resetPin, apply_ite State.resetPin]
@[simp] theorem State.holdChain_inhibit (s : State) :
    (s.holdChain).inhibit = s.inhibit := by simp [State.holdChain, keep_foldl State.inhibit, apply_ite State.inhibit]
@[simp] theorem State.holdChain_servo (s : State) :
    (s.holdChain).servo = s.servo := by simp [State.holdChain, keep_foldl State.servo, apply_ite State.servo]
@[simp] theorem State.holdChain_pending (s : State) :
    (s.holdChain).pending = s.pending := by simp [State.holdChain, keep_foldl State.pending, apply_ite State.pending]

@[simp] theorem State.releaseChain_cycle (s : State) :
    (s.releaseChain).cycle = s.cycle := by unfold State.releaseChain; (repeat' split) <;> simp
@[simp] theorem State.releaseChain_readings (s : State) :
    (s.releaseChain).readings = s.readings := by unfold State.releaseChain; (repeat' split) <;> simp
@[simp] theorem State.releaseChain_tb (s : State) :
    (s.releaseChain).tb = s.tb := by unfold State.releaseChain; (repeat' split) <;> simp
@[simp] theorem State.releaseChain_resetPin (s : State) :
    (s.releaseChain).resetPin = s.resetPin := by unfold State.releaseChain; (repeat' split) <;> simp
@[simp] theorem State.releaseChain_inhibit (s : State) :
    (s.releaseChain).inhibit = s.inhibit := by unfold State.releaseChain; (repeat' split) <;> simp
@[simp] theorem State.releaseChain_servo (s : State) :
    (s.releaseChain).servo = s.servo := by unfold State.releaseChain; (repeat' split) <;> simp
@[simp] theorem State.releaseChain_entries (s : State) :
    (s.releaseChain).entries = s.entries := by unfold State.releaseChain; (repeat' split) <;> simp
@[simp] theorem State.releaseChain_outs (s : State) :
    (s.releaseChain).outs = s.outs := by unfold State.releaseChain; (repeat' split) <;> simp
@[simp] theorem State.releaseChain_pending (s : State) :
    (s.releaseChain).pending = s.pending := by unfold State.releaseChain; (repeat' split) <;> simp

@[simp] theorem State.chainSettings_cycle (s : State) (a b : Nat) (c : Bool) :
    (s.chainSettings a b c).cycle = s.cycle := by simp [State.chainSettings, keep_foldl State.cycle, apply_ite State.cycle]
@[simp] theorem State.chainSettings_readings (s : State) (a b : Nat) (c : Bool) :
    (s.chainSettings a b c).readings = s.readings := by simp [State.chainSettings, keep_foldl State.readings, apply_ite State.readings]
@[simp] theorem State.chainSettings_tb (s : State) (a b : Nat) (c : Bool) :
    (s.chainSettings a b c).tb = s.tb := by simp [State.chainSettings, keep_foldl State.tb, apply_ite State.tb]
@[simp] theorem State.chainSettings_resetPin (s : State) (a b : Nat) (c : Bool) :
    (s.chainSettings a b c).resetPin = s.resetPin := by simp [State.chainSettings, keep_foldl State.resetPin, apply_ite State.resetPin]
@[simp] theorem State.chainSettings_inhibit (s : State) (a b : Nat) (c : Bool) :
    (s.chainSettings a b c).inhibit = s.inhibit := by simp [State.chainSettings, keep_foldl State.inhibit, apply_ite State.inhibit]
@[simp] theorem State.chainSettings_servo (s : State) (a b : Nat) (c : Bool) :
    (s.chainSettings a b c).servo = s.servo := by simp [State.chainSettings, keep_foldl State.servo, apply_ite State.servo]
@[simp] theorem State.chainSettings_pending (s : State) (a b : Nat) (c : Bool) :
    (s.chainSettings a b c).pending = s.pending := by simp [State.chainSettings, keep_foldl State.pending, apply_ite State.pending]

@[simp] theorem State.setSlot_cycle (s : State) (l : Link) (v : Slot) :
    (s.setSlot l v).cycle = s.cycle := by unfold State.setSlot; split <;> simp
@[simp] theorem State.setSlot_readings (s : State) (l : Link) (v : Slot) :
    (s.setSlot l v).readings = s.readings := by unfold State.setSlot; split <;> simp
@[simp] theorem State.setSlot_tb (s : State) (l : Link) (v : Slot) :
    (s.setSlot l v).tb = s.tb := by unfold State.setSlot; split <;> simp
@[simp] theorem State.setSlot_resetPin (s : State) (l : Link) (v : Slot) :
    (s.setSlot l v).resetPin = s.resetPin := by unfold State.setSlot; split <;> simp
@[simp] theorem State.setSlot_inhibit (s : State) (l : Link) (v : Slot) :
    (s.setSlot l v).inhibit = s.inhibit := by unfold State.setSlot; split <;> simp
@[simp] theorem State.setSlot_servo (s : State) (l : Link) (v : Slot) :
    (s.setSlot l v).servo = s.servo := by unfold State.setSlot; split <;> simp
@[simp] theorem State.setSlot_entries (s : State) (l : Link) (v : Slot) :
    (s.setSlot l v).entries = s.entries := by unfold State.setSlot; split <;> simp
@[simp] theorem State.setSlot_outs (s : State) (l : Link) (v : Slot) :
    (s.setSlot l v).outs = s.outs := by unfold State.setSlot; split <;> simp
@[simp] theorem State.setSlot_pending (s : State) (l : Link) (v : Slot) :
    (s.setSlot l v).pending = s.pending := by unfold State.setSlot; split <;> simp

@[simp] theorem State.turnAway_cycle (s : State) (l : Link) (t : Tag) :
    (s.turnAway l t).cycle = s.cycle := by unfold State.turnAway; split <;> simp
@[simp] theorem State.turnAway_readings (s : State) (l : Link) (t : Tag) :
    (s.turnAway l t).readings = s.readings := by unfold State.turnAway; split <;> simp
@[simp] theorem State.turnAway_tb (s : State) (l : Link) (t : Tag) :
    (s.turnAway l t).tb = s.tb := by unfold State.turnAway; split <;> simp
@[simp] theorem State.turnAway_resetPin (s : State) (l : Link) (t : Tag) :
    (s.turnAway l t).resetPin = s.resetPin := by unfold State.turnAway; split <;> simp
@[simp] theorem State.turnAway_inhibit (s : State) (l : Link) (t : Tag) :
    (s.turnAway l t).inhibit = s.inhibit := by unfold State.turnAway; split <;> simp
@[simp] theorem State.turnAway_servo (s : State) (l : Link) (t : Tag) :
    (s.turnAway l t).servo = s.servo := by unfold State.turnAway; split <;> simp
@[simp] theorem State.turnAway_entries (s : State) (l : Link) (t : Tag) :
    (s.turnAway l t).entries = s.entries := by unfold State.turnAway; split <;> simp
@[simp] theorem State.turnAway_outs (s : State) (l : Link) (t : Tag) :
    (s.turnAway l t).outs = s.outs := by unfold State.turnAway; split <;> simp
@[simp] theorem State.turnAway_pending (s : State) (l : Link) (t : Tag) :
    (s.turnAway l t).pending = s.pending := by unfold State.turnAway; split <;> simp

@[simp] theorem State.completeOp_cycle (s : State) (r : Result) :
    (s.completeOp r).cycle = s.cycle := by simp only [State.completeOp]; (repeat' split) <;> simp
@[simp] theorem State.completeOp_readings (s : State) (r : Result) :
    (s.completeOp r).readings = s.readings := by simp only [State.completeOp]; (repeat' split) <;> simp
@[simp] theorem State.completeOp_tb (s : State) (r : Result) :
    (s.completeOp r).tb = s.tb := by simp only [State.completeOp]; (repeat' split) <;> simp
@[simp] theorem State.completeOp_resetPin (s : State) (r : Result) :
    (s.completeOp r).resetPin = s.resetPin := by simp only [State.completeOp]; (repeat' split) <;> simp
@[simp] theorem State.completeOp_inhibit (s : State) (r : Result) :
    (s.completeOp r).inhibit = s.inhibit := by simp only [State.completeOp]; (repeat' split) <;> simp
@[simp] theorem State.completeOp_servo (s : State) (r : Result) :
    (s.completeOp r).servo = s.servo := by simp only [State.completeOp]; (repeat' split) <;> simp
@[simp] theorem State.completeOp_entries (s : State) (r : Result) :
    (s.completeOp r).entries = s.entries := by simp only [State.completeOp]; (repeat' split) <;> simp
@[simp] theorem State.completeOp_outs (s : State) (r : Result) :
    (s.completeOp r).outs = s.outs := by simp only [State.completeOp]; (repeat' split) <;> simp
@[simp] theorem State.completeOp_pending (s : State) (r : Result) :
    (s.completeOp r).pending = s.pending := by simp only [State.completeOp]; (repeat' split) <;> simp

@[simp] theorem State.noteClass_cycle (s : State) :
    (s.noteClass).cycle = s.cycle := by unfold State.noteClass; split <;> simp
@[simp] theorem State.noteClass_readings (s : State) :
    (s.noteClass).readings = s.readings := by unfold State.noteClass; split <;> simp
@[simp] theorem State.noteClass_tb (s : State) : (s.noteClass).tb = s.tb := by unfold State.noteClass; split <;> simp
@[simp] theorem State.noteClass_resetPin (s : State) :
    (s.noteClass).resetPin = s.resetPin := by unfold State.noteClass; split <;> simp
@[simp] theorem State.noteClass_inhibit (s : State) :
    (s.noteClass).inhibit = s.inhibit := by unfold State.noteClass; split <;> simp
@[simp] theorem State.noteClass_entries (s : State) :
    (s.noteClass).entries = s.entries := by unfold State.noteClass; split <;> simp
@[simp] theorem State.noteClass_outs (s : State) :
    (s.noteClass).outs = s.outs := by unfold State.noteClass; split <;> simp
@[simp] theorem State.noteClass_pending (s : State) :
    (s.noteClass).pending = s.pending := by unfold State.noteClass; split <;> simp

@[simp] theorem State.own_cycle (s : State) (l : Link) :
    (s.own l).cycle = s.cycle := by unfold State.own; split <;> simp
@[simp] theorem State.own_readings (s : State) (l : Link) :
    (s.own l).readings = s.readings := by unfold State.own; split <;> simp
@[simp] theorem State.own_tb (s : State) (l : Link) : (s.own l).tb = s.tb := by unfold State.own; split <;> simp
@[simp] theorem State.own_resetPin (s : State) (l : Link) :
    (s.own l).resetPin = s.resetPin := by unfold State.own; split <;> simp
@[simp] theorem State.own_inhibit (s : State) (l : Link) :
    (s.own l).inhibit = s.inhibit := by unfold State.own; split <;> simp
@[simp] theorem State.own_servo (s : State) (l : Link) :
    (s.own l).servo = s.servo := by unfold State.own; split <;> simp
@[simp] theorem State.own_entries (s : State) (l : Link) :
    (s.own l).entries = s.entries := by unfold State.own; split <;> simp
@[simp] theorem State.own_outs (s : State) (l : Link) : (s.own l).outs = s.outs := by unfold State.own; split <;> simp
@[simp] theorem State.own_pending (s : State) (l : Link) :
    (s.own l).pending = s.pending := by unfold State.own; split <;> simp

@[simp] theorem State.fillEntry_cycle (s : State) (i : Idx) (l : Link) (d : EntryDef) :
    (s.fillEntry i l d).cycle = s.cycle := by simp [State.fillEntry]
@[simp] theorem State.fillEntry_readings (s : State) (i : Idx) (l : Link) (d : EntryDef) :
    (s.fillEntry i l d).readings = s.readings := by simp [State.fillEntry]
@[simp] theorem State.fillEntry_tb (s : State) (i : Idx) (l : Link) (d : EntryDef) :
    (s.fillEntry i l d).tb = s.tb := by simp [State.fillEntry]
@[simp] theorem State.fillEntry_resetPin (s : State) (i : Idx) (l : Link) (d : EntryDef) :
    (s.fillEntry i l d).resetPin = s.resetPin := by simp [State.fillEntry]
@[simp] theorem State.fillEntry_inhibit (s : State) (i : Idx) (l : Link) (d : EntryDef) :
    (s.fillEntry i l d).inhibit = s.inhibit := by simp [State.fillEntry]
@[simp] theorem State.fillEntry_servo (s : State) (i : Idx) (l : Link) (d : EntryDef) :
    (s.fillEntry i l d).servo = s.servo := by simp [State.fillEntry]
@[simp] theorem State.fillEntry_outs (s : State) (i : Idx) (l : Link) (d : EntryDef) :
    (s.fillEntry i l d).outs = s.outs := by simp [State.fillEntry]
@[simp] theorem State.fillEntry_pending (s : State) (i : Idx) (l : Link) (d : EntryDef) :
    (s.fillEntry i l d).pending = s.pending := by simp [State.fillEntry]

@[simp] theorem State.realign_cycle (s : State) (i : Idx) :
    (s.realign i).cycle = s.cycle := by simp only [State.realign]; (repeat' split) <;> simp
@[simp] theorem State.realign_readings (s : State) (i : Idx) :
    (s.realign i).readings = s.readings := by simp only [State.realign]; (repeat' split) <;> simp
@[simp] theorem State.realign_tb (s : State) (i : Idx) :
    (s.realign i).tb = s.tb := by simp only [State.realign]; (repeat' split) <;> simp
@[simp] theorem State.realign_resetPin (s : State) (i : Idx) :
    (s.realign i).resetPin = s.resetPin := by simp only [State.realign]; (repeat' split) <;> simp
@[simp] theorem State.realign_inhibit (s : State) (i : Idx) :
    (s.realign i).inhibit = s.inhibit := by simp only [State.realign]; (repeat' split) <;> simp
@[simp] theorem State.realign_servo (s : State) (i : Idx) :
    (s.realign i).servo = s.servo := by simp only [State.realign]; (repeat' split) <;> simp
@[simp] theorem State.realign_pending (s : State) (i : Idx) :
    (s.realign i).pending = s.pending := by simp only [State.realign]; (repeat' split) <;> simp

@[simp] theorem State.setEnd_cycle (s : State) (i : Idx) (x : Nat) :
    (s.setEnd i x).cycle = s.cycle := by simp only [State.setEnd]; (repeat' split) <;> simp
@[simp] theorem State.setEnd_readings (s : State) (i : Idx) (x : Nat) :
    (s.setEnd i x).readings = s.readings := by simp only [State.setEnd]; (repeat' split) <;> simp
@[simp] theorem State.setEnd_tb (s : State) (i : Idx) (x : Nat) :
    (s.setEnd i x).tb = s.tb := by simp only [State.setEnd]; (repeat' split) <;> simp
@[simp] theorem State.setEnd_resetPin (s : State) (i : Idx) (x : Nat) :
    (s.setEnd i x).resetPin = s.resetPin := by simp only [State.setEnd]; (repeat' split) <;> simp
@[simp] theorem State.setEnd_inhibit (s : State) (i : Idx) (x : Nat) :
    (s.setEnd i x).inhibit = s.inhibit := by simp only [State.setEnd]; (repeat' split) <;> simp
@[simp] theorem State.setEnd_servo (s : State) (i : Idx) (x : Nat) :
    (s.setEnd i x).servo = s.servo := by simp only [State.setEnd]; (repeat' split) <;> simp
@[simp] theorem State.setEnd_pending (s : State) (i : Idx) (x : Nat) :
    (s.setEnd i x).pending = s.pending := by simp only [State.setEnd]; (repeat' split) <;> simp

@[simp] theorem State.leaveNotices_cycle (s : State) (l : Link) (r : List Idx) :
    (s.leaveNotices l r).cycle = s.cycle := by unfold State.leaveNotices; split <;> simp
@[simp] theorem State.leaveNotices_readings (s : State) (l : Link) (r : List Idx) :
    (s.leaveNotices l r).readings = s.readings := by unfold State.leaveNotices; split <;> simp
@[simp] theorem State.leaveNotices_tb (s : State) (l : Link) (r : List Idx) :
    (s.leaveNotices l r).tb = s.tb := by unfold State.leaveNotices; split <;> simp
@[simp] theorem State.leaveNotices_resetPin (s : State) (l : Link) (r : List Idx) :
    (s.leaveNotices l r).resetPin = s.resetPin := by unfold State.leaveNotices; split <;> simp
@[simp] theorem State.leaveNotices_inhibit (s : State) (l : Link) (r : List Idx) :
    (s.leaveNotices l r).inhibit = s.inhibit := by unfold State.leaveNotices; split <;> simp
@[simp] theorem State.leaveNotices_servo (s : State) (l : Link) (r : List Idx) :
    (s.leaveNotices l r).servo = s.servo := by unfold State.leaveNotices; split <;> simp
@[simp] theorem State.leaveNotices_entries (s : State) (l : Link) (r : List Idx) :
    (s.leaveNotices l r).entries = s.entries := by unfold State.leaveNotices; split <;> simp
@[simp] theorem State.leaveNotices_outs (s : State) (l : Link) (r : List Idx) :
    (s.leaveNotices l r).outs = s.outs := by unfold State.leaveNotices; split <;> simp
@[simp] theorem State.leaveNotices_pending (s : State) (l : Link) (r : List Idx) :
    (s.leaveNotices l r).pending = s.pending := by unfold State.leaveNotices; split <;> simp

@[simp] theorem State.enterHoldover_cycle (s : State) :
    (s.enterHoldover).cycle = s.cycle := by simp [State.enterHoldover]
@[simp] theorem State.enterHoldover_readings (s : State) :
    (s.enterHoldover).readings = s.readings := by simp [State.enterHoldover]
@[simp] theorem State.enterHoldover_tb (s : State) : (s.enterHoldover).tb = s.tb := by simp [State.enterHoldover]
@[simp] theorem State.enterHoldover_resetPin (s : State) :
    (s.enterHoldover).resetPin = s.resetPin := by simp [State.enterHoldover]
@[simp] theorem State.enterHoldover_inhibit (s : State) :
    (s.enterHoldover).inhibit = s.inhibit := by simp [State.enterHoldover]
@[simp] theorem State.enterHoldover_entries (s : State) :
    (s.enterHoldover).entries = s.entries := by simp [State.enterHoldover]
@[simp] theorem State.enterHoldover_outs (s : State) :
    (s.enterHoldover).outs = s.outs := by simp [State.enterHoldover]
@[simp] theorem State.enterHoldover_pending (s : State) :
    (s.enterHoldover).pending = s.pending := by simp [State.enterHoldover]

@[simp] theorem State.applyParams_cycle (s : State) (p : ServoParams) :
    (s.applyParams p).cycle = s.cycle := by simp only [State.applyParams]; (repeat' split) <;> simp
@[simp] theorem State.applyParams_readings (s : State) (p : ServoParams) :
    (s.applyParams p).readings = s.readings := by simp only [State.applyParams]; (repeat' split) <;> simp
@[simp] theorem State.applyParams_tb (s : State) (p : ServoParams) :
    (s.applyParams p).tb = s.tb := by simp only [State.applyParams]; (repeat' split) <;> simp
@[simp] theorem State.applyParams_resetPin (s : State) (p : ServoParams) :
    (s.applyParams p).resetPin = s.resetPin := by simp only [State.applyParams]; (repeat' split) <;> simp
@[simp] theorem State.applyParams_inhibit (s : State) (p : ServoParams) :
    (s.applyParams p).inhibit = s.inhibit := by simp only [State.applyParams]; (repeat' split) <;> simp
@[simp] theorem State.applyParams_outs (s : State) (p : ServoParams) :
    (s.applyParams p).outs = s.outs := by simp only [State.applyParams]; (repeat' split) <;> simp
@[simp] theorem State.applyParams_pending (s : State) (p : ServoParams) :
    (s.applyParams p).pending = s.pending := by simp only [State.applyParams]; (repeat' split) <;> simp

@[simp] theorem State.setCivil_cycle (s : State) (o : Int) (j : Nat) :
    (s.setCivil o j).cycle = s.cycle := by unfold State.setCivil; split <;> simp
@[simp] theorem State.setCivil_readings (s : State) (o : Int) (j : Nat) :
    (s.setCivil o j).readings = s.readings := by unfold State.setCivil; split <;> simp
@[simp] theorem State.setCivil_tb (s : State) (o : Int) (j : Nat) :
    (s.setCivil o j).tb = s.tb := by unfold State.setCivil; split <;> simp
@[simp] theorem State.setCivil_resetPin (s : State) (o : Int) (j : Nat) :
    (s.setCivil o j).resetPin = s.resetPin := by unfold State.setCivil; split <;> simp
@[simp] theorem State.setCivil_inhibit (s : State) (o : Int) (j : Nat) :
    (s.setCivil o j).inhibit = s.inhibit := by unfold State.setCivil; split <;> simp
@[simp] theorem State.setCivil_servo (s : State) (o : Int) (j : Nat) :
    (s.setCivil o j).servo = s.servo := by unfold State.setCivil; split <;> simp
@[simp] theorem State.setCivil_outs (s : State) (o : Int) (j : Nat) :
    (s.setCivil o j).outs = s.outs := by unfold State.setCivil; split <;> simp
@[simp] theorem State.setCivil_pending (s : State) (o : Int) (j : Nat) :
    (s.setCivil o j).pending = s.pending := by unfold State.setCivil; split <;> simp

@[simp] theorem State.setPending_cycle (s : State) (p : Option (Int × Nat)) :
    (s.setPending p).cycle = s.cycle := by unfold State.setPending; split <;> simp
@[simp] theorem State.setPending_readings (s : State) (p : Option (Int × Nat)) :
    (s.setPending p).readings = s.readings := by unfold State.setPending; split <;> simp
@[simp] theorem State.setPending_tb (s : State) (p : Option (Int × Nat)) :
    (s.setPending p).tb = s.tb := by unfold State.setPending; split <;> simp
@[simp] theorem State.setPending_resetPin (s : State) (p : Option (Int × Nat)) :
    (s.setPending p).resetPin = s.resetPin := by unfold State.setPending; split <;> simp
@[simp] theorem State.setPending_inhibit (s : State) (p : Option (Int × Nat)) :
    (s.setPending p).inhibit = s.inhibit := by unfold State.setPending; split <;> simp
@[simp] theorem State.setPending_servo (s : State) (p : Option (Int × Nat)) :
    (s.setPending p).servo = s.servo := by unfold State.setPending; split <;> simp
@[simp] theorem State.setPending_outs (s : State) (p : Option (Int × Nat)) :
    (s.setPending p).outs = s.outs := by unfold State.setPending; split <;> simp
@[simp] theorem State.setPending_pending (s : State) (p : Option (Int × Nat)) :
    (s.setPending p).pending = s.pending := by unfold State.setPending; split <;> simp

@[simp] theorem State.applyCivil_cycle (s : State) (q : CivilReq) :
    (s.applyCivil q).cycle = s.cycle := by simp [State.applyCivil]
@[simp] theorem State.applyCivil_readings (s : State) (q : CivilReq) :
    (s.applyCivil q).readings = s.readings := by simp [State.applyCivil]
@[simp] theorem State.applyCivil_tb (s : State) (q : CivilReq) :
    (s.applyCivil q).tb = s.tb := by simp [State.applyCivil]
@[simp] theorem State.applyCivil_resetPin (s : State) (q : CivilReq) :
    (s.applyCivil q).resetPin = s.resetPin := by simp [State.applyCivil]
@[simp] theorem State.applyCivil_inhibit (s : State) (q : CivilReq) :
    (s.applyCivil q).inhibit = s.inhibit := by simp [State.applyCivil]
@[simp] theorem State.applyCivil_servo (s : State) (q : CivilReq) :
    (s.applyCivil q).servo = s.servo := by simp [State.applyCivil]
@[simp] theorem State.applyCivil_outs (s : State) (q : CivilReq) :
    (s.applyCivil q).outs = s.outs := by simp [State.applyCivil]
@[simp] theorem State.applyCivil_pending (s : State) (q : CivilReq) :
    (s.applyCivil q).pending = s.pending := by simp [State.applyCivil]

@[simp] theorem State.retireForBank_cycle (s : State) (all : Bool) :
    (s.retireForBank all).cycle = s.cycle := by simp [State.retireForBank, keep_foldl State.cycle, apply_ite State.cycle]
@[simp] theorem State.retireForBank_readings (s : State) (all : Bool) :
    (s.retireForBank all).readings = s.readings := by simp [State.retireForBank, keep_foldl State.readings, apply_ite State.readings]
@[simp] theorem State.retireForBank_tb (s : State) (all : Bool) :
    (s.retireForBank all).tb = s.tb := by simp [State.retireForBank, keep_foldl State.tb, apply_ite State.tb]
@[simp] theorem State.retireForBank_resetPin (s : State) (all : Bool) :
    (s.retireForBank all).resetPin = s.resetPin := by simp [State.retireForBank, keep_foldl State.resetPin, apply_ite State.resetPin]
@[simp] theorem State.retireForBank_inhibit (s : State) (all : Bool) :
    (s.retireForBank all).inhibit = s.inhibit := by simp [State.retireForBank, keep_foldl State.inhibit, apply_ite State.inhibit]
@[simp] theorem State.retireForBank_servo (s : State) (all : Bool) :
    (s.retireForBank all).servo = s.servo := by simp [State.retireForBank, keep_foldl State.servo, apply_ite State.servo]
@[simp] theorem State.retireForBank_pending (s : State) (all : Bool) :
    (s.retireForBank all).pending = s.pending := by simp [State.retireForBank, keep_foldl State.pending, apply_ite State.pending]

@[simp] theorem State.takeSettings_cycle (s : State) (c : BankContent) (a : Bool) :
    (s.takeSettings c a).cycle = s.cycle := by unfold State.takeSettings; split <;> simp
@[simp] theorem State.takeSettings_readings (s : State) (c : BankContent) (a : Bool) :
    (s.takeSettings c a).readings = s.readings := by unfold State.takeSettings; split <;> simp
@[simp] theorem State.takeSettings_tb (s : State) (c : BankContent) (a : Bool) :
    (s.takeSettings c a).tb = s.tb := by unfold State.takeSettings; split <;> simp
@[simp] theorem State.takeSettings_resetPin (s : State) (c : BankContent) (a : Bool) :
    (s.takeSettings c a).resetPin = s.resetPin := by unfold State.takeSettings; split <;> simp
@[simp] theorem State.takeSettings_inhibit (s : State) (c : BankContent) (a : Bool) :
    (s.takeSettings c a).inhibit = s.inhibit := by unfold State.takeSettings; split <;> simp
@[simp] theorem State.takeSettings_pending (s : State) (c : BankContent) (a : Bool) :
    (s.takeSettings c a).pending = s.pending := by unfold State.takeSettings; split <;> simp

@[simp] theorem State.makeWay_cycle (s : State) (c : BankContent) (all : Bool) :
    (s.makeWay c all).cycle = s.cycle := by simp [State.makeWay]
@[simp] theorem State.makeWay_readings (s : State) (c : BankContent) (all : Bool) :
    (s.makeWay c all).readings = s.readings := by simp [State.makeWay]
@[simp] theorem State.makeWay_tb (s : State) (c : BankContent) (all : Bool) :
    (s.makeWay c all).tb = s.tb := by simp [State.makeWay]
@[simp] theorem State.makeWay_resetPin (s : State) (c : BankContent) (all : Bool) :
    (s.makeWay c all).resetPin = s.resetPin := by simp [State.makeWay]
@[simp] theorem State.makeWay_inhibit (s : State) (c : BankContent) (all : Bool) :
    (s.makeWay c all).inhibit = s.inhibit := by simp [State.makeWay]
@[simp] theorem State.makeWay_servo (s : State) (c : BankContent) (all : Bool) :
    (s.makeWay c all).servo = s.servo := by simp [State.makeWay]
@[simp] theorem State.makeWay_pending (s : State) (c : BankContent) (all : Bool) :
    (s.makeWay c all).pending = s.pending := by simp [State.makeWay]

@[simp] theorem State.bindByPosition_cycle (s : State) (o : Vector OutputDef 16) (m : List (Option EntryRef)) :
    (s.bindByPosition o m).cycle = s.cycle := by simp [State.bindByPosition]
@[simp] theorem State.bindByPosition_readings (s : State) (o : Vector OutputDef 16) (m : List (Option EntryRef)) :
    (s.bindByPosition o m).readings = s.readings := by simp [State.bindByPosition]
@[simp] theorem State.bindByPosition_tb (s : State) (o : Vector OutputDef 16) (m : List (Option EntryRef)) :
    (s.bindByPosition o m).tb = s.tb := by simp [State.bindByPosition]
@[simp] theorem State.bindByPosition_resetPin (s : State) (o : Vector OutputDef 16) (m : List (Option EntryRef)) :
    (s.bindByPosition o m).resetPin = s.resetPin := by simp [State.bindByPosition]
@[simp] theorem State.bindByPosition_inhibit (s : State) (o : Vector OutputDef 16) (m : List (Option EntryRef)) :
    (s.bindByPosition o m).inhibit = s.inhibit := by simp [State.bindByPosition]
@[simp] theorem State.bindByPosition_servo (s : State) (o : Vector OutputDef 16) (m : List (Option EntryRef)) :
    (s.bindByPosition o m).servo = s.servo := by simp [State.bindByPosition]
@[simp] theorem State.bindByPosition_entries (s : State) (o : Vector OutputDef 16) (m : List (Option EntryRef)) :
    (s.bindByPosition o m).entries = s.entries := by simp [State.bindByPosition]
@[simp] theorem State.bindByPosition_pending (s : State) (o : Vector OutputDef 16) (m : List (Option EntryRef)) :
    (s.bindByPosition o m).pending = s.pending := by simp [State.bindByPosition]

@[simp] theorem State.endOp_cycle (s : State) (k : Byte) (t : Tag) (st : Status) (b : Body) :
    (s.endOp k t st b).cycle = s.cycle := by simp [State.endOp]
@[simp] theorem State.endOp_readings (s : State) (k : Byte) (t : Tag) (st : Status) (b : Body) :
    (s.endOp k t st b).readings = s.readings := by simp [State.endOp]
@[simp] theorem State.endOp_tb (s : State) (k : Byte) (t : Tag) (st : Status) (b : Body) :
    (s.endOp k t st b).tb = s.tb := by simp [State.endOp]
@[simp] theorem State.endOp_resetPin (s : State) (k : Byte) (t : Tag) (st : Status) (b : Body) :
    (s.endOp k t st b).resetPin = s.resetPin := by simp [State.endOp]
@[simp] theorem State.endOp_inhibit (s : State) (k : Byte) (t : Tag) (st : Status) (b : Body) :
    (s.endOp k t st b).inhibit = s.inhibit := by simp [State.endOp]
@[simp] theorem State.endOp_servo (s : State) (k : Byte) (t : Tag) (st : Status) (b : Body) :
    (s.endOp k t st b).servo = s.servo := by simp [State.endOp]
@[simp] theorem State.endOp_entries (s : State) (k : Byte) (t : Tag) (st : Status) (b : Body) :
    (s.endOp k t st b).entries = s.entries := by simp [State.endOp]
@[simp] theorem State.endOp_outs (s : State) (k : Byte) (t : Tag) (st : Status) (b : Body) :
    (s.endOp k t st b).outs = s.outs := by simp [State.endOp]
@[simp] theorem State.endOp_pending (s : State) (k : Byte) (t : Tag) (st : Status) (b : Body) :
    (s.endOp k t st b).pending = s.pending := by simp [State.endOp]

@[simp] theorem State.vacateAll_cycle (s : State) : (s.vacateAll).cycle = s.cycle := by simp [State.vacateAll]
@[simp] theorem State.vacateAll_readings (s : State) : (s.vacateAll).readings = s.readings := by simp [State.vacateAll]
@[simp] theorem State.vacateAll_tb (s : State) : (s.vacateAll).tb = s.tb := by simp [State.vacateAll]
@[simp] theorem State.vacateAll_resetPin (s : State) :
    (s.vacateAll).resetPin = s.resetPin := by simp [State.vacateAll]
@[simp] theorem State.vacateAll_inhibit (s : State) : (s.vacateAll).inhibit = s.inhibit := by simp [State.vacateAll]
@[simp] theorem State.vacateAll_servo (s : State) : (s.vacateAll).servo = s.servo := by simp [State.vacateAll]
@[simp] theorem State.vacateAll_outs (s : State) : (s.vacateAll).outs = s.outs := by simp [State.vacateAll]
@[simp] theorem State.vacateAll_pending (s : State) : (s.vacateAll).pending = s.pending := by simp [State.vacateAll]

@[simp] theorem State.resetChain_cycle (s : State) :
    (s.resetChain).cycle = s.cycle := by simp [State.resetChain, keep_foldl State.cycle, apply_ite State.cycle]
@[simp] theorem State.resetChain_readings (s : State) :
    (s.resetChain).readings = s.readings := by simp [State.resetChain, keep_foldl State.readings, apply_ite State.readings]
@[simp] theorem State.resetChain_tb (s : State) :
    (s.resetChain).tb = s.tb := by simp [State.resetChain, keep_foldl State.tb, apply_ite State.tb]
@[simp] theorem State.resetChain_resetPin (s : State) :
    (s.resetChain).resetPin = s.resetPin := by simp [State.resetChain, keep_foldl State.resetPin, apply_ite State.resetPin]
@[simp] theorem State.resetChain_inhibit (s : State) :
    (s.resetChain).inhibit = s.inhibit := by simp [State.resetChain, keep_foldl State.inhibit, apply_ite State.inhibit]
@[simp] theorem State.resetChain_servo (s : State) :
    (s.resetChain).servo = s.servo := by simp [State.resetChain, keep_foldl State.servo, apply_ite State.servo]
@[simp] theorem State.resetChain_entries (s : State) :
    (s.resetChain).entries = s.entries := by simp [State.resetChain, keep_foldl State.entries, apply_ite State.entries]
@[simp] theorem State.resetChain_outs (s : State) :
    (s.resetChain).outs = s.outs := by simp [State.resetChain, keep_foldl State.outs, apply_ite State.outs]
@[simp] theorem State.resetChain_pending (s : State) :
    (s.resetChain).pending = s.pending := by simp [State.resetChain, keep_foldl State.pending, apply_ite State.pending]

@[simp] theorem State.softReset_cycle (s : State) : (s.softReset).cycle = s.cycle := by simp [State.softReset]
@[simp] theorem State.softReset_readings (s : State) : (s.softReset).readings = s.readings := by simp [State.softReset]
@[simp] theorem State.softReset_tb (s : State) : (s.softReset).tb = s.tb := by simp [State.softReset]
@[simp] theorem State.softReset_resetPin (s : State) :
    (s.softReset).resetPin = s.resetPin := by simp [State.softReset]
@[simp] theorem State.softReset_inhibit (s : State) : (s.softReset).inhibit = s.inhibit := by simp [State.softReset]
@[simp] theorem State.softReset_servo (s : State) : (s.softReset).servo = s.servo := by simp [State.softReset]
@[simp] theorem State.softReset_pending (s : State) : (s.softReset).pending = s.pending := by simp [State.softReset]

@[simp] theorem State.portArrive_cycle (s : State) (b : List Byte) :
    (s.portArrive b).cycle = s.cycle := by unfold State.portArrive; split <;> simp
@[simp] theorem State.portArrive_readings (s : State) (b : List Byte) :
    (s.portArrive b).readings = s.readings := by unfold State.portArrive; split <;> simp
@[simp] theorem State.portArrive_tb (s : State) (b : List Byte) :
    (s.portArrive b).tb = s.tb := by unfold State.portArrive; split <;> simp
@[simp] theorem State.portArrive_resetPin (s : State) (b : List Byte) :
    (s.portArrive b).resetPin = s.resetPin := by unfold State.portArrive; split <;> simp
@[simp] theorem State.portArrive_inhibit (s : State) (b : List Byte) :
    (s.portArrive b).inhibit = s.inhibit := by unfold State.portArrive; split <;> simp
@[simp] theorem State.portArrive_servo (s : State) (b : List Byte) :
    (s.portArrive b).servo = s.servo := by unfold State.portArrive; split <;> simp
@[simp] theorem State.portArrive_entries (s : State) (b : List Byte) :
    (s.portArrive b).entries = s.entries := by unfold State.portArrive; split <;> simp
@[simp] theorem State.portArrive_outs (s : State) (b : List Byte) :
    (s.portArrive b).outs = s.outs := by unfold State.portArrive; split <;> simp
@[simp] theorem State.portArrive_pending (s : State) (b : List Byte) :
    (s.portArrive b).pending = s.pending := by unfold State.portArrive; split <;> simp

@[simp] theorem State.spiWritten_cycle (s : State) (b : List Byte) :
    (s.spiWritten b).cycle = s.cycle := by unfold State.spiWritten; split <;> simp
@[simp] theorem State.spiWritten_readings (s : State) (b : List Byte) :
    (s.spiWritten b).readings = s.readings := by unfold State.spiWritten; split <;> simp
@[simp] theorem State.spiWritten_tb (s : State) (b : List Byte) :
    (s.spiWritten b).tb = s.tb := by unfold State.spiWritten; split <;> simp
@[simp] theorem State.spiWritten_resetPin (s : State) (b : List Byte) :
    (s.spiWritten b).resetPin = s.resetPin := by unfold State.spiWritten; split <;> simp
@[simp] theorem State.spiWritten_inhibit (s : State) (b : List Byte) :
    (s.spiWritten b).inhibit = s.inhibit := by unfold State.spiWritten; split <;> simp
@[simp] theorem State.spiWritten_servo (s : State) (b : List Byte) :
    (s.spiWritten b).servo = s.servo := by unfold State.spiWritten; split <;> simp
@[simp] theorem State.spiWritten_entries (s : State) (b : List Byte) :
    (s.spiWritten b).entries = s.entries := by unfold State.spiWritten; split <;> simp
@[simp] theorem State.spiWritten_outs (s : State) (b : List Byte) :
    (s.spiWritten b).outs = s.outs := by unfold State.spiWritten; split <;> simp
@[simp] theorem State.spiWritten_pending (s : State) (b : List Byte) :
    (s.spiWritten b).pending = s.pending := by unfold State.spiWritten; split <;> simp

@[simp] theorem State.spiRead_cycle (s : State) (n : ReadPart) : (s.spiRead n).cycle = s.cycle := by simp [State.spiRead]
@[simp] theorem State.spiRead_readings (s : State) (n : ReadPart) : (s.spiRead n).readings = s.readings := by simp [State.spiRead]
@[simp] theorem State.spiRead_tb (s : State) (n : ReadPart) : (s.spiRead n).tb = s.tb := by simp [State.spiRead]
@[simp] theorem State.spiRead_resetPin (s : State) (n : ReadPart) :
    (s.spiRead n).resetPin = s.resetPin := by simp [State.spiRead]
@[simp] theorem State.spiRead_inhibit (s : State) (n : ReadPart) :
    (s.spiRead n).inhibit = s.inhibit := by simp [State.spiRead]
@[simp] theorem State.spiRead_servo (s : State) (n : ReadPart) : (s.spiRead n).servo = s.servo := by simp [State.spiRead]
@[simp] theorem State.spiRead_entries (s : State) (n : ReadPart) :
    (s.spiRead n).entries = s.entries := by simp [State.spiRead]
@[simp] theorem State.spiRead_outs (s : State) (n : ReadPart) : (s.spiRead n).outs = s.outs := by simp [State.spiRead]
@[simp] theorem State.spiRead_pending (s : State) (n : ReadPart) :
    (s.spiRead n).pending = s.pending := by simp [State.spiRead]

@[simp] theorem State.emitMark_cycle (s : State) (i : Idx) :
    (s.emitMark i).cycle = s.cycle := by simp only [State.emitMark]; (repeat' split) <;> simp
@[simp] theorem State.emitMark_readings (s : State) (i : Idx) :
    (s.emitMark i).readings = s.readings := by simp only [State.emitMark]; (repeat' split) <;> simp
@[simp] theorem State.emitMark_tb (s : State) (i : Idx) :
    (s.emitMark i).tb = s.tb := by simp only [State.emitMark]; (repeat' split) <;> simp
@[simp] theorem State.emitMark_resetPin (s : State) (i : Idx) :
    (s.emitMark i).resetPin = s.resetPin := by simp only [State.emitMark]; (repeat' split) <;> simp
@[simp] theorem State.emitMark_inhibit (s : State) (i : Idx) :
    (s.emitMark i).inhibit = s.inhibit := by simp only [State.emitMark]; (repeat' split) <;> simp
@[simp] theorem State.emitMark_servo (s : State) (i : Idx) :
    (s.emitMark i).servo = s.servo := by simp only [State.emitMark]; (repeat' split) <;> simp
@[simp] theorem State.emitMark_pending (s : State) (i : Idx) :
    (s.emitMark i).pending = s.pending := by simp only [State.emitMark]; (repeat' split) <;> simp

@[simp] theorem State.markDue_cycle (s : State) (i : Idx) :
    (s.markDue i).cycle = s.cycle := by simp only [State.markDue]; (repeat' split) <;> simp
@[simp] theorem State.markDue_readings (s : State) (i : Idx) :
    (s.markDue i).readings = s.readings := by simp only [State.markDue]; (repeat' split) <;> simp
@[simp] theorem State.markDue_tb (s : State) (i : Idx) :
    (s.markDue i).tb = s.tb := by simp only [State.markDue]; (repeat' split) <;> simp
@[simp] theorem State.markDue_resetPin (s : State) (i : Idx) :
    (s.markDue i).resetPin = s.resetPin := by simp only [State.markDue]; (repeat' split) <;> simp
@[simp] theorem State.markDue_inhibit (s : State) (i : Idx) :
    (s.markDue i).inhibit = s.inhibit := by simp only [State.markDue]; (repeat' split) <;> simp
@[simp] theorem State.markDue_servo (s : State) (i : Idx) :
    (s.markDue i).servo = s.servo := by simp only [State.markDue]; (repeat' split) <;> simp
@[simp] theorem State.markDue_pending (s : State) (i : Idx) :
    (s.markDue i).pending = s.pending := by simp only [State.markDue]; (repeat' split) <;> simp

@[simp] theorem State.endDue_cycle (s : State) (i : Idx) :
    (s.endDue i).cycle = s.cycle := by unfold State.endDue; split <;> simp
@[simp] theorem State.endDue_readings (s : State) (i : Idx) :
    (s.endDue i).readings = s.readings := by unfold State.endDue; split <;> simp
@[simp] theorem State.endDue_tb (s : State) (i : Idx) :
    (s.endDue i).tb = s.tb := by unfold State.endDue; split <;> simp
@[simp] theorem State.endDue_resetPin (s : State) (i : Idx) :
    (s.endDue i).resetPin = s.resetPin := by unfold State.endDue; split <;> simp
@[simp] theorem State.endDue_inhibit (s : State) (i : Idx) :
    (s.endDue i).inhibit = s.inhibit := by unfold State.endDue; split <;> simp
@[simp] theorem State.endDue_servo (s : State) (i : Idx) :
    (s.endDue i).servo = s.servo := by unfold State.endDue; split <;> simp
@[simp] theorem State.endDue_pending (s : State) (i : Idx) :
    (s.endDue i).pending = s.pending := by unfold State.endDue; split <;> simp

@[simp] theorem State.jam_cycle (s : State) : (s.jam).cycle = s.cycle := by simp [State.jam]
@[simp] theorem State.jam_readings (s : State) : (s.jam).readings = s.readings := by simp [State.jam]
@[simp] theorem State.jam_tb (s : State) : (s.jam).tb = s.tb := by simp [State.jam]
@[simp] theorem State.jam_resetPin (s : State) : (s.jam).resetPin = s.resetPin := by simp [State.jam]
@[simp] theorem State.jam_inhibit (s : State) : (s.jam).inhibit = s.inhibit := by simp [State.jam]
@[simp] theorem State.jam_servo (s : State) : (s.jam).servo = s.servo := by simp [State.jam]
@[simp] theorem State.jam_outs (s : State) : (s.jam).outs = s.outs := by simp [State.jam]
@[simp] theorem State.jam_pending (s : State) : (s.jam).pending = s.pending := by simp [State.jam]

@[simp] theorem State.moveOn_cycle (s : State) : (s.moveOn).cycle = s.cycle := by unfold State.moveOn; split <;> simp
@[simp] theorem State.moveOn_readings (s : State) : (s.moveOn).readings = s.readings := by unfold State.moveOn; split <;> simp
@[simp] theorem State.moveOn_tb (s : State) : (s.moveOn).tb = s.tb := by unfold State.moveOn; split <;> simp
@[simp] theorem State.moveOn_resetPin (s : State) :
    (s.moveOn).resetPin = s.resetPin := by unfold State.moveOn; split <;> simp
@[simp] theorem State.moveOn_inhibit (s : State) :
    (s.moveOn).inhibit = s.inhibit := by unfold State.moveOn; split <;> simp
@[simp] theorem State.moveOn_servo (s : State) : (s.moveOn).servo = s.servo := by unfold State.moveOn; split <;> simp
@[simp] theorem State.moveOn_entries (s : State) :
    (s.moveOn).entries = s.entries := by unfold State.moveOn; split <;> simp
@[simp] theorem State.moveOn_outs (s : State) : (s.moveOn).outs = s.outs := by unfold State.moveOn; split <;> simp
@[simp] theorem State.moveOn_pending (s : State) :
    (s.moveOn).pending = s.pending := by unfold State.moveOn; split <;> simp

@[simp] theorem State.sendService_cycle (s : State) (k : FrameKind) (x : Addr) :
    (s.sendService k x).cycle = s.cycle := by simp [State.sendService]
@[simp] theorem State.sendService_readings (s : State) (k : FrameKind) (x : Addr) :
    (s.sendService k x).readings = s.readings := by simp [State.sendService]
@[simp] theorem State.sendService_tb (s : State) (k : FrameKind) (x : Addr) :
    (s.sendService k x).tb = s.tb := by simp [State.sendService]
@[simp] theorem State.sendService_resetPin (s : State) (k : FrameKind) (x : Addr) :
    (s.sendService k x).resetPin = s.resetPin := by simp [State.sendService]
@[simp] theorem State.sendService_inhibit (s : State) (k : FrameKind) (x : Addr) :
    (s.sendService k x).inhibit = s.inhibit := by simp [State.sendService]
@[simp] theorem State.sendService_servo (s : State) (k : FrameKind) (x : Addr) :
    (s.sendService k x).servo = s.servo := by simp [State.sendService]
@[simp] theorem State.sendService_entries (s : State) (k : FrameKind) (x : Addr) :
    (s.sendService k x).entries = s.entries := by simp [State.sendService]
@[simp] theorem State.sendService_outs (s : State) (k : FrameKind) (x : Addr) :
    (s.sendService k x).outs = s.outs := by simp [State.sendService]
@[simp] theorem State.sendService_pending (s : State) (k : FrameKind) (x : Addr) :
    (s.sendService k x).pending = s.pending := by simp [State.sendService]

@[simp] theorem State.choose_cycle (s : State) : s.choose.cycle = s.cycle := by unfold State.choose; split <;> simp
@[simp] theorem State.choose_readings (s : State) : s.choose.readings = s.readings := by unfold State.choose; split <;> simp
@[simp] theorem State.choose_tb (s : State) : s.choose.tb = s.tb := by unfold State.choose; split <;> simp
@[simp] theorem State.choose_resetPin (s : State) : s.choose.resetPin = s.resetPin := by unfold State.choose; split <;> simp
@[simp] theorem State.choose_inhibit (s : State) : s.choose.inhibit = s.inhibit := by unfold State.choose; split <;> simp
@[simp] theorem State.choose_servo (s : State) : s.choose.servo = s.servo := by unfold State.choose; split <;> simp
@[simp] theorem State.choose_entries (s : State) : s.choose.entries = s.entries := by unfold State.choose; split <;> simp
@[simp] theorem State.choose_outs (s : State) : s.choose.outs = s.outs := by unfold State.choose; split <;> simp
@[simp] theorem State.choose_pending (s : State) : s.choose.pending = s.pending := by unfold State.choose; split <;> simp

@[simp] theorem State.passOver_cycle (s : State) (k : FrameKind) (x : Addr) :
    (s.passOver k x).cycle = s.cycle := by simp [State.passOver]
@[simp] theorem State.passOver_readings (s : State) (k : FrameKind) (x : Addr) :
    (s.passOver k x).readings = s.readings := by simp [State.passOver]
@[simp] theorem State.passOver_tb (s : State) (k : FrameKind) (x : Addr) :
    (s.passOver k x).tb = s.tb := by simp [State.passOver]
@[simp] theorem State.passOver_resetPin (s : State) (k : FrameKind) (x : Addr) :
    (s.passOver k x).resetPin = s.resetPin := by simp [State.passOver]
@[simp] theorem State.passOver_inhibit (s : State) (k : FrameKind) (x : Addr) :
    (s.passOver k x).inhibit = s.inhibit := by simp [State.passOver]
@[simp] theorem State.passOver_servo (s : State) (k : FrameKind) (x : Addr) :
    (s.passOver k x).servo = s.servo := by simp [State.passOver]
@[simp] theorem State.passOver_entries (s : State) (k : FrameKind) (x : Addr) :
    (s.passOver k x).entries = s.entries := by simp [State.passOver]
@[simp] theorem State.passOver_outs (s : State) (k : FrameKind) (x : Addr) :
    (s.passOver k x).outs = s.outs := by simp [State.passOver]
@[simp] theorem State.passOver_pending (s : State) (k : FrameKind) (x : Addr) :
    (s.passOver k x).pending = s.pending := by simp [State.passOver]

@[simp] theorem State.formService_cycle (s : State) (k : FrameKind) :
    (s.formService k).cycle = s.cycle := by unfold State.formService; (repeat' split) <;> simp
@[simp] theorem State.formService_readings (s : State) (k : FrameKind) :
    (s.formService k).readings = s.readings := by unfold State.formService; (repeat' split) <;> simp
@[simp] theorem State.formService_tb (s : State) (k : FrameKind) :
    (s.formService k).tb = s.tb := by unfold State.formService; (repeat' split) <;> simp
@[simp] theorem State.formService_resetPin (s : State) (k : FrameKind) :
    (s.formService k).resetPin = s.resetPin := by unfold State.formService; (repeat' split) <;> simp
@[simp] theorem State.formService_inhibit (s : State) (k : FrameKind) :
    (s.formService k).inhibit = s.inhibit := by unfold State.formService; (repeat' split) <;> simp
@[simp] theorem State.formService_servo (s : State) (k : FrameKind) :
    (s.formService k).servo = s.servo := by unfold State.formService; (repeat' split) <;> simp
@[simp] theorem State.formService_entries (s : State) (k : FrameKind) :
    (s.formService k).entries = s.entries := by unfold State.formService; (repeat' split) <;> simp
@[simp] theorem State.formService_outs (s : State) (k : FrameKind) :
    (s.formService k).outs = s.outs := by unfold State.formService; (repeat' split) <;> simp
@[simp] theorem State.formService_pending (s : State) (k : FrameKind) :
    (s.formService k).pending = s.pending := by unfold State.formService; (repeat' split) <;> simp

@[simp] theorem State.serve1_cycle (s : State) (k : FrameKind) :
    (s.serve1 k).cycle = s.cycle := by simp [State.serve1]
@[simp] theorem State.serve1_readings (s : State) (k : FrameKind) :
    (s.serve1 k).readings = s.readings := by simp [State.serve1]
@[simp] theorem State.serve1_tb (s : State) (k : FrameKind) :
    (s.serve1 k).tb = s.tb := by simp [State.serve1]
@[simp] theorem State.serve1_resetPin (s : State) (k : FrameKind) :
    (s.serve1 k).resetPin = s.resetPin := by simp [State.serve1]
@[simp] theorem State.serve1_inhibit (s : State) (k : FrameKind) :
    (s.serve1 k).inhibit = s.inhibit := by simp [State.serve1]
@[simp] theorem State.serve1_servo (s : State) (k : FrameKind) :
    (s.serve1 k).servo = s.servo := by simp [State.serve1]
@[simp] theorem State.serve1_entries (s : State) (k : FrameKind) :
    (s.serve1 k).entries = s.entries := by simp [State.serve1]
@[simp] theorem State.serve1_outs (s : State) (k : FrameKind) :
    (s.serve1 k).outs = s.outs := by simp [State.serve1]
@[simp] theorem State.serve1_pending (s : State) (k : FrameKind) :
    (s.serve1 k).pending = s.pending := by simp [State.serve1]

@[simp] theorem State.openWindow_cycle (s : State) :
    (s.openWindow).cycle = s.cycle := by unfold State.openWindow; split <;> simp
@[simp] theorem State.openWindow_readings (s : State) :
    (s.openWindow).readings = s.readings := by unfold State.openWindow; split <;> simp
@[simp] theorem State.openWindow_tb (s : State) :
    (s.openWindow).tb = s.tb := by unfold State.openWindow; split <;> simp
@[simp] theorem State.openWindow_resetPin (s : State) :
    (s.openWindow).resetPin = s.resetPin := by unfold State.openWindow; split <;> simp
@[simp] theorem State.openWindow_inhibit (s : State) :
    (s.openWindow).inhibit = s.inhibit := by unfold State.openWindow; split <;> simp
@[simp] theorem State.openWindow_servo (s : State) :
    (s.openWindow).servo = s.servo := by unfold State.openWindow; split <;> simp
@[simp] theorem State.openWindow_entries (s : State) :
    (s.openWindow).entries = s.entries := by unfold State.openWindow; split <;> simp
@[simp] theorem State.openWindow_outs (s : State) :
    (s.openWindow).outs = s.outs := by unfold State.openWindow; split <;> simp
@[simp] theorem State.openWindow_pending (s : State) :
    (s.openWindow).pending = s.pending := by unfold State.openWindow; split <;> simp

@[simp] theorem State.settled_cycle (s : State) : (s.settled).cycle = s.cycle := by simp [State.settled]
@[simp] theorem State.settled_readings (s : State) : (s.settled).readings = s.readings := by simp [State.settled]
@[simp] theorem State.settled_tb (s : State) : (s.settled).tb = s.tb := by simp [State.settled]
@[simp] theorem State.settled_resetPin (s : State) : (s.settled).resetPin = s.resetPin := by simp [State.settled]
@[simp] theorem State.settled_inhibit (s : State) : (s.settled).inhibit = s.inhibit := by simp [State.settled]
@[simp] theorem State.settled_servo (s : State) : (s.settled).servo = s.servo := by simp [State.settled]
@[simp] theorem State.settled_entries (s : State) : (s.settled).entries = s.entries := by simp [State.settled]
@[simp] theorem State.settled_outs (s : State) : (s.settled).outs = s.outs := by simp [State.settled]
@[simp] theorem State.settled_pending (s : State) : (s.settled).pending = s.pending := by simp [State.settled]

@[simp] theorem State.missAnswer_cycle (s : State) (x : Addr) :
    (s.missAnswer x).cycle = s.cycle := by simp only [State.missAnswer]; (repeat' split) <;> simp
@[simp] theorem State.missAnswer_readings (s : State) (x : Addr) :
    (s.missAnswer x).readings = s.readings := by simp only [State.missAnswer]; (repeat' split) <;> simp
@[simp] theorem State.missAnswer_tb (s : State) (x : Addr) :
    (s.missAnswer x).tb = s.tb := by simp only [State.missAnswer]; (repeat' split) <;> simp
@[simp] theorem State.missAnswer_resetPin (s : State) (x : Addr) :
    (s.missAnswer x).resetPin = s.resetPin := by simp only [State.missAnswer]; (repeat' split) <;> simp
@[simp] theorem State.missAnswer_inhibit (s : State) (x : Addr) :
    (s.missAnswer x).inhibit = s.inhibit := by simp only [State.missAnswer]; (repeat' split) <;> simp
@[simp] theorem State.missAnswer_servo (s : State) (x : Addr) :
    (s.missAnswer x).servo = s.servo := by simp only [State.missAnswer]; (repeat' split) <;> simp
@[simp] theorem State.missAnswer_entries (s : State) (x : Addr) :
    (s.missAnswer x).entries = s.entries := by simp only [State.missAnswer]; (repeat' split) <;> simp
@[simp] theorem State.missAnswer_outs (s : State) (x : Addr) :
    (s.missAnswer x).outs = s.outs := by simp only [State.missAnswer]; (repeat' split) <;> simp
@[simp] theorem State.missAnswer_pending (s : State) (x : Addr) :
    (s.missAnswer x).pending = s.pending := by simp only [State.missAnswer]; (repeat' split) <;> simp

@[simp] theorem State.resumeStream_cycle (s : State) (x : Addr) :
    (s.resumeStream x).cycle = s.cycle := by simp only [State.resumeStream]; (repeat' split) <;> simp
@[simp] theorem State.resumeStream_readings (s : State) (x : Addr) :
    (s.resumeStream x).readings = s.readings := by simp only [State.resumeStream]; (repeat' split) <;> simp
@[simp] theorem State.resumeStream_tb (s : State) (x : Addr) :
    (s.resumeStream x).tb = s.tb := by simp only [State.resumeStream]; (repeat' split) <;> simp
@[simp] theorem State.resumeStream_resetPin (s : State) (x : Addr) :
    (s.resumeStream x).resetPin = s.resetPin := by simp only [State.resumeStream]; (repeat' split) <;> simp
@[simp] theorem State.resumeStream_inhibit (s : State) (x : Addr) :
    (s.resumeStream x).inhibit = s.inhibit := by simp only [State.resumeStream]; (repeat' split) <;> simp
@[simp] theorem State.resumeStream_servo (s : State) (x : Addr) :
    (s.resumeStream x).servo = s.servo := by simp only [State.resumeStream]; (repeat' split) <;> simp
@[simp] theorem State.resumeStream_entries (s : State) (x : Addr) :
    (s.resumeStream x).entries = s.entries := by simp only [State.resumeStream]; (repeat' split) <;> simp
@[simp] theorem State.resumeStream_outs (s : State) (x : Addr) :
    (s.resumeStream x).outs = s.outs := by simp only [State.resumeStream]; (repeat' split) <;> simp
@[simp] theorem State.resumeStream_pending (s : State) (x : Addr) :
    (s.resumeStream x).pending = s.pending := by simp only [State.resumeStream]; (repeat' split) <;> simp

@[simp] theorem State.returnStation_cycle (s : State) (x : Addr) :
    (s.returnStation x).cycle = s.cycle := by simp [State.returnStation]
@[simp] theorem State.returnStation_readings (s : State) (x : Addr) :
    (s.returnStation x).readings = s.readings := by simp [State.returnStation]
@[simp] theorem State.returnStation_tb (s : State) (x : Addr) :
    (s.returnStation x).tb = s.tb := by simp [State.returnStation]
@[simp] theorem State.returnStation_resetPin (s : State) (x : Addr) :
    (s.returnStation x).resetPin = s.resetPin := by simp [State.returnStation]
@[simp] theorem State.returnStation_inhibit (s : State) (x : Addr) :
    (s.returnStation x).inhibit = s.inhibit := by simp [State.returnStation]
@[simp] theorem State.returnStation_servo (s : State) (x : Addr) :
    (s.returnStation x).servo = s.servo := by simp [State.returnStation]
@[simp] theorem State.returnStation_entries (s : State) (x : Addr) :
    (s.returnStation x).entries = s.entries := by simp [State.returnStation]
@[simp] theorem State.returnStation_outs (s : State) (x : Addr) :
    (s.returnStation x).outs = s.outs := by simp [State.returnStation]
@[simp] theorem State.returnStation_pending (s : State) (x : Addr) :
    (s.returnStation x).pending = s.pending := by simp [State.returnStation]

@[simp] theorem State.answered_cycle (s : State) (x : Addr) :
    (s.answered x).cycle = s.cycle := by unfold State.answered; split <;> simp
@[simp] theorem State.answered_readings (s : State) (x : Addr) :
    (s.answered x).readings = s.readings := by unfold State.answered; split <;> simp
@[simp] theorem State.answered_tb (s : State) (x : Addr) :
    (s.answered x).tb = s.tb := by unfold State.answered; split <;> simp
@[simp] theorem State.answered_resetPin (s : State) (x : Addr) :
    (s.answered x).resetPin = s.resetPin := by unfold State.answered; split <;> simp
@[simp] theorem State.answered_inhibit (s : State) (x : Addr) :
    (s.answered x).inhibit = s.inhibit := by unfold State.answered; split <;> simp
@[simp] theorem State.answered_servo (s : State) (x : Addr) :
    (s.answered x).servo = s.servo := by unfold State.answered; split <;> simp
@[simp] theorem State.answered_entries (s : State) (x : Addr) :
    (s.answered x).entries = s.entries := by unfold State.answered; split <;> simp
@[simp] theorem State.answered_outs (s : State) (x : Addr) :
    (s.answered x).outs = s.outs := by unfold State.answered; split <;> simp
@[simp] theorem State.answered_pending (s : State) (x : Addr) :
    (s.answered x).pending = s.pending := by unfold State.answered; split <;> simp

@[simp] theorem State.stationRequest_cycle (s : State) (x : Addr) (b : List Byte) :
    (s.stationRequest x b).cycle = s.cycle := by simp only [State.stationRequest]; (repeat' split) <;> simp
@[simp] theorem State.stationRequest_readings (s : State) (x : Addr) (b : List Byte) :
    (s.stationRequest x b).readings = s.readings := by simp only [State.stationRequest]; (repeat' split) <;> simp
@[simp] theorem State.stationRequest_tb (s : State) (x : Addr) (b : List Byte) :
    (s.stationRequest x b).tb = s.tb := by simp only [State.stationRequest]; (repeat' split) <;> simp
@[simp] theorem State.stationRequest_resetPin (s : State) (x : Addr) (b : List Byte) :
    (s.stationRequest x b).resetPin = s.resetPin := by simp only [State.stationRequest]; (repeat' split) <;> simp
@[simp] theorem State.stationRequest_inhibit (s : State) (x : Addr) (b : List Byte) :
    (s.stationRequest x b).inhibit = s.inhibit := by simp only [State.stationRequest]; (repeat' split) <;> simp
@[simp] theorem State.stationRequest_servo (s : State) (x : Addr) (b : List Byte) :
    (s.stationRequest x b).servo = s.servo := by simp only [State.stationRequest]; (repeat' split) <;> simp
@[simp] theorem State.stationRequest_entries (s : State) (x : Addr) (b : List Byte) :
    (s.stationRequest x b).entries = s.entries := by simp only [State.stationRequest]; (repeat' split) <;> simp
@[simp] theorem State.stationRequest_outs (s : State) (x : Addr) (b : List Byte) :
    (s.stationRequest x b).outs = s.outs := by simp only [State.stationRequest]; (repeat' split) <;> simp
@[simp] theorem State.stationRequest_pending (s : State) (x : Addr) (b : List Byte) :
    (s.stationRequest x b).pending = s.pending := by simp only [State.stationRequest]; (repeat' split) <;> simp

@[simp] theorem State.pollAnswer_cycle (s : State) (v : Service) (b : Option (List Byte)) :
    (s.pollAnswer v b).cycle = s.cycle := by unfold State.pollAnswer; split <;> simp
@[simp] theorem State.pollAnswer_readings (s : State) (v : Service) (b : Option (List Byte)) :
    (s.pollAnswer v b).readings = s.readings := by unfold State.pollAnswer; split <;> simp
@[simp] theorem State.pollAnswer_tb (s : State) (v : Service) (b : Option (List Byte)) :
    (s.pollAnswer v b).tb = s.tb := by unfold State.pollAnswer; split <;> simp
@[simp] theorem State.pollAnswer_resetPin (s : State) (v : Service) (b : Option (List Byte)) :
    (s.pollAnswer v b).resetPin = s.resetPin := by unfold State.pollAnswer; split <;> simp
@[simp] theorem State.pollAnswer_inhibit (s : State) (v : Service) (b : Option (List Byte)) :
    (s.pollAnswer v b).inhibit = s.inhibit := by unfold State.pollAnswer; split <;> simp
@[simp] theorem State.pollAnswer_servo (s : State) (v : Service) (b : Option (List Byte)) :
    (s.pollAnswer v b).servo = s.servo := by unfold State.pollAnswer; split <;> simp
@[simp] theorem State.pollAnswer_entries (s : State) (v : Service) (b : Option (List Byte)) :
    (s.pollAnswer v b).entries = s.entries := by unfold State.pollAnswer; split <;> simp
@[simp] theorem State.pollAnswer_outs (s : State) (v : Service) (b : Option (List Byte)) :
    (s.pollAnswer v b).outs = s.outs := by unfold State.pollAnswer; split <;> simp
@[simp] theorem State.pollAnswer_pending (s : State) (v : Service) (b : Option (List Byte)) :
    (s.pollAnswer v b).pending = s.pending := by unfold State.pollAnswer; split <;> simp

@[simp] theorem State.validRange_cycle (s : State) (x : Addr) (q t : Nat) :
    (s.validRange x q t).cycle = s.cycle := by simp only [State.validRange]; (repeat' split) <;> simp
@[simp] theorem State.validRange_readings (s : State) (x : Addr) (q t : Nat) :
    (s.validRange x q t).readings = s.readings := by simp only [State.validRange]; (repeat' split) <;> simp
@[simp] theorem State.validRange_tb (s : State) (x : Addr) (q t : Nat) :
    (s.validRange x q t).tb = s.tb := by simp only [State.validRange]; (repeat' split) <;> simp
@[simp] theorem State.validRange_resetPin (s : State) (x : Addr) (q t : Nat) :
    (s.validRange x q t).resetPin = s.resetPin := by simp only [State.validRange]; (repeat' split) <;> simp
@[simp] theorem State.validRange_inhibit (s : State) (x : Addr) (q t : Nat) :
    (s.validRange x q t).inhibit = s.inhibit := by simp only [State.validRange]; (repeat' split) <;> simp
@[simp] theorem State.validRange_servo (s : State) (x : Addr) (q t : Nat) :
    (s.validRange x q t).servo = s.servo := by simp only [State.validRange]; (repeat' split) <;> simp
@[simp] theorem State.validRange_entries (s : State) (x : Addr) (q t : Nat) :
    (s.validRange x q t).entries = s.entries := by simp only [State.validRange]; (repeat' split) <;> simp
@[simp] theorem State.validRange_outs (s : State) (x : Addr) (q t : Nat) :
    (s.validRange x q t).outs = s.outs := by simp only [State.validRange]; (repeat' split) <;> simp
@[simp] theorem State.validRange_pending (s : State) (x : Addr) (q t : Nat) :
    (s.validRange x q t).pending = s.pending := by simp only [State.validRange]; (repeat' split) <;> simp

@[simp] theorem State.rangeAnswer_cycle (s : State) (x : Addr) (w : Window) :
    (s.rangeAnswer x w).cycle = s.cycle := by simp only [State.rangeAnswer]; (repeat' split) <;> simp
@[simp] theorem State.rangeAnswer_readings (s : State) (x : Addr) (w : Window) :
    (s.rangeAnswer x w).readings = s.readings := by simp only [State.rangeAnswer]; (repeat' split) <;> simp
@[simp] theorem State.rangeAnswer_tb (s : State) (x : Addr) (w : Window) :
    (s.rangeAnswer x w).tb = s.tb := by simp only [State.rangeAnswer]; (repeat' split) <;> simp
@[simp] theorem State.rangeAnswer_resetPin (s : State) (x : Addr) (w : Window) :
    (s.rangeAnswer x w).resetPin = s.resetPin := by simp only [State.rangeAnswer]; (repeat' split) <;> simp
@[simp] theorem State.rangeAnswer_inhibit (s : State) (x : Addr) (w : Window) :
    (s.rangeAnswer x w).inhibit = s.inhibit := by simp only [State.rangeAnswer]; (repeat' split) <;> simp
@[simp] theorem State.rangeAnswer_servo (s : State) (x : Addr) (w : Window) :
    (s.rangeAnswer x w).servo = s.servo := by simp only [State.rangeAnswer]; (repeat' split) <;> simp
@[simp] theorem State.rangeAnswer_entries (s : State) (x : Addr) (w : Window) :
    (s.rangeAnswer x w).entries = s.entries := by simp only [State.rangeAnswer]; (repeat' split) <;> simp
@[simp] theorem State.rangeAnswer_outs (s : State) (x : Addr) (w : Window) :
    (s.rangeAnswer x w).outs = s.outs := by simp only [State.rangeAnswer]; (repeat' split) <;> simp
@[simp] theorem State.rangeAnswer_pending (s : State) (x : Addr) (w : Window) :
    (s.rangeAnswer x w).pending = s.pending := by simp only [State.rangeAnswer]; (repeat' split) <;> simp

@[simp] theorem State.garble_cycle (s : State) (x : Addr) :
    (s.garble x).cycle = s.cycle := by simp only [State.garble]; (repeat' split) <;> simp
@[simp] theorem State.garble_readings (s : State) (x : Addr) :
    (s.garble x).readings = s.readings := by simp only [State.garble]; (repeat' split) <;> simp
@[simp] theorem State.garble_tb (s : State) (x : Addr) :
    (s.garble x).tb = s.tb := by simp only [State.garble]; (repeat' split) <;> simp
@[simp] theorem State.garble_resetPin (s : State) (x : Addr) :
    (s.garble x).resetPin = s.resetPin := by simp only [State.garble]; (repeat' split) <;> simp
@[simp] theorem State.garble_inhibit (s : State) (x : Addr) :
    (s.garble x).inhibit = s.inhibit := by simp only [State.garble]; (repeat' split) <;> simp
@[simp] theorem State.garble_servo (s : State) (x : Addr) :
    (s.garble x).servo = s.servo := by simp only [State.garble]; (repeat' split) <;> simp
@[simp] theorem State.garble_entries (s : State) (x : Addr) :
    (s.garble x).entries = s.entries := by simp only [State.garble]; (repeat' split) <;> simp
@[simp] theorem State.garble_outs (s : State) (x : Addr) :
    (s.garble x).outs = s.outs := by simp only [State.garble]; (repeat' split) <;> simp
@[simp] theorem State.garble_pending (s : State) (x : Addr) :
    (s.garble x).pending = s.pending := by simp only [State.garble]; (repeat' split) <;> simp

@[simp] theorem State.noAnswer_cycle (s : State) (x : Addr) :
    (s.noAnswer x).cycle = s.cycle := by simp [State.noAnswer]
@[simp] theorem State.noAnswer_readings (s : State) (x : Addr) :
    (s.noAnswer x).readings = s.readings := by simp [State.noAnswer]
@[simp] theorem State.noAnswer_tb (s : State) (x : Addr) : (s.noAnswer x).tb = s.tb := by simp [State.noAnswer]
@[simp] theorem State.noAnswer_resetPin (s : State) (x : Addr) :
    (s.noAnswer x).resetPin = s.resetPin := by simp [State.noAnswer]
@[simp] theorem State.noAnswer_inhibit (s : State) (x : Addr) :
    (s.noAnswer x).inhibit = s.inhibit := by simp [State.noAnswer]
@[simp] theorem State.noAnswer_servo (s : State) (x : Addr) :
    (s.noAnswer x).servo = s.servo := by simp [State.noAnswer]
@[simp] theorem State.noAnswer_entries (s : State) (x : Addr) :
    (s.noAnswer x).entries = s.entries := by simp [State.noAnswer]
@[simp] theorem State.noAnswer_outs (s : State) (x : Addr) : (s.noAnswer x).outs = s.outs := by simp [State.noAnswer]
@[simp] theorem State.noAnswer_pending (s : State) (x : Addr) :
    (s.noAnswer x).pending = s.pending := by simp [State.noAnswer]

@[simp] theorem State.join_cycle (s : State) (x : Addr) : (s.join x).cycle = s.cycle := by simp [State.join]
@[simp] theorem State.join_readings (s : State) (x : Addr) : (s.join x).readings = s.readings := by simp [State.join]
@[simp] theorem State.join_tb (s : State) (x : Addr) : (s.join x).tb = s.tb := by simp [State.join]
@[simp] theorem State.join_resetPin (s : State) (x : Addr) : (s.join x).resetPin = s.resetPin := by simp [State.join]
@[simp] theorem State.join_inhibit (s : State) (x : Addr) : (s.join x).inhibit = s.inhibit := by simp [State.join]
@[simp] theorem State.join_servo (s : State) (x : Addr) : (s.join x).servo = s.servo := by simp [State.join]
@[simp] theorem State.join_entries (s : State) (x : Addr) : (s.join x).entries = s.entries := by simp [State.join]
@[simp] theorem State.join_outs (s : State) (x : Addr) : (s.join x).outs = s.outs := by simp [State.join]
@[simp] theorem State.join_pending (s : State) (x : Addr) : (s.join x).pending = s.pending := by simp [State.join]

@[simp] theorem State.stationAnswer_cycle (s : State) (v : Service) (w : Window) (a : Addr) (k : ReturnKind) (b : List Byte) :
    (s.stationAnswer v w a k b).cycle = s.cycle := by simp only [State.stationAnswer]; (repeat' split) <;> simp
@[simp] theorem State.stationAnswer_readings (s : State) (v : Service) (w : Window) (a : Addr) (k : ReturnKind) (b : List Byte) :
    (s.stationAnswer v w a k b).readings = s.readings := by simp only [State.stationAnswer]; (repeat' split) <;> simp
@[simp] theorem State.stationAnswer_tb (s : State) (v : Service) (w : Window) (a : Addr) (k : ReturnKind) (b : List Byte) :
    (s.stationAnswer v w a k b).tb = s.tb := by simp only [State.stationAnswer]; (repeat' split) <;> simp
@[simp] theorem State.stationAnswer_resetPin (s : State) (v : Service) (w : Window) (a : Addr) (k : ReturnKind) (b : List Byte) :
    (s.stationAnswer v w a k b).resetPin = s.resetPin := by simp only [State.stationAnswer]; (repeat' split) <;> simp
@[simp] theorem State.stationAnswer_inhibit (s : State) (v : Service) (w : Window) (a : Addr) (k : ReturnKind) (b : List Byte) :
    (s.stationAnswer v w a k b).inhibit = s.inhibit := by simp only [State.stationAnswer]; (repeat' split) <;> simp
@[simp] theorem State.stationAnswer_servo (s : State) (v : Service) (w : Window) (a : Addr) (k : ReturnKind) (b : List Byte) :
    (s.stationAnswer v w a k b).servo = s.servo := by simp only [State.stationAnswer]; (repeat' split) <;> simp
@[simp] theorem State.stationAnswer_entries (s : State) (v : Service) (w : Window) (a : Addr) (k : ReturnKind) (b : List Byte) :
    (s.stationAnswer v w a k b).entries = s.entries := by simp only [State.stationAnswer]; (repeat' split) <;> simp
@[simp] theorem State.stationAnswer_outs (s : State) (v : Service) (w : Window) (a : Addr) (k : ReturnKind) (b : List Byte) :
    (s.stationAnswer v w a k b).outs = s.outs := by simp only [State.stationAnswer]; (repeat' split) <;> simp
@[simp] theorem State.stationAnswer_pending (s : State) (v : Service) (w : Window) (a : Addr) (k : ReturnKind) (b : List Byte) :
    (s.stationAnswer v w a k b).pending = s.pending := by simp only [State.stationAnswer]; (repeat' split) <;> simp

@[simp] theorem State.discoverAnswer_cycle (s : State) (x : Addr) (j : Judgement) :
    (s.discoverAnswer x j).cycle = s.cycle := by unfold State.discoverAnswer; (repeat' split) <;> simp
@[simp] theorem State.discoverAnswer_readings (s : State) (x : Addr) (j : Judgement) :
    (s.discoverAnswer x j).readings = s.readings := by unfold State.discoverAnswer; (repeat' split) <;> simp
@[simp] theorem State.discoverAnswer_tb (s : State) (x : Addr) (j : Judgement) :
    (s.discoverAnswer x j).tb = s.tb := by unfold State.discoverAnswer; (repeat' split) <;> simp
@[simp] theorem State.discoverAnswer_resetPin (s : State) (x : Addr) (j : Judgement) :
    (s.discoverAnswer x j).resetPin = s.resetPin := by unfold State.discoverAnswer; (repeat' split) <;> simp
@[simp] theorem State.discoverAnswer_inhibit (s : State) (x : Addr) (j : Judgement) :
    (s.discoverAnswer x j).inhibit = s.inhibit := by unfold State.discoverAnswer; (repeat' split) <;> simp
@[simp] theorem State.discoverAnswer_servo (s : State) (x : Addr) (j : Judgement) :
    (s.discoverAnswer x j).servo = s.servo := by unfold State.discoverAnswer; (repeat' split) <;> simp
@[simp] theorem State.discoverAnswer_entries (s : State) (x : Addr) (j : Judgement) :
    (s.discoverAnswer x j).entries = s.entries := by unfold State.discoverAnswer; (repeat' split) <;> simp
@[simp] theorem State.discoverAnswer_outs (s : State) (x : Addr) (j : Judgement) :
    (s.discoverAnswer x j).outs = s.outs := by unfold State.discoverAnswer; (repeat' split) <;> simp
@[simp] theorem State.discoverAnswer_pending (s : State) (x : Addr) (j : Judgement) :
    (s.discoverAnswer x j).pending = s.pending := by unfold State.discoverAnswer; (repeat' split) <;> simp

@[simp] theorem State.settle_cycle (s : State) (v : Service) (w : Window) (j : Judgement) :
    (s.settle v w j).cycle = s.cycle := by unfold State.settle; (repeat' split) <;> simp
@[simp] theorem State.settle_readings (s : State) (v : Service) (w : Window) (j : Judgement) :
    (s.settle v w j).readings = s.readings := by unfold State.settle; (repeat' split) <;> simp
@[simp] theorem State.settle_tb (s : State) (v : Service) (w : Window) (j : Judgement) :
    (s.settle v w j).tb = s.tb := by unfold State.settle; (repeat' split) <;> simp
@[simp] theorem State.settle_resetPin (s : State) (v : Service) (w : Window) (j : Judgement) :
    (s.settle v w j).resetPin = s.resetPin := by unfold State.settle; (repeat' split) <;> simp
@[simp] theorem State.settle_inhibit (s : State) (v : Service) (w : Window) (j : Judgement) :
    (s.settle v w j).inhibit = s.inhibit := by unfold State.settle; (repeat' split) <;> simp
@[simp] theorem State.settle_servo (s : State) (v : Service) (w : Window) (j : Judgement) :
    (s.settle v w j).servo = s.servo := by unfold State.settle; (repeat' split) <;> simp
@[simp] theorem State.settle_entries (s : State) (v : Service) (w : Window) (j : Judgement) :
    (s.settle v w j).entries = s.entries := by unfold State.settle; (repeat' split) <;> simp
@[simp] theorem State.settle_outs (s : State) (v : Service) (w : Window) (j : Judgement) :
    (s.settle v w j).outs = s.outs := by unfold State.settle; (repeat' split) <;> simp
@[simp] theorem State.settle_pending (s : State) (v : Service) (w : Window) (j : Judgement) :
    (s.settle v w j).pending = s.pending := by unfold State.settle; (repeat' split) <;> simp

@[simp] theorem State.closeWindow_cycle (s : State) (v : Service) :
    (s.closeWindow v).cycle = s.cycle := by unfold State.closeWindow; (repeat' split) <;> simp
@[simp] theorem State.closeWindow_readings (s : State) (v : Service) :
    (s.closeWindow v).readings = s.readings := by unfold State.closeWindow; (repeat' split) <;> simp
@[simp] theorem State.closeWindow_tb (s : State) (v : Service) :
    (s.closeWindow v).tb = s.tb := by unfold State.closeWindow; (repeat' split) <;> simp
@[simp] theorem State.closeWindow_resetPin (s : State) (v : Service) :
    (s.closeWindow v).resetPin = s.resetPin := by unfold State.closeWindow; (repeat' split) <;> simp
@[simp] theorem State.closeWindow_inhibit (s : State) (v : Service) :
    (s.closeWindow v).inhibit = s.inhibit := by unfold State.closeWindow; (repeat' split) <;> simp
@[simp] theorem State.closeWindow_servo (s : State) (v : Service) :
    (s.closeWindow v).servo = s.servo := by unfold State.closeWindow; (repeat' split) <;> simp
@[simp] theorem State.closeWindow_entries (s : State) (v : Service) :
    (s.closeWindow v).entries = s.entries := by unfold State.closeWindow; (repeat' split) <;> simp
@[simp] theorem State.closeWindow_outs (s : State) (v : Service) :
    (s.closeWindow v).outs = s.outs := by unfold State.closeWindow; (repeat' split) <;> simp
@[simp] theorem State.closeWindow_pending (s : State) (v : Service) :
    (s.closeWindow v).pending = s.pending := by unfold State.closeWindow; (repeat' split) <;> simp

@[simp] theorem State.handFrame_cycle (s : State) (j : Judgement) :
    (s.handFrame j).cycle = s.cycle := by simp only [State.handFrame]; (repeat' split) <;> simp
@[simp] theorem State.handFrame_readings (s : State) (j : Judgement) :
    (s.handFrame j).readings = s.readings := by simp only [State.handFrame]; (repeat' split) <;> simp
@[simp] theorem State.handFrame_tb (s : State) (j : Judgement) :
    (s.handFrame j).tb = s.tb := by simp only [State.handFrame]; (repeat' split) <;> simp
@[simp] theorem State.handFrame_resetPin (s : State) (j : Judgement) :
    (s.handFrame j).resetPin = s.resetPin := by simp only [State.handFrame]; (repeat' split) <;> simp
@[simp] theorem State.handFrame_inhibit (s : State) (j : Judgement) :
    (s.handFrame j).inhibit = s.inhibit := by simp only [State.handFrame]; (repeat' split) <;> simp
@[simp] theorem State.handFrame_servo (s : State) (j : Judgement) :
    (s.handFrame j).servo = s.servo := by simp only [State.handFrame]; (repeat' split) <;> simp
@[simp] theorem State.handFrame_entries (s : State) (j : Judgement) :
    (s.handFrame j).entries = s.entries := by simp only [State.handFrame]; (repeat' split) <;> simp
@[simp] theorem State.handFrame_outs (s : State) (j : Judgement) :
    (s.handFrame j).outs = s.outs := by simp only [State.handFrame]; (repeat' split) <;> simp
@[simp] theorem State.handFrame_pending (s : State) (j : Judgement) :
    (s.handFrame j).pending = s.pending := by simp only [State.handFrame]; (repeat' split) <;> simp

@[simp] theorem State.openFrame_cycle (s : State) (c t : Nat) :
    (s.openFrame c t).cycle = s.cycle := by simp [State.openFrame]
@[simp] theorem State.openFrame_readings (s : State) (c t : Nat) :
    (s.openFrame c t).readings = s.readings := by simp [State.openFrame]
@[simp] theorem State.openFrame_tb (s : State) (c t : Nat) : (s.openFrame c t).tb = s.tb := by simp [State.openFrame]
@[simp] theorem State.openFrame_resetPin (s : State) (c t : Nat) :
    (s.openFrame c t).resetPin = s.resetPin := by simp [State.openFrame]
@[simp] theorem State.openFrame_inhibit (s : State) (c t : Nat) :
    (s.openFrame c t).inhibit = s.inhibit := by simp [State.openFrame]
@[simp] theorem State.openFrame_servo (s : State) (c t : Nat) :
    (s.openFrame c t).servo = s.servo := by simp [State.openFrame]
@[simp] theorem State.openFrame_entries (s : State) (c t : Nat) :
    (s.openFrame c t).entries = s.entries := by simp [State.openFrame]
@[simp] theorem State.openFrame_outs (s : State) (c t : Nat) :
    (s.openFrame c t).outs = s.outs := by simp [State.openFrame]
@[simp] theorem State.openFrame_pending (s : State) (c t : Nat) :
    (s.openFrame c t).pending = s.pending := by simp [State.openFrame]

@[simp] theorem State.rxEvent_cycle (s : State) (e : RxEvent) (c t : Nat) :
    (s.rxEvent e c t).cycle = s.cycle := by unfold State.rxEvent; split <;> simp
@[simp] theorem State.rxEvent_readings (s : State) (e : RxEvent) (c t : Nat) :
    (s.rxEvent e c t).readings = s.readings := by unfold State.rxEvent; split <;> simp
@[simp] theorem State.rxEvent_tb (s : State) (e : RxEvent) (c t : Nat) :
    (s.rxEvent e c t).tb = s.tb := by unfold State.rxEvent; split <;> simp
@[simp] theorem State.rxEvent_resetPin (s : State) (e : RxEvent) (c t : Nat) :
    (s.rxEvent e c t).resetPin = s.resetPin := by unfold State.rxEvent; split <;> simp
@[simp] theorem State.rxEvent_inhibit (s : State) (e : RxEvent) (c t : Nat) :
    (s.rxEvent e c t).inhibit = s.inhibit := by unfold State.rxEvent; split <;> simp
@[simp] theorem State.rxEvent_servo (s : State) (e : RxEvent) (c t : Nat) :
    (s.rxEvent e c t).servo = s.servo := by unfold State.rxEvent; split <;> simp
@[simp] theorem State.rxEvent_entries (s : State) (e : RxEvent) (c t : Nat) :
    (s.rxEvent e c t).entries = s.entries := by unfold State.rxEvent; split <;> simp
@[simp] theorem State.rxEvent_outs (s : State) (e : RxEvent) (c t : Nat) :
    (s.rxEvent e c t).outs = s.outs := by unfold State.rxEvent; split <;> simp
@[simp] theorem State.rxEvent_pending (s : State) (e : RxEvent) (c t : Nat) :
    (s.rxEvent e c t).pending = s.pending := by unfold State.rxEvent; split <;> simp

@[simp] theorem State.rxBit_cycle (s : State) (p : Fin 8) (b : Bool) (n : Nat) :
    (s.rxBit p b n).cycle = s.cycle := by simp [State.rxBit]
@[simp] theorem State.rxBit_readings (s : State) (p : Fin 8) (b : Bool) (n : Nat) :
    (s.rxBit p b n).readings = s.readings := by simp [State.rxBit]
@[simp] theorem State.rxBit_tb (s : State) (p : Fin 8) (b : Bool) (n : Nat) :
    (s.rxBit p b n).tb = s.tb := by simp [State.rxBit]
@[simp] theorem State.rxBit_resetPin (s : State) (p : Fin 8) (b : Bool) (n : Nat) :
    (s.rxBit p b n).resetPin = s.resetPin := by simp [State.rxBit]
@[simp] theorem State.rxBit_inhibit (s : State) (p : Fin 8) (b : Bool) (n : Nat) :
    (s.rxBit p b n).inhibit = s.inhibit := by simp [State.rxBit]
@[simp] theorem State.rxBit_servo (s : State) (p : Fin 8) (b : Bool) (n : Nat) :
    (s.rxBit p b n).servo = s.servo := by simp [State.rxBit]
@[simp] theorem State.rxBit_entries (s : State) (p : Fin 8) (b : Bool) (n : Nat) :
    (s.rxBit p b n).entries = s.entries := by simp [State.rxBit]
@[simp] theorem State.rxBit_outs (s : State) (p : Fin 8) (b : Bool) (n : Nat) :
    (s.rxBit p b n).outs = s.outs := by simp [State.rxBit]
@[simp] theorem State.rxBit_pending (s : State) (p : Fin 8) (b : Bool) (n : Nat) :
    (s.rxBit p b n).pending = s.pending := by simp [State.rxBit]

@[simp] theorem State.dropReport_cycle (s : State) (x : Addr) (st : Stream) (k : Nat) :
    (s.dropReport x st k).cycle = s.cycle := by simp [State.dropReport]
@[simp] theorem State.dropReport_readings (s : State) (x : Addr) (st : Stream) (k : Nat) :
    (s.dropReport x st k).readings = s.readings := by simp [State.dropReport]
@[simp] theorem State.dropReport_tb (s : State) (x : Addr) (st : Stream) (k : Nat) :
    (s.dropReport x st k).tb = s.tb := by simp [State.dropReport]
@[simp] theorem State.dropReport_resetPin (s : State) (x : Addr) (st : Stream) (k : Nat) :
    (s.dropReport x st k).resetPin = s.resetPin := by simp [State.dropReport]
@[simp] theorem State.dropReport_inhibit (s : State) (x : Addr) (st : Stream) (k : Nat) :
    (s.dropReport x st k).inhibit = s.inhibit := by simp [State.dropReport]
@[simp] theorem State.dropReport_servo (s : State) (x : Addr) (st : Stream) (k : Nat) :
    (s.dropReport x st k).servo = s.servo := by simp [State.dropReport]
@[simp] theorem State.dropReport_entries (s : State) (x : Addr) (st : Stream) (k : Nat) :
    (s.dropReport x st k).entries = s.entries := by simp [State.dropReport]
@[simp] theorem State.dropReport_outs (s : State) (x : Addr) (st : Stream) (k : Nat) :
    (s.dropReport x st k).outs = s.outs := by simp [State.dropReport]
@[simp] theorem State.dropReport_pending (s : State) (x : Addr) (st : Stream) (k : Nat) :
    (s.dropReport x st k).pending = s.pending := by simp [State.dropReport]

@[simp] theorem State.sendReport_cycle (s : State) (x : Addr) (st : Stream) (k : Nat) (n : Int) :
    (s.sendReport x st k n).cycle = s.cycle := by simp [State.sendReport]
@[simp] theorem State.sendReport_readings (s : State) (x : Addr) (st : Stream) (k : Nat) (n : Int) :
    (s.sendReport x st k n).readings = s.readings := by simp [State.sendReport]
@[simp] theorem State.sendReport_tb (s : State) (x : Addr) (st : Stream) (k : Nat) (n : Int) :
    (s.sendReport x st k n).tb = s.tb := by simp [State.sendReport]
@[simp] theorem State.sendReport_resetPin (s : State) (x : Addr) (st : Stream) (k : Nat) (n : Int) :
    (s.sendReport x st k n).resetPin = s.resetPin := by simp [State.sendReport]
@[simp] theorem State.sendReport_inhibit (s : State) (x : Addr) (st : Stream) (k : Nat) (n : Int) :
    (s.sendReport x st k n).inhibit = s.inhibit := by simp [State.sendReport]
@[simp] theorem State.sendReport_servo (s : State) (x : Addr) (st : Stream) (k : Nat) (n : Int) :
    (s.sendReport x st k n).servo = s.servo := by simp [State.sendReport]
@[simp] theorem State.sendReport_entries (s : State) (x : Addr) (st : Stream) (k : Nat) (n : Int) :
    (s.sendReport x st k n).entries = s.entries := by simp [State.sendReport]
@[simp] theorem State.sendReport_outs (s : State) (x : Addr) (st : Stream) (k : Nat) (n : Int) :
    (s.sendReport x st k n).outs = s.outs := by simp [State.sendReport]
@[simp] theorem State.sendReport_pending (s : State) (x : Addr) (st : Stream) (k : Nat) (n : Int) :
    (s.sendReport x st k n).pending = s.pending := by simp [State.sendReport]

@[simp] theorem State.startReport_cycle (s : State) (x : Addr) :
    (s.startReport x).cycle = s.cycle := by simp only [State.startReport]; (repeat' split) <;> simp
@[simp] theorem State.startReport_readings (s : State) (x : Addr) :
    (s.startReport x).readings = s.readings := by simp only [State.startReport]; (repeat' split) <;> simp
@[simp] theorem State.startReport_tb (s : State) (x : Addr) :
    (s.startReport x).tb = s.tb := by simp only [State.startReport]; (repeat' split) <;> simp
@[simp] theorem State.startReport_resetPin (s : State) (x : Addr) :
    (s.startReport x).resetPin = s.resetPin := by simp only [State.startReport]; (repeat' split) <;> simp
@[simp] theorem State.startReport_inhibit (s : State) (x : Addr) :
    (s.startReport x).inhibit = s.inhibit := by simp only [State.startReport]; (repeat' split) <;> simp
@[simp] theorem State.startReport_servo (s : State) (x : Addr) :
    (s.startReport x).servo = s.servo := by simp only [State.startReport]; (repeat' split) <;> simp
@[simp] theorem State.startReport_entries (s : State) (x : Addr) :
    (s.startReport x).entries = s.entries := by simp only [State.startReport]; (repeat' split) <;> simp
@[simp] theorem State.startReport_outs (s : State) (x : Addr) :
    (s.startReport x).outs = s.outs := by simp only [State.startReport]; (repeat' split) <;> simp
@[simp] theorem State.startReport_pending (s : State) (x : Addr) :
    (s.startReport x).pending = s.pending := by simp only [State.startReport]; (repeat' split) <;> simp

@[simp] theorem State.finishReport_cycle (s : State) (f : TxFrame) :
    (s.finishReport f).cycle = s.cycle := by simp only [State.finishReport]; (repeat' split) <;> simp
@[simp] theorem State.finishReport_readings (s : State) (f : TxFrame) :
    (s.finishReport f).readings = s.readings := by simp only [State.finishReport]; (repeat' split) <;> simp
@[simp] theorem State.finishReport_tb (s : State) (f : TxFrame) :
    (s.finishReport f).tb = s.tb := by simp only [State.finishReport]; (repeat' split) <;> simp
@[simp] theorem State.finishReport_resetPin (s : State) (f : TxFrame) :
    (s.finishReport f).resetPin = s.resetPin := by simp only [State.finishReport]; (repeat' split) <;> simp
@[simp] theorem State.finishReport_inhibit (s : State) (f : TxFrame) :
    (s.finishReport f).inhibit = s.inhibit := by simp only [State.finishReport]; (repeat' split) <;> simp
@[simp] theorem State.finishReport_servo (s : State) (f : TxFrame) :
    (s.finishReport f).servo = s.servo := by simp only [State.finishReport]; (repeat' split) <;> simp
@[simp] theorem State.finishReport_entries (s : State) (f : TxFrame) :
    (s.finishReport f).entries = s.entries := by simp only [State.finishReport]; (repeat' split) <;> simp
@[simp] theorem State.finishReport_outs (s : State) (f : TxFrame) :
    (s.finishReport f).outs = s.outs := by simp only [State.finishReport]; (repeat' split) <;> simp
@[simp] theorem State.finishReport_pending (s : State) (f : TxFrame) :
    (s.finishReport f).pending = s.pending := by simp only [State.finishReport]; (repeat' split) <;> simp

@[simp] theorem State.silenceExpire_cycle (s : State) :
    (s.silenceExpire).cycle = s.cycle := by unfold State.silenceExpire; split <;> simp
@[simp] theorem State.silenceExpire_readings (s : State) :
    (s.silenceExpire).readings = s.readings := by unfold State.silenceExpire; split <;> simp
@[simp] theorem State.silenceExpire_tb (s : State) :
    (s.silenceExpire).tb = s.tb := by unfold State.silenceExpire; split <;> simp
@[simp] theorem State.silenceExpire_resetPin (s : State) :
    (s.silenceExpire).resetPin = s.resetPin := by unfold State.silenceExpire; split <;> simp
@[simp] theorem State.silenceExpire_inhibit (s : State) :
    (s.silenceExpire).inhibit = s.inhibit := by unfold State.silenceExpire; split <;> simp
@[simp] theorem State.silenceExpire_servo (s : State) :
    (s.silenceExpire).servo = s.servo := by unfold State.silenceExpire; split <;> simp
@[simp] theorem State.silenceExpire_entries (s : State) :
    (s.silenceExpire).entries = s.entries := by unfold State.silenceExpire; split <;> simp
@[simp] theorem State.silenceExpire_outs (s : State) :
    (s.silenceExpire).outs = s.outs := by unfold State.silenceExpire; split <;> simp
@[simp] theorem State.silenceExpire_pending (s : State) :
    (s.silenceExpire).pending = s.pending := by unfold State.silenceExpire; split <;> simp

@[simp] theorem State.conflictOver_cycle (s : State) (x : Addr) :
    (s.conflictOver x).cycle = s.cycle := by simp [State.conflictOver]
@[simp] theorem State.conflictOver_readings (s : State) (x : Addr) :
    (s.conflictOver x).readings = s.readings := by simp [State.conflictOver]
@[simp] theorem State.conflictOver_tb (s : State) (x : Addr) :
    (s.conflictOver x).tb = s.tb := by simp [State.conflictOver]
@[simp] theorem State.conflictOver_resetPin (s : State) (x : Addr) :
    (s.conflictOver x).resetPin = s.resetPin := by simp [State.conflictOver]
@[simp] theorem State.conflictOver_inhibit (s : State) (x : Addr) :
    (s.conflictOver x).inhibit = s.inhibit := by simp [State.conflictOver]
@[simp] theorem State.conflictOver_servo (s : State) (x : Addr) :
    (s.conflictOver x).servo = s.servo := by simp [State.conflictOver]
@[simp] theorem State.conflictOver_entries (s : State) (x : Addr) :
    (s.conflictOver x).entries = s.entries := by simp [State.conflictOver]
@[simp] theorem State.conflictOver_outs (s : State) (x : Addr) :
    (s.conflictOver x).outs = s.outs := by simp [State.conflictOver]
@[simp] theorem State.conflictOver_pending (s : State) (x : Addr) :
    (s.conflictOver x).pending = s.pending := by simp [State.conflictOver]

@[simp] theorem State.holdOver_cycle (s : State) (x : Addr) (st : Stream) :
    (s.holdOver x st).cycle = s.cycle := by simp [State.holdOver]
@[simp] theorem State.holdOver_readings (s : State) (x : Addr) (st : Stream) :
    (s.holdOver x st).readings = s.readings := by simp [State.holdOver]
@[simp] theorem State.holdOver_tb (s : State) (x : Addr) (st : Stream) :
    (s.holdOver x st).tb = s.tb := by simp [State.holdOver]
@[simp] theorem State.holdOver_resetPin (s : State) (x : Addr) (st : Stream) :
    (s.holdOver x st).resetPin = s.resetPin := by simp [State.holdOver]
@[simp] theorem State.holdOver_inhibit (s : State) (x : Addr) (st : Stream) :
    (s.holdOver x st).inhibit = s.inhibit := by simp [State.holdOver]
@[simp] theorem State.holdOver_servo (s : State) (x : Addr) (st : Stream) :
    (s.holdOver x st).servo = s.servo := by simp [State.holdOver]
@[simp] theorem State.holdOver_entries (s : State) (x : Addr) (st : Stream) :
    (s.holdOver x st).entries = s.entries := by simp [State.holdOver]
@[simp] theorem State.holdOver_outs (s : State) (x : Addr) (st : Stream) :
    (s.holdOver x st).outs = s.outs := by simp [State.holdOver]
@[simp] theorem State.holdOver_pending (s : State) (x : Addr) (st : Stream) :
    (s.holdOver x st).pending = s.pending := by simp [State.holdOver]

end Sys2Proof.Machine
end

