-- ==== Sys2Proof/Laws/Requests.lean ====
section
/-! SUPPORT. What the request handler's shared operations can do: admission, the answer, the checks of R162, and the entry of
a result into its slot. -/

namespace Sys2Proof.Machine

open Sys2Proof Config

variable {s : State} {l : Link} {t : Tag} {r : Req}

/-! ## Admission and service -/

theorem State.takeIn_of_standsNext (h : s.standsNext l t r) : s.takeIn l t r = .taken s := by
  obtain ⟨h1, ⟨b, h2, h3⟩, h4⟩ := h
  simp [State.takeIn, h1, h2, h3, h4]

/-- A request that stands next is answered with the reply of its meaning. -/
theorem State.serve_reply (h : s.standsNext l t r) {f : State → State × Option Reply} {s2 : State} {st : Status}
    {b : Body} (hf : f s = (s2, some (st, b))) : s.serve l t r f = s2.reply l t r st b := by
  simp [State.serve, State.takeIn_of_standsNext h, hf, State.reply]

/-- A request that stands next and starts a store operation leaves its slot. -/
theorem State.serve_starts (h : s.standsNext l t r) {f : State → State × Option Reply} {s2 : State}
    (hf : f s = (s2, none)) : s.serve l t r f = s2.leaveSlot := by
  simp [State.serve, State.takeIn_of_standsNext h, hf]

/-- No request is admitted while RESET is asserted. -/
theorem State.serve_in_reset (h : s.resetPin = true) (f : State → State × Option Reply) : s.serve l t r f = s := by
  simp [State.serve, State.takeIn, h]

/-! ## The checks -/

theorem refuse_eq (st : Status) (s : State) : refuse st s = (s, some (st, .empty)) := rfl

@[simp] theorem forManagement_mgmt (h : State → State × Option Reply) (s : State) : forManagement .mgmt h s = h s := rfl

@[simp] theorem forManagement_station (x : Addr) (h : State → State × Option Reply) (s : State) :
    forManagement (.station x) h s = (s, some (.notPermitted, .empty)) := rfl

@[simp] theorem forStation_station (x : Addr) (h : Addr → State → State × Option Reply) (s : State) :
    forStation (.station x) h s = h x s := rfl

@[simp] theorem forStation_mgmt (h : Addr → State → State × Option Reply) (s : State) :
    forStation .mgmt h s = (s, some (.notPermitted, .empty)) := rfl

/-- What the handle check finds, in the order of R3. -/
theorem checkHandle_ok_iff (hd : Handle) (i : Idx) :
    checkHandle s hd = .ok i ↔ hd.index = i.val ∧ s.entries[i].gen = hd.gen ∧ s.entries[i].state ≠ .vacant := by
  unfold checkHandle
  split
  · rename_i hi
    by_cases hx : hd.index = i.val
    · simp only [hx, Fin.getElem_fin]
      by_cases hg : s.entries[i.val].gen = hd.gen <;> by_cases hv : s.entries[i.val].state = .vacant <;>
        simp [hg, hv]
    · by_cases hg : s.entries[hd.index].gen = hd.gen <;> by_cases hv : s.entries[hd.index].state = .vacant <;>
        simp [hx, hg, hv, Fin.ext_iff]
  · rename_i hi
    have : hd.index ≠ i.val := by have := i.isLt; omega
    simp [this]

theorem onEntry_ok {hd : Handle} {i : Idx} (h : checkHandle s hd = .ok i) (f : Idx → State → State × Option Reply) :
    onEntry hd f s = f i s := by
  simp [onEntry, h]

theorem onEntry_error {hd : Handle} {st : Status} (h : checkHandle s hd = .error st)
    (f : Idx → State → State × Option Reply) : onEntry hd f s = (s, some (st, .empty)) := by
  simp [onEntry, h, refuse]

theorem withAuthority_ok {i : Idx} (h : authority l s.entries[i] = true) (f : State → State × Option Reply) :
    withAuthority l i f s = f s := by
  simp only [withAuthority, h, if_true]

theorem withAuthority_refused {i : Idx} (h : authority l s.entries[i] = false) (f : State → State × Option Reply) :
    withAuthority l i f s = (s, some (.notOwner, .empty)) := by
  simp only [withAuthority, h, refuse, Bool.false_eq_true, if_false]

/-! ## The result in the slot -/

theorem State.complete_station (x : Addr) (v : Result) :
    s.complete (.station x) v =
      { s.setStation x { s.stations[x] with slot := .result v, segment := 0 } with
        arrivals := s.arrivals.erase (.station x) } := by
  simp only [State.complete, State.setSlot, State.setStation]

theorem State.complete_mgmt (h : s.port.deferred = none) (v : Result) :
    s.complete .mgmt v =
      { s with port := { s.port with slot := .result v }, arrivals := s.arrivals.erase .mgmt } := by
  simp only [State.complete, State.setSlot, h]

theorem State.slotOf_complete_station (x : Addr) (v : Result) : (s.complete (.station x) v).slotOf (.station x) = .result v := by
  rw [State.complete_station]; simp [State.slotOf, State.setStation]

theorem State.slotOf_complete_mgmt (h : s.port.deferred = none) (v : Result) : (s.complete .mgmt v).slotOf .mgmt = .result v := by
  rw [State.complete_mgmt h]; rfl

/-- R160: the entry of a result changes nothing but the slots and the order of arrival. -/
theorem State.complete_keeps (l : Link) (v : Result) (s : State) :
    (s.complete l v).entries = s.entries ∧ (s.complete l v).servo = s.servo ∧ (s.complete l v).tb = s.tb
    ∧ (s.complete l v).cycle = s.cycle ∧ (s.complete l v).outs = s.outs ∧ (s.complete l v).civil = s.civil
    ∧ (s.complete l v).chain = s.chain ∧ (s.complete l v).attn = s.attn ∧ (s.complete l v).store = s.store
    ∧ (s.complete l v).slots = s.slots ∧ (s.complete l v).latest = s.latest ∧ (s.complete l v).lastEdge = s.lastEdge
    ∧ (s.complete l v).mgmtNotices = s.mgmtNotices ∧ (s.complete l v).inhibit = s.inhibit
    ∧ (s.complete l v).resetPin = s.resetPin ∧ (s.complete l v).pending = s.pending := by
  cases l with
  | mgmt =>
    cases h : s.port.deferred with
    | none => rw [State.complete_mgmt h]; simp
    | some d => simp [State.complete, h]
  | station x => rw [State.complete_station]; simp

end Sys2Proof.Machine
end

