-- ==== Sys2Proof/Tests/Slice0.lean ====
section
/-! SUPPORT. Tests: the checks of WellFormed on ill-formed commands, worked examples of the spec, and for every statement with
hypotheses a state and operands that meet them. -/

namespace Sys2Proof.Machine.Tests

open Sys2Proof Sys2Proof.Machine Config

set_option Elab.async false

/-! ## WellFormed refuses ill-formed commands -/

theorem test_illformed_find_name_too_long : Instr.wellFormed (.find .mgmt 0 (List.replicate 256 0x41#8)) = false := by
  decide +kernel
theorem test_illformed_handle_index : Instr.wellFormed (.read .mgmt 0 ⟨256, 0⟩) = false := by decide
theorem test_illformed_list_start : Instr.wellFormed (.list .mgmt 0 256) = false := by decide
theorem test_illformed_next_count : Instr.wellFormed (.next .mgmt 0 ⟨0, 0⟩ 4294967296) = false := by decide
theorem test_illformed_stations_address : Instr.wellFormed (.stations .mgmt 0 256) = false := by decide
theorem test_illformed_create_num : Instr.wellFormed (.create .mgmt 0 ⟨4294967296, 1, none, none, none, none, none⟩) = false := by
  decide
theorem test_illformed_create_den : Instr.wellFormed (.create .mgmt 0 ⟨25, 65536, none, none, none, none, none⟩) = false := by
  decide
theorem test_illformed_create_phase : Instr.wellFormed (.create .mgmt 0 ⟨25, 1, none, some 2147483648, none, none, none⟩) = false := by
  decide
theorem test_illformed_set_policy : Instr.wellFormed (.set .mgmt 0 ⟨⟨0, 0⟩, none, none, some 256, none, none, none⟩) = false := by
  decide
theorem test_illformed_set_slew : Instr.wellFormed (.set .mgmt 0 ⟨⟨0, 0⟩, none, none, none, some 4294967296, none, none⟩) = false := by
  decide
theorem test_illformed_end_instant : Instr.wellFormed (.retireWithEnd .mgmt 0 ⟨0, 0⟩ ⟨281474976710656, 0⟩) = false := by decide
theorem test_illformed_stream_step : Instr.wellFormed (.stream (.station 2) 0 ⟨0, 0⟩ 65536 0) = false := by decide
theorem test_illformed_sample_grade : Instr.wellFormed (.sample .mgmt 0 ⟨0, 0, 0, 256⟩) = false := by decide
theorem test_illformed_servo_gain :
    Instr.wellFormed (.servo .mgmt 0 ⟨none, none, none, none, none, some 65536, none, none, none, none, none, none⟩) = false := by
  decide
theorem test_illformed_civil_action : Instr.wellFormed (.civil .mgmt 0 ⟨none, none, .other 2⟩) = false := by decide
theorem test_illformed_civil_instant : Instr.wellFormed (.civil .mgmt 0 ⟨none, none, .set 0 281474976710656⟩) = false := by decide
theorem test_illformed_bind_action : Instr.wellFormed (.bind .mgmt 0 ⟨0, .other 3, some true, none, none, none, none, false⟩) = false := by
  decide
theorem test_illformed_bind_width : Instr.wellFormed (.bind .mgmt 0 ⟨0, .keep, none, none, none, some 281474976710656, none, false⟩) = false := by
  decide
theorem test_illformed_chain_action : Instr.wellFormed (.chain .mgmt 0 (.other 1) ⟨none, none, none⟩) = false := by decide
theorem test_illformed_chain_orphan : Instr.wellFormed (.chainHold .mgmt 0 ⟨none, some 65536, none⟩) = false := by decide
theorem test_illformed_save_bank : Instr.wellFormed (.save .mgmt 0 256) = false := by decide
theorem test_illformed_status_mode : Instr.wellFormed (.status .mgmt 0 false (.set 0 256)) = false := by decide
theorem test_illformed_status_action : Instr.wellFormed (.status .mgmt 0 false (.other 1)) = false := by decide

/-! ## Worked examples of the spec -/

/-- Section 5.2, worked cases: θ = +400 from I = 1,000. -/
theorem test_pi_update_positive :
    (({ Servo.reset with integral := 1000 } : Servo).pi 400).integral = 1859
    ∧ (({ Servo.reset with integral := 1000 } : Servo).pi 400).correction = 5296 := by decide
/-- Section 5.2, worked cases: θ = −400, the floors toward minus infinity. -/
theorem test_pi_update_negative :
    (({ Servo.reset with integral := 1000 } : Servo).pi (-400)).integral = 140
    ∧ (({ Servo.reset with integral := 1000 } : Servo).pi (-400)).correction = -3298 := by decide
/-- Section 5.2, worked cases: both clamps, L = 3,000. -/
theorem test_pi_update_clamped :
    (({ Servo.reset with integral := 2500, params := { ServoParams.builtIn with limit := 3000 } } : Servo).pi 2000).correction
      = 3000 := by decide
/-- Chapter 6, worked cases: N(107,892) and N(107,893) at 30000/1001. -/
theorem test_nominal_marks : nominal 30000 1001 107892 = 3599996400000 ∧ nominal 30000 1001 107893 = 3600029766667 := by decide
/-- Section 8, bringing up a camera station: ks of a CREATE at 3,600 s. -/
theorem test_start_mark : startMark 30000 1001 0 3600000000000 = 107893 := by decide
/-- Section 7.1, transparency: FFh then FEh take 18 bits on the line. -/
theorem test_transparency : stuff 0 (bitsLow 0xFF ++ bitsLow 0xFE)
    = [true, true, true, true, true, true, true, false, true, false, true, true, true, true, true, true, true, false] := by decide
/-- R66: drop 2 leaves out 00:01:00:00 and 00:01:00:01, and keeps 00:10:00:00. -/
theorem test_drop_labels : labelOf .drop 30000 1001 1800 = ⟨0, 1, 0, 2, true⟩ ∧ labelOf .drop 30000 1001 17982 = ⟨0, 10, 0, 0, true⟩ := by
  decide
/-- R66: a negative count gives the labels before midnight. -/
theorem test_negative_label : labelOf .count 25 1 (-1) = ⟨23, 59, 59, 24, false⟩ := by decide
/-- Chapter 8, a report's countdown: Q = 3,000 gives δ = 860. -/
theorem test_path_delay : (3000 - turnaround) / 2 = 860 := by decide
/-- R173: erased banks fail their check; the built-in content passes it. -/
theorem test_banks_checked : bankPasses [] = false ∧ bankPasses BankContent.builtIn.bank = true := by decide +kernel
/-- R178: the code of an unknown request, and a body cut short. -/
theorem test_bodies_judged : parseBody [0x30, 7] = .unknown 0x30 7 ∧ parseBody [0x02, 7, 0] = .malformed 0x02 7 := by decide +kernel

/-! ## States for the witnesses -/

/-- A running entry of station 3, its next mark 250 due at 10 s. -/
def e0 : Entry :=
  { Entry.vacantAt 1 with
    state := .running, motion := .running, owner := .station 2, name := some [0x41#8], num := 25, den := 1, pf := 40000000,
    policy := .slew, slew := 1000, kl := some 249, lm := some 9960000000, watchers := [2] }
/-- A slewing entry with drop labels. -/
def e1 : Entry :=
  { Entry.vacantAt 0 with
    state := .slewing, motion := .slewing, num := 30000, den := 1001, pf := 33366666, eps := 500, policy := .slew, slew := 1000,
    label := .drop, base := some ⟨0, 0⟩, next := some ⟨400, 0⟩, kl := some 298, lm := some 9976633801 }
/-- An ENDING entry whose next mark lies after its end instant. -/
def e2 : Entry :=
  { Entry.vacantAt 0 with
    state := .ending, motion := .running, num := 1, den := 1, pf := 1000000000, policy := .snap, slew := 1, kl := some 10,
    lm := some 10000000000, endAt := some 10000000000 }
/-- A HELD entry within the slew range. -/
def e3 : Entry := { e1 with state := .held, motion := .held, label := .none, base := none, next := none }
/-- A PENDING entry. -/
def e4 : Entry :=
  { Entry.vacantAt 0 with
    state := .pending, motion := .pending, num := 25, den := 1, pf := 40000000, policy := .hold, slew := 1000, ks := some 250 }
/-- An output bound to the first entry, with a pulse in progress and one waiting. -/
def o0 : Output :=
  { Output.builtIn with
    enabled := true, binding := some ⟨0, 1⟩, waiting := [⟨249, 10000000000, 10000001000⟩],
    inProgress := some ⟨248, 9999999000, 10000000000⟩ }
/-- The stream of station 3. -/
def st0 : Stream := ⟨⟨0, 1⟩, 1, 100000, some 251, some 10039899500, none, 0, .active, none⟩
/-- Station 3, PRESENT. -/
def r2 : Station :=
  { Station.cleared with state := .present, delta := some 500, owned := 1, watchList := [0], stream := some st0 }
/-- The part at 10 s, running. -/
def live : State :=
  { State.reset with
    resetPin := false, cycle := 1250000000, tb := ⟨10, 0, 0⟩,
    entries := ((((State.reset.entries.set 0 e0).set 1 e1).set 2 e2).set 3 e3).set 4 e4,
    stations := State.reset.stations.set 2 r2, outs := State.reset.outs.set 0 o0,
    chain := { Chain.reset with state := .running, silenceStart := 1249999000, lineBase := 1250000000 },
    latest := some 0, slots := State.reset.slots.set 0 ⟨.filled, 0, 9500000000⟩ }
/-- `live` with the servo in another state, of class `c`. -/
def steered (v : ServoState) (c : Nat) : State :=
  { live with servo := { Servo.reset with state := v, noted := c, timer := if v = .free ∨ v = .holdover then none else some 1200000000 } }
/-- Link `l` asks for `r` with tag 7. -/
def asks (l : Link) (r : Req) (s : State) : State :=
  { s.setSlot l (.request (requestOctets 7 r)) with arrivals := [l] }

theorem asks_stands (l : Link) (r : Req) (s : State) (hs : s.resetPin = false)
    (hp : parseBody (requestOctets 7 r) = .whole 7 r) : (asks l r s).standsNext l 7 r := by
  cases l with
  | mgmt => exact ⟨by simpa [asks, State.setSlot] using hs, ⟨_, by simp [asks, State.setSlot, State.slotOf], hp⟩, rfl⟩
  | station x =>
    exact ⟨by simpa [asks, State.setSlot, State.setStation] using hs,
      ⟨_, by simp [asks, State.setSlot, State.setStation, State.slotOf], hp⟩, rfl⟩

/-- The management port asks for `r` in state `live`. -/
theorem live_asks (r : Req) (hp : parseBody (requestOctets 7 r) = .whole 7 r) : (asks .mgmt r live).standsNext .mgmt 7 r :=
  asks_stands .mgmt r live rfl hp
/-- Station 3 asks for `r` in state `live`. -/
theorem live_station_asks (r : Req) (hp : parseBody (requestOctets 7 r) = .whole 7 r) :
    (asks (.station 2) r live).standsNext (.station 2) 7 r := asks_stands (.station 2) r live rfl hp

/-! ## The hypotheses of the statements are met -/

/-- `live` with the first `n` entries in the management notice set. -/
def noted (n : Nat) : State := { live with mgmtNotices := (List.finRange 64).take n }
theorem test_FrontCommandRuns : ({ live with pending := [.jamEvent] } : State).pending = .jamEvent :: [] := rfl
theorem test_EmptyQueueActs_reset : State.reset.pending = [] ∧ State.reset.resetPin = true := by decide
/-- `live` with its next addressee chosen. -/
def picked (x : Addr) : State := { live with chain := { live.chain with chosen := some x } }
theorem test_EmptyQueueActs_chooses : live.pending = [] ∧ live.resetPin = false ∧ live.choiceDue = true := by decide +kernel
theorem test_EmptyQueueActs_due : (picked 2).pending = [] ∧ (picked 2).resetPin = false ∧ (picked 2).choiceDue = false
    ∧ (picked 2).due = some (.inactiveEdge 0) := by decide +kernel
/-- The part with nothing due. -/
def calm : State :=
  { State.reset with resetPin := false, chain := { Chain.reset with lineBase := 1 }, civil := { Civil.reset with tn := 86400 } }
theorem test_EmptyQueueActs_arrival : calm.pending = [] ∧ calm.choiceDue = false ∧ calm.due = none ∧ (asks .mgmt .notices calm).due = none
    ∧ (asks .mgmt .notices calm).arrivals = .mgmt :: [] := by decide +kernel
theorem test_EmptyQueueActs_cycle : calm.pending = [] ∧ calm.due = none ∧ calm.arrivals = [] ∧ calm.wrapDue = false := by
  decide +kernel
/-- The part one cycle before the seconds wrap. -/
def brink : State := { calm with tb := ⟨281474976710655, 999999999, 0⟩, civil := { Civil.reset with tn := 281474976796800 } }
theorem test_EmptyQueueActs_wrap : brink.pending = [] ∧ brink.due = none ∧ brink.arrivals = [] ∧ brink.wrapDue = true := by
  decide +kernel
/-- A reading of 1,000 cycles ago tells of the cycles since. -/
theorem test_CycleAddsRateWord :
    let s : State := { live with readings := [⟨1249999000, 9999992000 * 4294967296, 34359738368⟩] }
    s.servo.correction.natAbs ≤ 6871947 ∧ s.tb.frac < 4294967296 ∧ (∀ r ∈ s.readings, r.cycle ≤ s.cycle)
    ∧ (∃ r ∈ s.readings, r.cycle ≤ 1249999000) ∧ s.timeAt 1249999000 = 9999992000 ∧ s.timeAt 1249999999 = 9999999992 := by decide

theorem locked_servoInv : (steered .locked 0).servoInv := by
  unfold State.servoInv ServoParams.inRange Servo.steered Servo.classNoted; decide +kernel
/-- The conditions of the invariants hold at `live`, and a step gives a next state. -/
theorem test_TimebaseAndServoStayInRange : live.timebaseInv ∧ (steered .locked 0).servoInv ∧ ∃ t, step live = .next t :=
  ⟨by unfold State.timebaseInv; decide +kernel,
   locked_servoInv, _, rfl⟩
theorem test_CarriedOffsetStaysWithinMotion : live.offsetInv ∧ ∃ t, step live = .next t :=
  ⟨by unfold State.offsetInv; decide +kernel, _, rfl⟩
theorem test_OwnedCountsStayTrue : live.ownedInv ∧ ∃ t, step live = .next t :=
  ⟨by unfold State.ownedInv; decide +kernel, _, rfl⟩
theorem test_WatchSidesStayInStep : live.watchInv ∧ (noted 13).noticesInv ∧ live.streamsInv ∧ live.stations[(2 : Addr)].stream = some st0
    ∧ ∃ t, step live = .next t :=
  ⟨by unfold State.watchInv; decide +kernel, by unfold State.noticesInv; decide +kernel, fun x st h => by
    have : ∀ x : Addr, live.stations[x].stream.all (fun st => decide (1 ≤ st.step ∧ 10000 ≤ st.lead ∧ st.lead ≤ 10000000)) = true := by
      decide +kernel
    have := this x
    rw [h] at this
    simpa using this, by decide +kernel, _, rfl⟩
theorem test_NoPulseWhileInhibited : ({ live with outs := State.reset.outs, inhibit := true } : State).quietInv
    ∧ ∃ t, step { live with outs := State.reset.outs, inhibit := true } = .next t :=
  ⟨by unfold State.quietInv; decide +kernel, _, rfl⟩

theorem test_RequestBodiesReadBack : Req.wellFormed (.set ⟨⟨3, 1⟩, some (25, 1), some (-5), some 1, none, some 2, some [0x41#8]⟩) = true := by
  decide
theorem test_ReturnFramesReadBack : ((0x61#8 : Byte) = 0x61#8 ∧ ReturnKind.request = .request ∧ 2 ≤ ([6, 7] : List Byte).length)
    ∧ ({ Receiver.reset with mode := .content, ones := 0 } : Receiver).bits = [] := by decide
theorem test_BankContentReadsBack : BankContent.builtIn.params.inRange ∧ BankContent.builtIn.defs.length ≤ 64
    ∧ ∀ o : Fin 16, 1 ≤ BankContent.builtIn.outs[o].divider ∧ BankContent.builtIn.outs[o].binding = none := by
  unfold ServoParams.inRange; decide +kernel
theorem test_ResultTakesRequestsPlace : live.port.deferred = none := rfl

theorem test_UnformedBodiesAreRefused :
    ({ calm with port := { calm.port with slot := .request [0x30, 7] }, arrivals := [.mgmt] } : State).due = none
    ∧ ({ calm with port := { calm.port with slot := .request [0x30, 7] }, arrivals := [.mgmt] } : State).choiceDue = false
    ∧ parseBody [0x30, 7] = .unknown 0x30 7 ∧ parseBody [0x16, 7] = .malformed 0x16 7 ∧ parseBody [0x20, 7] = .malformed 0x20 7 := by
  decide +kernel
theorem test_LinkAndHandleChecksRefuse_station : managementOnly (requestCode .reset) = true
    ∧ (asks (.station 2) .reset live).standsNext (.station 2) 7 .reset :=
  ⟨by decide, live_station_asks _ (by decide +kernel)⟩
theorem test_LinkAndHandleChecksRefuse_mgmt : stationOnly (requestCode .unstream) = true
    ∧ (asks .mgmt .unstream live).standsNext .mgmt 7 .unstream := ⟨by decide, live_asks _ (by decide +kernel)⟩
theorem test_LinkAndHandleChecksRefuse_index : (asks .mgmt (.read ⟨64, 0⟩) live).standsNext .mgmt 7 (.read ⟨64, 0⟩) :=
  live_asks _ (by decide +kernel)
theorem test_LinkAndHandleChecksRefuse_stale : live.entries[(63 : Idx)].gen ≠ (1 : BitVec 8)
    ∧ (asks .mgmt (.watch ⟨63, 1⟩) live).standsNext .mgmt 7 (.watch ⟨63, 1⟩) := ⟨by decide +kernel, live_asks _ (by decide +kernel)⟩
theorem test_LinkAndHandleChecksRefuse_vacant : live.entries[(63 : Idx)].state = .vacant
    ∧ (asks (.station 2) (.stream ⟨63, 0⟩ 1 10000) live).standsNext (.station 2) 7 (.stream ⟨63, 0⟩ 1 10000) :=
  ⟨by decide +kernel, live_station_asks _ (by decide +kernel)⟩

theorem test_LinkAndHandleChecksRefuse_fields : SetReq.bad ⟨⟨64, 0⟩, none, some 5, none, none, none, none⟩ = false
    ∧ (asks .mgmt (.set ⟨⟨64, 0⟩, none, some 5, none, none, none, none⟩) live).standsNext .mgmt 7
        (.set ⟨⟨64, 0⟩, none, some 5, none, none, none, none⟩)
    ∧ (asks .mgmt (.bind ⟨15, .bind ⟨63, 1⟩, none, none, none, none, some 1, false⟩) live).standsNext .mgmt 7
        (.bind ⟨15, .bind ⟨63, 1⟩, none, none, none, none, some 1, false⟩) :=
  ⟨by decide, live_asks _ (by decide +kernel), live_asks _ (by decide +kernel)⟩
/-- Entry 1 belongs to the management owner; station 3 asks. -/
theorem test_LinkAndHandleChecksRefuse_owner : (live.entries[(1 : Idx)].gen = 0 ∧ live.entries[(1 : Idx)].state ≠ .vacant
    ∧ live.entries[(1 : Idx)].owner ≠ .station 2)
    ∧ (asks (.station 2) (.realign ⟨1, 0⟩) live).standsNext (.station 2) 7 (.realign ⟨1, 0⟩)
    ∧ (asks (.station 2) (.retireWithEnd ⟨1, 0⟩ ⟨20, 0⟩) live).standsNext (.station 2) 7 (.retireWithEnd ⟨1, 0⟩ ⟨20, 0⟩) :=
  ⟨by decide +kernel, live_station_asks _ (by decide +kernel), live_station_asks _ (by decide +kernel)⟩

theorem test_LookupsAnswerFromRecords_find : (badName [0x41#8] = false ∧ live.entries[(0 : Idx)].name = some [0x41#8]
    ∧ (∀ j : Idx, live.entries[j].state ≠ .vacant → live.entries[j].name = some [0x41#8] → j = 0))
    ∧ (asks .mgmt (.find [0x41#8]) live).standsNext .mgmt 7 (.find [0x41#8]) :=
  ⟨by decide +kernel, live_asks _ (by decide +kernel)⟩
theorem test_LookupsAnswerFromRecords_absent : (∀ j : Idx, live.entries[j].name ≠ some [0x7E#8])
    ∧ (asks .mgmt (.find [0x7E#8]) live).standsNext .mgmt 7 (.find [0x7E#8]) := ⟨by decide +kernel, live_asks _ (by decide +kernel)⟩
theorem test_LookupsAnswerFromRecords_bad : (asks .mgmt (.find []) live).standsNext .mgmt 7 (.find [])
    ∧ (asks .mgmt (.list 64) live).standsNext .mgmt 7 (.list 64) ∧ (asks .mgmt (.stations 31) live).standsNext .mgmt 7 (.stations 31) :=
  ⟨live_asks _ (by decide +kernel), live_asks _ (by decide +kernel), live_asks _ (by decide +kernel)⟩
theorem test_LookupsAnswerFromRecords_list : (asks .mgmt (.list 63) live).standsNext .mgmt 7 (.list 63) :=
  live_asks _ (by decide +kernel)
theorem test_LookupsAnswerFromRecords_stations : (asks .mgmt (.stations 30) live).standsNext .mgmt 7 (.stations 30)
    ∧ (asks .mgmt (.stations 1) live).standsNext .mgmt 7 (.stations 1) :=
  ⟨live_asks _ (by decide +kernel), live_asks _ (by decide +kernel)⟩
/-- A handle check that passes: entry 0 for station 3 and the management port, and the greatest count of NEXT. -/
theorem test_NextAnswersProjectedMark : (live.entries[(1 : Idx)].motion = .slewing ∧ live.entries[(4 : Idx)].motion = .pending)
    ∧ (asks .mgmt (.next ⟨1, 0⟩ 16777216) live).standsNext .mgmt 7 (.next ⟨1, 0⟩ 16777216) :=
  ⟨by decide +kernel, live_asks _ (by decide +kernel)⟩
/-- A set of twelve and one of thirteen. -/
theorem test_NoticesReadTakesTwelve : (asks .mgmt .notices (noted 12)).noticesInv ∧ (asks .mgmt .notices (noted 13)).noticesInv
    ∧ (asks .mgmt .notices (noted 13)).standsNext .mgmt 7 .notices :=
  ⟨by unfold State.noticesInv; decide +kernel, by unfold State.noticesInv; decide +kernel,
   asks_stands _ _ _ rfl (by decide +kernel)⟩
theorem test_IndexSearchFindsFirstMark : 0 < e1.num ∧ 0 < e1.den
    ∧ firstAfter e1.num e1.den 0 500 (nominal e1.num e1.den 299 + 500) = 300
    ∧ firstAfter e1.num e1.den 0 500 (nominal e1.num e1.den 299 + 499) = 299 ∧ firstAfter e1.num e1.den 0 0 (-1) = 0 := by decide
theorem test_SuccessiveMarksKeepApart : 0 < e1.num ∧ e1.pf = wholePeriod e1.num e1.den ∧ e1.kl = some 298 ∧ e1.motion = .slewing
    ∧ e0.motion = .running ∧ e0.eps = 0 ∧ e0.pf = wholePeriod e0.num e0.den := by decide
theorem test_SnapFindsGuardedMark : 0 < e0.num ∧ 0 < e0.den ∧ e0.motion ≠ .pending ∧ (e0.snapped 10000000000).motion = .running
    ∧ (e0.snapped (-1000000000)).motion = .running ∧ (({ e0 with lm := none } : Entry).snapped (-1)).motion = .pending := by decide
/-- A CREATE of a name that no entry holds. -/
def aCreate : CreateReq := ⟨50, 1, some [0x42#8], some (-7), some 2, none, some 1⟩
theorem test_CreateFillsLowestVacant : (CreateReq.bad aCreate = false ∧ live.entries[(5 : Idx)].state = .vacant
    ∧ (∀ j : Idx, j < 5 → live.entries[j].state ≠ .vacant) ∧ live.quotaUsed (.station 2) = false
    ∧ live.nameHeld (some [0x42#8]) = false)
    ∧ (asks (.station 2) (.create aCreate) live).standsNext (.station 2) 7 (.create aCreate) :=
  ⟨by decide +kernel, live_station_asks _ (by decide +kernel)⟩
theorem test_CreateIsRefused_rate : CreateReq.bad { aCreate with num := 0 } = true
    ∧ (asks .mgmt (.create { aCreate with num := 0 }) live).standsNext .mgmt 7 (.create { aCreate with num := 0 }) :=
  ⟨by decide, live_asks _ (by decide +kernel)⟩
theorem test_CreateIsRefused_full :
    let s : State := { live with stations := live.stations.set 2 { r2 with owned := 8 } }
    s.stations[(2 : Addr)].owned = 8
    ∧ (asks (.station 2) (.create aCreate) s).standsNext (.station 2) 7 (.create aCreate) :=
  ⟨by decide +kernel, asks_stands _ _ _ rfl (by decide +kernel)⟩
/-- Every entry is taken. -/
theorem test_CreateIsRefused_table :
    let s : State := { live with entries := Vector.replicate 64 e0 }
    (CreateReq.bad aCreate = false ∧ (∀ j : Idx, s.entries[j].state ≠ .vacant))
    ∧ (asks .mgmt (.create aCreate) s).standsNext .mgmt 7 (.create aCreate) :=
  ⟨by decide +kernel, asks_stands _ _ _ rfl (by decide +kernel)⟩
theorem test_CreateIsRefused_name : (live.entries[(0 : Idx)].name = some [0x41#8] ∧ CreateReq.bad { aCreate with name := some [0x41#8] } = false)
    ∧ (asks .mgmt (.create { aCreate with name := some [0x41#8] }) live).standsNext .mgmt 7
        (.create { aCreate with name := some [0x41#8] }) :=
  ⟨by decide +kernel, live_asks _ (by decide +kernel)⟩
/-- A SET of everything but rate and phase. -/
def aSet : SetReq := ⟨⟨0, 1⟩, none, none, some 0, some 4294967295, some 2, some [0x42#8]⟩
theorem test_SetAppliesMaskedFields : (SetReq.bad aSet = false ∧ live.entries[(0 : Idx)].owner = .station 2
    ∧ live.entries[(0 : Idx)].gen = 1 ∧ live.entries[(0 : Idx)].state ≠ .vacant ∧ SetReq.nameClash aSet 0 live = false)
    ∧ (asks (.station 2) (.set aSet) live).standsNext (.station 2) 7 (.set aSet) :=
  ⟨by decide +kernel, live_station_asks _ (by decide +kernel)⟩
/-- Each refusal of a SET: an unknown policy, a stale handle, a VACANT entry, another's entry and a name that is held. -/
theorem test_SetAppliesMaskedFields_refused :
    (2 < 3 ∧ (asks .mgmt (.set ⟨⟨0, 1⟩, none, none, some 3, none, none, none⟩) live).standsNext .mgmt 7
        (.set ⟨⟨0, 1⟩, none, none, some 3, none, none, none⟩))
    ∧ (live.entries[(0 : Idx)].gen ≠ 0 ∧ live.entries[(63 : Idx)].gen = 0 ∧ live.entries[(63 : Idx)].state = .vacant
      ∧ live.entries[(1 : Idx)].owner = .mgmt ∧ live.entries[(0 : Idx)].name = some [0x41#8])
    ∧ (asks .mgmt (.set ⟨⟨1, 0⟩, none, none, none, none, none, some [0x41#8]⟩) live).standsNext .mgmt 7
        (.set ⟨⟨1, 0⟩, none, none, none, none, none, some [0x41#8]⟩) :=
  ⟨⟨by decide, live_asks _ (by decide +kernel)⟩, by decide +kernel, live_asks _ (by decide +kernel)⟩
/-- A phase change of a RUNNING, a SLEWING, an ENDING snapping and a PENDING entry, and one that is clamped. -/
theorem test_SetAppliesMaskedFields_phase :
    (clampInt (-((e0.pf : Int) - 1)) ((e0.pf : Int) - 1) 40000000 = 39999999 ∧ live.outs[(0 : OutNo)].boundTo 0 = true
    ∧ e1.motion = .slewing ∧ e2.policy = .snap ∧ e2.state = .ending ∧ e4.motion = .pending)
    ∧ (asks .mgmt (.set ⟨⟨0, 1⟩, none, some 40000000, none, none, none, none⟩) live).standsNext .mgmt 7
        (.set ⟨⟨0, 1⟩, none, some 40000000, none, none, none, none⟩) :=
  ⟨by decide +kernel, live_asks _ (by decide +kernel)⟩
/-- φ with s, policy, label mode and name: the phase change goes by the policy and s it finds; beside a rate, it is a restart's. -/
theorem test_SetAppliesMaskedFields_order :
    let q : SetReq := ⟨⟨0, 1⟩, none, some 700, some 2, some 5, some 1, some [0x42#8]⟩
    let r : Entry := ((SetReq.apply q 0 live).finish 0).entries[(0 : Idx)]
    let r' : Entry := ((SetReq.apply { q with rate := some (30, 1) } 0 live).finish 0).entries[(0 : Idx)]
    (SetReq.bad q = false ∧ SetReq.nameClash q 0 live = false ∧ r.motion = .slewing ∧ r.eps = -700 ∧ r.policy = .hold ∧ r.slew = 5
    ∧ r.label = .count ∧ r'.motion = .pending ∧ r'.phi = 700 ∧ r'.slew = 5 ∧ 50 * e0.den = e0.num * 2 ∧ 30 * e0.den ≠ e0.num * 1)
    ∧ (asks .mgmt (.set q) live).standsNext .mgmt 7 (.set q)
    ∧ (asks .mgmt (.set { q with rate := some (50, 2) }) live).standsNext .mgmt 7 (.set { q with rate := some (50, 2) })
    ∧ (asks .mgmt (.set { q with rate := some (30, 1) }) live).standsNext .mgmt 7 (.set { q with rate := some (30, 1) }) :=
  ⟨by decide +kernel, live_asks _ (by decide +kernel), live_asks _ (by decide +kernel), live_asks _ (by decide +kernel)⟩
theorem test_SetOfRateRestarts : (badRate 50 2 = false ∧ badRate 30 1 = false ∧ 50 * e0.den = e0.num * 2 ∧ 30 * e0.den ≠ e0.num * 1)
    ∧ (asks .mgmt (.set ⟨⟨0, 1⟩, some (30, 1), none, none, none, none, none⟩) live).standsNext .mgmt 7
        (.set ⟨⟨0, 1⟩, some (30, 1), none, none, none, none, none⟩) :=
  ⟨by decide, live_asks _ (by decide +kernel)⟩
/-- R20: a SET of a rate at the end instant of an ENDING entry retires it; one of an equal rate leaves it ENDING. -/
theorem test_SetOfRateRestarts_ending : (e2.state = .ending ∧ e2.endAt = some live.now ∧ 3 * e2.den ≠ e2.num * 1
    ∧ ((SetReq.apply ⟨⟨2, 0⟩, some (3, 1), none, none, none, none, none⟩ 2 live).finish 2).entries[(2 : Idx)] = Entry.vacantAt 1
    ∧ ((SetReq.apply ⟨⟨2, 0⟩, some (2, 2), none, none, none, none, none⟩ 2 live).finish 2).entries[(2 : Idx)]
        = { e2 with num := 2, den := 2 })
    ∧ (asks .mgmt (.set ⟨⟨2, 0⟩, some (3, 1), none, none, none, none, none⟩) live).standsNext .mgmt 7
        (.set ⟨⟨2, 0⟩, some (3, 1), none, none, none, none, none⟩) :=
  ⟨by decide +kernel, live_asks _ (by decide +kernel)⟩
theorem test_RetireActsAtOnce : live.entries[(0 : Idx)].owner = .station 2
    ∧ (asks (.station 2) (.retire ⟨0, 1⟩) live).standsNext (.station 2) 7 (.retire ⟨0, 1⟩)
    ∧ (asks (.station 5) (.retire ⟨0, 1⟩) live).standsNext (.station 5) 7 (.retire ⟨0, 1⟩) :=
  ⟨by decide +kernel, live_station_asks _ (by decide +kernel), asks_stands _ _ _ rfl (by decide +kernel)⟩
theorem test_RetirementClearsEveryTie : live.entries[(0 : Idx)].state ≠ .vacant := by decide +kernel
theorem test_RetireWithEndSetsEnd : live.entries[(0 : Idx)].gen = 1
    ∧ (asks .mgmt (.retireWithEnd ⟨0, 1⟩ ⟨10, 999999999⟩) live).standsNext .mgmt 7 (.retireWithEnd ⟨0, 1⟩ ⟨10, 999999999⟩) :=
  ⟨by decide +kernel, live_asks _ (by decide +kernel)⟩
/-- An ns field above 999,999,999, at an entry that the management owner watches and at one that is ENDING. -/
theorem test_RetireWithEndSetsEnd_ns :
    let s : State := { live with entries := live.entries.set 0 { e0 with mgmtWatch := true } }
    (s.entries[(0 : Idx)].mgmtWatch = true ∧ s.entries[(0 : Idx)].state ≠ .ending ∧ s.entries[(2 : Idx)].state = .ending
    ∧ clampNat (s.now + 1000000) (s.now + 86400000000000) (10 * 1000000000 + min 1000000000 999999999) = 10999999999)
    ∧ (asks .mgmt (.retireWithEnd ⟨0, 1⟩ ⟨10, 1000000000⟩) s).standsNext .mgmt 7 (.retireWithEnd ⟨0, 1⟩ ⟨10, 1000000000⟩)
    ∧ (asks .mgmt (.retireWithEnd ⟨2, 0⟩ ⟨10, 1000000000⟩) s).standsNext .mgmt 7 (.retireWithEnd ⟨2, 0⟩ ⟨10, 1000000000⟩) :=
  ⟨by decide +kernel, asks_stands _ _ _ rfl (by decide +kernel), asks_stands _ _ _ rfl (by decide +kernel)⟩
theorem test_RealignByMotion : (live.entries[(0 : Idx)].motion = .running ∧ live.entries[(1 : Idx)].motion = .slewing
    ∧ (live.entries[(3 : Idx)].motion = .held ∧ live.entries[(3 : Idx)].policy = .slew
        ∧ live.entries[(3 : Idx)].eps.natAbs ≤ live.servo.params.slewRange))
    ∧ (asks .mgmt (.realign ⟨3, 0⟩) live).standsNext .mgmt 7 (.realign ⟨3, 0⟩) :=
  ⟨by decide +kernel, live_asks _ (by decide +kernel)⟩
/-- An ENDING entry, HELD, before and at its end instant: the slew resumes, and the entry retires. -/
theorem test_RealignByMotion_ending :
    let e : Entry := { e2 with motion := .held, policy := .slew, eps := 500 }
    let at' (x : Nat) : State := { live with entries := live.entries.set 2 { e with endAt := some x } }
    (((at' 10000000001).realign 2).entries[(2 : Idx)] = { e with motion := .slewing, endAt := some 10000000001 }
    ∧ ((at' 10000000000).realign 2).entries[(2 : Idx)] = Entry.vacantAt 1)
    ∧ (asks .mgmt (.realign ⟨2, 0⟩) (at' 10000000000)).standsNext .mgmt 7 (.realign ⟨2, 0⟩) :=
  ⟨by decide +kernel, asks_stands _ _ _ rfl (by decide +kernel)⟩
theorem test_WatchAndUnwatchTieBothSides_refused : live.entries[(63 : Idx)].gen ≠ (1 : BitVec 8)
    ∧ (asks .mgmt (.unwatch ⟨63, 1⟩) live).standsNext .mgmt 7 (.unwatch ⟨63, 1⟩)
    ∧ (asks .mgmt (.watch ⟨64, 0⟩) live).standsNext .mgmt 7 (.watch ⟨64, 0⟩) ∧ live.entries[(63 : Idx)].state = .vacant
    ∧ (asks .mgmt (.watch ⟨63, 0⟩) live).standsNext .mgmt 7 (.watch ⟨63, 0⟩) :=
  ⟨by decide +kernel, live_asks _ (by decide +kernel), live_asks _ (by decide +kernel), by decide +kernel,
   live_asks _ (by decide +kernel)⟩
theorem test_WatchAndUnwatchTieBothSides : (live.entries[(1 : Idx)].gen = 0 ∧ live.entries[(1 : Idx)].state ≠ .vacant)
    ∧ (asks (.station 2) (.watch ⟨1, 0⟩) live).standsNext (.station 2) 7 (.watch ⟨1, 0⟩)
    ∧ (asks .mgmt (.watch ⟨1, 0⟩) live).standsNext .mgmt 7 (.watch ⟨1, 0⟩)
    ∧ (asks (.station 2) (.unwatch ⟨0, 1⟩) live).standsNext (.station 2) 7 (.unwatch ⟨0, 1⟩)
    ∧ (asks .mgmt (.unwatch ⟨0, 1⟩) live).standsNext .mgmt 7 (.unwatch ⟨0, 1⟩) :=
  ⟨by decide +kernel, live_station_asks _ (by decide +kernel), live_asks _ (by decide +kernel), live_station_asks _ (by
   decide +kernel), live_asks _ (by decide +kernel)⟩
theorem test_StreamOpensAndCloses :
    (asks (.station 2) (.stream ⟨0, 1⟩ 0 9999) live).standsNext (.station 2) 7 (.stream ⟨0, 1⟩ 0 9999)
    ∧ (asks (.station 2) .unstream live).standsNext (.station 2) 7 .unstream :=
  ⟨live_station_asks _ (by decide +kernel), live_station_asks _ (by decide +kernel)⟩
/-- R153: at 10 s with δ = 500 and the least lead, the mark 251 is the first that can leave in time. -/
theorem test_StreamOpensAndCloses_delay : live.stations[(2 : Addr)].delta = some 500 ∧ 0 < e0.num ∧ 0 < e0.den
    ∧ e0.pf = wholePeriod e0.num e0.den ∧ e0.slew ≤ max 1 (e0.pf / 4) ∧ 1 ≤ e0.pf
    ∧ (openStream ⟨0, 1⟩ e0 1 10000 (some 500) live.now).kr = some 251 := by decide +kernel
theorem test_ReportIndexIsLeast : 0 < e1.num ∧ 0 < e1.den ∧ 1 ≤ st0.step ∧ e1.slew ≤ max 1 (e1.pf / 4) ∧ 1 ≤ e1.pf
    ∧ (st0.choose e1 (some 500) 10000000000 none false).kr = some 300 := by decide +kernel
/-- R153: a counted choice adds the marks passed over, and none where it finds kr past the end instant. -/
theorem test_ReportIndexIsLeast_counted :
    (st0.choose e0 (some 500) 10000000000 none true).skipped = 1 ∧ (st0.choose e0 (some 500) 10000000000 none false).skipped = 0
    ∧ st0.choose { e0 with state := .ending, endAt := some 10000000001 } (some 500) 10000000000 none true
        = { st0 with kr := none, s0 := none } := by decide +kernel

/-- A SAMPLE for the capture at 9.5 s, of offset `theta`. -/
def aSample (theta : Int) : SampleReq := ⟨0, ((9500000000 + theta) / 1000000000).toNat, ((9500000000 + theta) % 1000000000).toNat, 6⟩
theorem test_SampleIsPairedByAge_fields : (asks .mgmt (.sample ⟨0, 0, 1000000000, 0⟩) live).standsNext .mgmt 7 (.sample ⟨0, 0, 1000000000, 0⟩) :=
  live_asks _ (by decide +kernel)
/-- Ages 0, 3, 4, 127, 128 and 255 against latest sequence 0. -/
theorem test_SampleIsPairedByAge_ages : (live.latest = some 0
    ∧ [0#8, 253#8, 252#8, 129#8, 128#8, 1#8].map (fun q => ((0#8 : BitVec 8).toNat + 256 - q.toNat) % 256) = [0, 3, 4, 127, 128, 255]
    ∧ live.slots[(0 : Fin 4)].state = .filled ∧ live.slots[(1 : Fin 4)].state = .empty)
    ∧ (asks .mgmt (.sample ⟨0, 9, 500000000, 7⟩) live).standsNext .mgmt 7 (.sample ⟨0, 9, 500000000, 7⟩) :=
  ⟨by decide +kernel, live_asks _ (by decide +kernel)⟩
theorem live_slot : live.slots[slotNo 0].state = .filled ∧ live.slots[slotNo 0].time = 9500000000 := by decide +kernel
theorem sample_pairs (theta : Int) (v : ServoState) (c : Nat)
    (h : (aSample theta).sec < secondsWrap ∧ (aSample theta).ns < second) : (steered v c).pairs (aSample theta) 9500000000 :=
  ⟨⟨h.1, h.2, by show 6 ≤ 15; decide⟩, ⟨0, rfl, by show (0 - 0 : BitVec 8).toNat < 4; decide⟩, live_slot.1, live_slot.2,
   by show 6 ≤ 6; decide⟩
theorem test_FreeSampleStepsTimebase : (steered .free 4).servo.state = .free ∧ (steered .free 4).pairs (aSample 250000) 9500000000
    ∧ 0 ≤ ((steered .free 4).now : Int) + 250000
    ∧ (asks .mgmt (.sample (aSample 250000)) (steered .free 4)).standsNext .mgmt 7 (.sample (aSample 250000)) :=
  ⟨rfl, sample_pairs _ _ _ (by decide), by decide, asks_stands _ _ _ rfl (by decide +kernel)⟩
/-- Offsets at the step threshold, at the lock window and one above it. -/
theorem test_AcquireSampleSteers : (steered .acquire 1).pairs (aSample 100000) 9500000000 ∧ (steered .holdover 2).pairs (aSample 1000) 9500000000
    ∧ (steered .acquire 1).pairs (aSample (-1001)) 9500000000
    ∧ (asks .mgmt (.sample (aSample 1000)) (steered .holdover 2)).standsNext .mgmt 7 (.sample (aSample 1000)) :=
  ⟨sample_pairs _ _ _ (by decide), sample_pairs _ _ _ (by decide), sample_pairs _ _ _ (by decide),
   asks_stands _ _ _ rfl (by decide +kernel)⟩
theorem test_LockedSampleSteersOrCounts : (steered .locked 0).pairs (aSample 99999) 9500000000
    ∧ (steered .locked 0).pairs (aSample 20000) 9500000000 ∧ (steered .locked 0).pairs (aSample (-100000)) 9500000000
    ∧ (asks .mgmt (.sample (aSample 20000)) (steered .locked 0)).standsNext .mgmt 7 (.sample (aSample 20000)) :=
  ⟨sample_pairs _ _ _ (by decide), sample_pairs _ _ _ (by decide), sample_pairs _ _ _ (by decide),
   asks_stands _ _ _ rfl (by decide +kernel)⟩
theorem test_StepIsAbsorbedByPolicy : live.entries[(0 : Idx)].motion = .running ∧ live.entries[(0 : Idx)].policy = .slew
    ∧ live.entries[(4 : Idx)].motion = .pending ∧ live.entries[(4 : Idx)].num = 25 ∧ live.entries[(4 : Idx)].den = 1
    ∧ live.entries[(2 : Idx)].state = .ending ∧ live.entries[(2 : Idx)].endAt = some live.now
    ∧ live.outs[(0 : OutNo)].boundTo 0 = true
    ∧ (0 : Int) ≤ live.now + (-10000000000) ∧ (live.now : Int) + (-10000000000) < 281474976710656000000000 := by decide +kernel
/-- R61, R63: a step within tB..tn leaves an entry on the base it has switched to; one past tn computes both bases. -/
theorem test_StepIsAbsorbedByPolicy_bases :
    let s : State := { live with
      civil := { Civil.reset with tn := 86400 }
      entries := live.entries.set 1 { e1 with base := some ⟨2589411, 0⟩, next := none } }
    let t := s.applyStep 5
    let u := s.applyStep 86400000000000
    t.civil.tB = 0 ∧ t.civil.tn = 86400 ∧ t.entries[(1 : Idx)].base = some ⟨2589411, 0⟩ ∧ t.entries[(1 : Idx)].next = none
    ∧ u.civil.tB = 86400 ∧ u.entries[(1 : Idx)].base = some ⟨2589411, 0⟩ ∧ u.entries[(1 : Idx)].next = some ⟨5178822, 0⟩ := by
  decide +kernel
theorem test_ServoTakesClampedParameters : (steered .acquire 1).servoInv ∧ (steered .acquire 1).offsetInv
    ∧ (asks .mgmt (.servo ⟨none, some 9, none, some 5, none, none, none, some 0, some 1, none, none, some 0⟩) (steered .acquire 1)).standsNext
        .mgmt 7 (.servo ⟨none, some 9, none, some 5, none, none, none, some 0, some 1, none, none, some 0⟩) :=
  ⟨by unfold State.servoInv ServoParams.inRange Servo.steered Servo.classNoted; decide +kernel,
   by unfold State.offsetInv; decide +kernel, asks_stands _ _ _ rfl (by decide +kernel)⟩
/-- `live` in HOLDOVER since cycle 0. -/
def heldOver : State := { live with servo := { Servo.reset with state := .holdover, ageStart := some 0, noted := 2 } }
theorem heldOver_servoInv : heldOver.servoInv := by
  unfold State.servoInv ServoParams.inRange Servo.steered Servo.classNoted; decide +kernel
/-- The timer just at its end; the age one cycle above its limit. -/
theorem test_HoldoverKeepsIntegral :
    (steered .locked 0).servoInv ∧ (steered .locked 0).servo.timer = some 1200000000
    ∧ 1200000000 + ServoParams.builtIn.timeout * 125000000 = 1575000000
    ∧ heldOver.servoInv ∧ ServoParams.builtIn.ageLimit * 125000000 < 1800000000001 :=
  ⟨locked_servoInv, by decide +kernel, by decide, heldOver_servoInv, by decide⟩
theorem test_StrobeEdgeIsFiled : live.lastEdge = none
    ∧ ({ live with lastEdge := some 1249987500 } : State).cycle = 1249987500 + 12500
    ∧ ({ live with lastEdge := some 1249987501 } : State).cycle < 1249987501 + 12500 ∧ State.reset.resetPin = true := by decide
theorem test_CivilTakesSettings : live.now = 10 * 1000000000
    ∧ (asks .mgmt (.civil ⟨some 86401, some 86400, .set 3600 11⟩) live).standsNext .mgmt 7 (.civil ⟨some 86401, some 86400, .set 3600 11⟩)
    ∧ (asks .mgmt (.civil ⟨none, none, .set 0 10⟩) live).standsNext .mgmt 7 (.civil ⟨none, none, .set 0 10⟩) :=
  ⟨by decide, live_asks _ (by decide +kernel), live_asks _ (by decide +kernel)⟩
theorem test_BindSetsOutput : (live.entries[(1 : Idx)].gen = 0 ∧ live.entries[(1 : Idx)].state ≠ .vacant)
    ∧ (asks .mgmt (.bind ⟨0, .bind ⟨1, 0⟩, some false, some 0, some 0, some 7, some 1, true⟩) live).standsNext .mgmt 7
        (.bind ⟨0, .bind ⟨1, 0⟩, some false, some 0, some 0, some 7, some 1, true⟩)
    ∧ (asks .mgmt (.bind ⟨16, .keep, none, none, none, none, none, false⟩) live).standsNext .mgmt 7
        (.bind ⟨16, .keep, none, none, none, none, none, false⟩) :=
  ⟨by decide +kernel, live_asks _ (by decide +kernel), live_asks _ (by decide +kernel)⟩
theorem test_BindSetsOutput_kept :
    (asks .mgmt (.bind ⟨0, .keep, none, none, none, none, none, false⟩) live).standsNext .mgmt 7
        (.bind ⟨0, .keep, none, none, none, none, none, false⟩)
    ∧ (asks .mgmt (.bind ⟨0, .keep, some false, none, none, none, none, false⟩) live).standsNext .mgmt 7
        (.bind ⟨0, .keep, some false, none, none, none, none, false⟩) ∧ live.outs[(0 : OutNo)].inProgress ≠ none :=
  ⟨live_asks _ (by decide +kernel), live_asks _ (by decide +kernel), by decide +kernel⟩
theorem test_PulsesFollowEdgesAndInhibit : live.outs[(0 : OutNo)].waiting = [⟨249, 10000000000, 10000001000⟩]
    ∧ live.outs[(0 : OutNo)].inProgress = some ⟨248, 9999999000, 10000000000⟩ ∧ (10000000000 : Int) ≤ live.now
    ∧ live.outs[(1 : OutNo)].waiting = [] ∧ live.outs[(1 : OutNo)].inProgress = none
    ∧ (Output.inhibited { o0 with inProgress := some ⟨248, 10000000000, 10000001000⟩, pendingPol := some .activeLow } 10000000000)
        = { o0 with inProgress := none, lastInactive := some 10000000000, polarity := .activeLow, skipped := 1 } := by decide +kernel
/-- The mark of entry 0 is due at T to the ns; that of entry 1 is not; the end of entry 2 has come, its mark lies after it. -/
theorem test_MarksAndEndsFallDue : (nominal e0.num e0.den e0.nextMark : Int) + e0.phi + e0.eps = live.now ∧ e0.endTaken = false
    ∧ (live.now : Int) < nominal e1.num e1.den e1.nextMark + 33366667
    ∧ e2.endAt = some live.now ∧ (live.now : Int) < nominal e2.num e2.den e2.nextMark ∧ e2.state = .ending
    ∧ e4.motion = .pending ∧ (nominal e4.num e4.den e4.nextMark : Int) = live.now := by decide
/-- The last mark of an ENDING entry whose end due was taken, at its kb′: the entry switches, and retires. -/
theorem test_MarksAndEndsFallDue_last :
    let e : Entry := { e0 with state := .ending, endAt := some 10000000000, endTaken := true, label := .count, next := some ⟨250, 250⟩ }
    let s : State := { live with entries := live.entries.set 0 e }
    (nominal e.num e.den e.nextMark : Int) + e.phi + e.eps = s.now ∧ e.emit.base = some ⟨250, 250⟩ ∧ e.emit.next = none
    ∧ (s.markDue 0).entries[(0 : Idx)] = Entry.vacantAt 2 := by decide +kernel
theorem test_JamSwitchesBases : ({ live with civil := { Civil.reset with tn := 10, pending := some (3600, 10) } } : State).now = 10 * 1000000000
    ∧ live.now < live.civil.tn * 1000000000 ∧ live.entries[(1 : Idx)].label = .drop := by decide +kernel
theorem test_SecondsWrapStepsBack :
    281474976710656 ≤ brink.tb.seconds + (brink.tb.ns * 4294967296 + brink.tb.frac + brink.rateWord) / 4294967296 / 1000000000
    ∧ live.tb.seconds + (live.tb.ns * 4294967296 + live.tb.frac + live.rateWord) / 4294967296 / 1000000000 < 281474976710656 := by
  decide
theorem test_SpiTransactionsMoveTheSlot : live.port.slot = .empty ∧ live.port.deferred = none
    ∧ ({ live with port := { live.port with slot := .request [2, 7] } } : State).port.slot = .request [2, 7]
    ∧ (List.replicate 512 0x02#8 : List Byte).length ≤ 512 ∧ ([0x57#8, 0#8, 0#8] : List Byte).head? ≠ some 0x52#8 := by decide +kernel
/-- A read in progress of a result whose answer is eight octets long. -/
theorem test_SpiTransactionsMoveTheSlot_read :
    let r : Result := ⟨0x06#8, 7, .ok, .empty⟩
    let p : Port := { live.port with slot := .result r, reading := some ⟨0x02#8 :: spiResult r, true⟩ }
    p.slot = .result r ∧ p.deferred = none ∧ p.reading = some ⟨0x02#8 :: spiResult r, true⟩
    ∧ (0x02#8 :: spiResult r).length = 8 ∧ live.port.reading = none := by decide +kernel
theorem test_StatusReadsAndClears : (attnModeOf 1 = some .pulse ∧ attnModeOf 2 = none)
    ∧ (asks .mgmt (.status true (.set 0x1F 1)) live).standsNext .mgmt 7 (.status true (.set 0x1F 1))
    ∧ (asks .mgmt (.status false (.set 0 2)) live).standsNext .mgmt 7 (.status false (.set 0 2)) :=
  ⟨by decide, live_asks _ (by decide +kernel), live_asks _ (by decide +kernel)⟩
theorem test_StoreRequestsBegin : live.store.op = none ∧ live.port.deferred = none
    ∧ (asks .mgmt (.save 3) live).standsNext .mgmt 7 (.save 3) ∧ (asks .mgmt (.load 4) live).standsNext .mgmt 7 (.load 4)
    ∧ (asks .mgmt .reset live).standsNext .mgmt 7 .reset :=
  ⟨rfl, rfl, live_asks _ (by decide +kernel), live_asks _ (by decide +kernel), live_asks _ (by decide +kernel)⟩
/-- `live` with a store operation in progress on a bank. -/
def storing (k : OpKind) (tag : Option Tag) (bank : List Word32) : State :=
  { live with store := { live.store with banks := live.store.banks.set 1 bank, op := some ⟨k, 1, tag, [1, 2]⟩ } }
theorem test_SaveVerifies : (storing .save (some 7) []).store.op = some ⟨.save, 1, some 7, [1, 2]⟩ := rfl
/-- A bank that records `live`, whose definitions make way for themselves. -/
theorem test_LoadAppliesBank_defs : bankPasses (storing .load (some 7) live.bankContent.bank).store.banks[(1 : Fin 4)] = true
    ∧ (readBank live.bankContent.bank).defs.length = 4 ∧ live.givesWay false 30 1 ∧ ¬live.givesWay false 30 0
    ∧ live.givesWay true 30 0 := by
  unfold State.givesWay State.orphanedBy; decide +kernel
theorem test_LoadAppliesBank : bankPasses (storing .load (some 7) []).store.banks[(1 : Fin 4)] = false
    ∧ bankPasses (storing .load (some 7) BankContent.builtIn.bank).store.banks[(1 : Fin 4)] = true := by decide +kernel
theorem test_StartBankLoads : bankPasses (storing .startBank none BankContent.builtIn.bank).store.banks[(1 : Fin 4)] = true
    ∧ bankPasses (storing .startBank (some 7) []).store.banks[(1 : Fin 4)] = false := by decide +kernel
theorem test_HardResetSetsDefaults : State.reset.resetPin = true ∧ live.resetPin = false := by decide
theorem test_ChainTakesSettingsAndReleases :
    (asks .mgmt (.chain .keep ⟨some 1, some 601, none⟩) live).standsNext .mgmt 7 (.chain .keep ⟨some 1, some 601, none⟩)
    ∧ (asks .mgmt (.chain (.other 3) ⟨none, none, none⟩) live).standsNext .mgmt 7 (.chain (.other 3) ⟨none, none, none⟩)
    ∧ (let s : State := { live with chain := { Chain.reset with liveStart := some 1249875000, lastDelim := some 1249987500 } }
       s.chain.state = .held ∧ s.cycle - 1249987500 ≤ 12500 ∧ 125000 ≤ s.cycle - 1249875000
       ∧ (asks .mgmt (.chainRelease ⟨none, none, some true⟩) s).standsNext .mgmt 7 (.chainRelease ⟨none, none, some true⟩)) :=
  ⟨live_asks _ (by decide +kernel), live_asks _ (by decide +kernel), rfl, by decide, by decide,
   asks_stands _ _ _ rfl (by decide +kernel)⟩
theorem test_HoldTakesStationsOff : live.ownedInv ∧ live.watchInv ∧ (live.chain.state ≠ .held ∧ live.stations[(2 : Addr)].state ≠ .absent)
    ∧ (asks .mgmt (.chainHold ⟨none, none, none⟩) live).standsNext .mgmt 7 (.chainHold ⟨none, none, none⟩) :=
  ⟨by unfold State.ownedInv; decide +kernel, by unfold State.watchInv; decide +kernel, by decide +kernel, live_asks _
   (by decide +kernel)⟩

/-- HOLD in HELD, with a SILENT station whose timer has reached the new orphan time and with none. -/
theorem test_HoldTakesStationsOff_held :
    let s : State := { live with chain := { live.chain with state := .held } }
    let r : Station := { r2 with state := .silent, orphanStart := some 0 }
    let u : State := { s with stations := live.stations.set 2 r }
    s.chain.state = .held ∧ (∀ x : Addr, ¬s.orphanedBy 1 x) ∧ u.orphanedBy 10 2
    ∧ s.ownedInv ∧ s.watchInv ∧ u.ownedInv ∧ u.watchInv
    ∧ (asks .mgmt (.chainHold ⟨some 1, some 10, none⟩) u).standsNext .mgmt 7 (.chainHold ⟨some 1, some 10, none⟩) :=
  ⟨rfl, fun x h => (show ∀ x : Addr, live.stations[x].state ≠ .silent by decide +kernel) x h.1, ⟨rfl, by decide, 0, rfl, by decide⟩,
   by unfold State.ownedInv; decide +kernel, by unfold State.watchInv; decide +kernel,
   by unfold State.ownedInv; decide +kernel, by unfold State.watchInv; decide +kernel,
   asks_stands _ _ _ rfl (by decide +kernel)⟩

/-- A poll of station 3 is chosen, and the scheduled report leaves room for it or does not. -/
theorem test_ServiceFramesYieldToReports : (picked 2).chain.chosen = some 2 ∧ (picked 2).chain.step = .polls
    ∧ (picked 2).stations[(2 : Addr)].state = .present ∧ (picked 2).lineFree = true
    ∧ (picked 2).holdsReport 2 = some 10039899500
    ∧ ((picked 2).now + 40 * frameBits .poll 2 ((picked 2).serviceBody .poll 2) : Nat) + 1000 ≤ (10039899500 : Int) - 360
    ∧ (let s : State := { picked 2 with stations := live.stations.set 2 { r2 with stream := some { st0 with s0 := some 10000000361 } } }
       s.holdsReport 2 = some 10000000361 ∧ ((s.now + 40 * 32 : Nat) + 1000 : Int) > 10000000361 - 360) := by decide +kernel
/-- Chosen addressees that no longer qualify, one for each step. -/
theorem test_ServiceFramesYieldToReports_passed : (picked 3).stations[(3 : Addr)].state = .absent
    ∧ (let s : State := { picked 2 with chain := { (picked 2).chain with step := .discover } }
       s.chain.chosen = some 2 ∧ s.stations[(2 : Addr)].state ≠ .absent ∧ s.stations[(2 : Addr)].rangeDue = false) := by
  decide +kernel
theorem test_ServiceFramesYieldToReports_choice : live.chain.chosen = none ∧ live.chain.state = .running ∧ live.chain.svc = none
    ∧ live.nextTurn = some ⟨.poll, 2, .polls, 2⟩
    ∧ ({ live with stations := Vector.replicate 30 { Station.cleared with state := .conflict } } : State).nextTurn = none := by
  decide +kernel
theorem test_ServiceFramesYieldToReports_discover :
    let s : State := { live with chain := { live.chain with step := .discover, pointer := 2 } }
    s.stations[(3 : Addr)].state = .absent ∧ (2 + 1) % 30 = 3 ∧ s.stations[(2 : Addr)].state ≠ .absent
    ∧ s.nextTurn = some ⟨.discover, 3, .discover, 0⟩ := by decide +kernel
theorem test_ServiceFramesYieldToReports_range :
    let s : State := { live with
      chain := { live.chain with step := .range }
      stations := live.stations.set 2 { r2 with rangeDue := true, dueSince := some 5 } }
    s.stations[(2 : Addr)].rangeable = true ∧ (∀ y : Addr, s.stations[y].rangeable = true → y = 2)
    ∧ s.nextTurn = some ⟨.range, 2, .range, 0⟩ := by decide +kernel
/-- `live` with a service frame answered by `bits`, whose last bit is still to come, when `inside` a window. -/
def awaiting (k : FrameKind) (a : Addr) (inside : Bool) (bits : List Bool) : State :=
  { live with chain := { live.chain with
      svc := some ⟨k, a, none, none, some ⟨1249999000, 9999992000, 2500, none⟩⟩
      rx := { bits.dropLast.foldl (fun v b => (Receiver.bit v b).1) Receiver.reset with inWindow := inside, arrival := 9999993280 } } }
theorem test_AnswersSettle_joins : ((awaiting .discover 4 true (lineOf 5 0x63 [])).chain.rx.bit false).2 = .delimiter (.valid 4 .echo [])
    ∧ live.stations[(4 : Addr)].state = .absent := by decide +kernel
theorem test_AnswersSettle_garbled : ((awaiting .discover 4 true (delimiter ++ List.replicate 40 false ++ delimiter)).chain.rx.bit false).2
    = .delimiter .check := by decide +kernel
theorem test_AnswersSettle_polled : ((awaiting .poll 2 true (lineOf 3 0x61 [6, 7])).chain.rx.bit false).2 = .delimiter (.valid 2 .request [6, 7])
    ∧ ((awaiting .poll 2 false (lineOf 3 0x62 [])).chain.rx.bit false).2 = .delimiter (.valid 2 .empty [])
    ∧ live.stations[(2 : Addr)].state = .present ∧ live.stations[(2 : Addr)].slot = .empty := by decide +kernel
/-- Answers of stations that are ABSENT and in CONFLICT by then. -/
theorem test_AnswersSettle_gone :
    let s : State := awaiting .range 4 true (lineOf 5 0x63 [])
    ((awaiting .poll 4 true (lineOf 5 0x62 [])).chain.rx.bit false).2 = .delimiter (.valid 4 .empty [])
    ∧ (s.chain.rx.bit false).2 = .delimiter (.valid 4 .echo []) ∧ live.stations[(4 : Addr)].state = .absent
    ∧ ({ s with stations := s.stations.set 4 { Station.cleared with state := .conflict } } : State).stations[(4 : Addr)].state
        = .conflict := by decide +kernel
theorem test_AnswersSettle_ranged : ((awaiting .range 2 true (lineOf 3 0x63 [])).chain.rx.bit false).2 = .delimiter (.valid 2 .echo [])
    ∧ (9999992000 : Nat) + 1280 ≤ (awaiting .range 2 true []).chain.rx.arrival := by decide +kernel
/-- The valid range of a JOINING station that streams. -/
theorem test_AnswersSettle_ranged_joining :
    let s : State := { awaiting .range 2 true (lineOf 3 0x63 []) with stations := live.stations.set 2 { r2 with state := .joining } }
    s.stations[(2 : Addr)].state = .joining ∧ s.stations[(2 : Addr)].stream = some st0 := by decide +kernel
theorem test_AnswersSettle_missed : ((awaiting .poll 2 true (delimiter ++ [true] ++ delimiter)).chain.rx.bit false).2 = .delimiter .short
    ∧ (let s : State := { awaiting .poll 2 false [] with cycle := 1250001500 }
       1249999000 + 2500 ≤ s.cycle ∧ s.chain.rx.inWindow = false) := by decide +kernel
/-- Station 3, SILENT, answers a POLL that carried a final segment and a refusal. -/
theorem test_AnswersSettle_returns :
    let s := awaiting .poll 2 true (lineOf 3 0x61 [6, 7])
    let back : State := { s with
      stations := s.stations.set 2 { r2 with state := .silent, slot := .result ⟨0x06#8, 7, .ok, .empty⟩, owed := some 9 }
      chain := { s.chain with svc := some ⟨.poll, 2, some (0, true), some 9, some ⟨1249999000, 9999992000, 2500, none⟩⟩ } }
    back.stations[(2 : Addr)].state = .silent ∧ (back.chain.rx.bit false).2 = .delimiter (.valid 2 .request [6, 7]) := by
  decide +kernel
/-- A ninth 1, a 53rd octet, and a delimiter behind fill. -/
theorem test_AnswersSettle_bits :
    (({ Receiver.reset with mode := .content, ones := 8 } : Receiver).bit true).2 = .aborted
    ∧ (({ Receiver.reset with mode := .content, bits := List.replicate 423 false } : Receiver).bit false).2 = .overlong
    ∧ ((awaiting .poll 2 true (delimiter ++ delimiter)).chain.rx.bit false).2 = .delimiter .fill := by decide +kernel
/-- A POLL on the line whose last bit departs now. -/
theorem test_AnswersSettle_opens :
    let f : TxFrame := { kind := .poll, addr := 2, body := [], startCycle := 1249999745, startTime := 0, bits := 52, mark := 0, live := false }
    let s : State := { live with chain := { live.chain with tx := some f, svc := some ⟨.poll, 2, none, none, none⟩ } }
    s.chain.tx = some f ∧ f.startCycle + 5 * (f.bits - 1) ≤ s.cycle := by decide +kernel
/-- Station 3's report at its scheduled start: a countdown of 2,000 ns is sent, one of 1,999 ns is dropped. -/
theorem test_ReportsStartAndEnd :
    let at' (t : Nat) : State := { live with tb := ⟨10, t, 0⟩ }
    live.holdsReport 2 = some 10039899500 ∧ 1 ≤ st0.step ∧ (e0.foreseen 251 : Int) = 10040000000
    ∧ e0.foreseen 251 - ((at' 39997140).now + 360) - 500 = 2000 ∧ e0.foreseen 251 - ((at' 39997141).now + 360) - 500 = 1999
    ∧ (10039899500 : Int) - 360 ≤ (at' 39997140).now := by decide +kernel
/-- R154: a report that has waited past its mark 251, the last one and one before the last, while the entry slews. -/
theorem test_ReportsStartAndEnd_waited :
    let e : Entry := { e0 with motion := .slewing, eps := -600, kl := some 251, lm := some 10039998400 }
    let f : Entry := { e with kl := some 252, lm := some 10079999000 }
    st0.kr = some 251 ∧ 251 < e.nextMark ∧ e.kl = some 251 ∧ e.reportInstant 251 = 10039998400 ∧ e.foreseen 251 = 10039999400
    ∧ 251 < f.nextMark ∧ f.kl ≠ some 251 ∧ f.reportInstant 251 ≤ 10079999000 := by decide +kernel
/-- R156: a SET of s leaves the A(251) of a report that has waited past its mark, and so its kr and S0. -/
theorem test_late_report_stands :
    let e : Entry := { e0 with motion := .slewing, eps := -600, kl := some 251, lm := some 10039998400 }
    st0.replan (.recompute e) { e with slew := 5 } (some 500) 10040000000 = st0
    ∧ (st0.replan .snapped { e with motion := .running, eps := 0 } (some 500) 10040000000).kr = some 252 := by decide +kernel
/-- R153, R156: a restart at 2000/1 raises the step to 2, and marks 20,002 to 20,020 can no longer leave 10 ms ahead: ten even
marks passed over, 20,022 chosen, on a SUSPENDED stream too. -/
theorem test_restart_counts_suspended :
    let st : Stream := { st0 with lead := 10000000, state := .suspended, skipped := 3 }
    let v := st.replan .restarted (e0.restart 2000 1 10000000000 Civil.reset) (some 500) 10000000000
    v.step = 2 ∧ v.kr = some 20022 ∧ v.s0 = some 10000999500 ∧ v.skipped = 13 := by decide +kernel
/-- R155: the mark due of entry 0 counts as skipped on the suspended stream of station 3. -/
theorem test_MarksAndEndsFallDue_suspended :
    let s : State := { live with stations := live.stations.set 2 { r2 with stream := some { st0 with state := .suspended } } }
    s.entries[(0 : Idx)].nextMark = 250 ∧ (s.markDue 0).stations[(2 : Addr)].stream.map (·.skipped) = some 1 := by decide +kernel
/-- R58: with J = 5 the most recent daily jam at 10 s is second 5, and not the origin. -/
theorem test_CivilTakesSettings_first_day :
    (live.setCivil 0 5).civil.tB = 5 ∧ (live.setCivil 0 5).civil.tn = 86405 ∧ (live.setCivil 0 11).civil.tB = 0 := by decide +kernel
theorem test_ReportsStartAndEnd_closed :
    let f : TxFrame := { kind := .report, addr := 2, body := [], startCycle := 1249999000, startTime := 0, bits := 200, mark := 251, live := false }
    let s : State := { live with chain := { live.chain with tx := some f } }
    s.resetPin = false ∧ s.chain.tx = some f ∧ f.startCycle + 5 * f.bits ≤ s.cycle := by decide
theorem test_ReportsStartAndEnd_sent :
    let f : TxFrame := { kind := .report, addr := 2, body := [], startCycle := 1249999000, startTime := 0, bits := 200, mark := 251, live := true }
    f.startCycle + 5 * f.bits ≤ live.cycle ∧ live.stations[(2 : Addr)].stream = some st0 := by decide +kernel
/-- Each timer just at its end. -/
theorem test_TimersRunOut : ({ live with chain := { live.chain with silenceStart := 1249875000 } } : State).cycle = 1249875000 + 125000
    ∧ (live.cycle - 7500000000 = 0) ∧ (1000000000 : Nat) + 250000000 ≤ live.cycle ∧ (1125000000 : Nat) + 125000000 ≤ live.cycle
    ∧ ({ live with attn := { live.attn with pulse := some 1249999875 } } : State).attn.pulse = some (live.cycle - 125) := by
  decide +kernel
/-- Station 3 SILENT with its stream suspended. -/
def silentStation : Station :=
  { r2 with
    state := .silent, orphanStart := some 3750000000
    stream := some { st0 with state := .suspended, holdStart := some 7250000000 } }
theorem test_TimersRunOut_causes : ¬live.shows .store ∧ live.attn.mask.has .store = true
    ∧ (live.raise .store).shows .store := by unfold State.shows; decide +kernel
theorem test_TimersRunOut_stations :
    let s : State := { live with
      cycle := 7500000000,
      stations := ((live.stations.set 2 silentStation).set 4
                    { Station.cleared with state := .conflict, conflictStart := some 0 }).set 6
                    { Station.cleared with state := .present, delta := some 1, reRangeStart := some 7375000000 } }
    s.stations[(2 : Addr)].state = .silent ∧ 3750000000 + s.chain.orphan * 125000000 ≤ s.cycle
    ∧ s.stations[(4 : Addr)].conflictStart = some 0 ∧ 0 + 7500000000 ≤ s.cycle ∧ 7250000000 + 250000000 ≤ s.cycle
    ∧ s.stations[(6 : Addr)].reRangeStart = some 7375000000 ∧ 7375000000 + 125000000 ≤ s.cycle := by decide +kernel
theorem test_TimersRunOut_live :
    let s : State := { live with chain := { live.chain with state := .broken, liveStart := some 1249875000, lastDelim := some 1249987500 } }
    s.chain.state = .broken ∧ s.cycle ≤ 1249987500 + 12500 ∧ 1249875000 + 125000 ≤ s.cycle := by decide
/-- Silence with a POLL on the line, and silence of a HELD chain. -/
theorem test_TimersRunOut_silence :
    let f : TxFrame := { kind := .poll, addr := 2, body := [], startCycle := 1249999900, startTime := 0, bits := 52, mark := 0, live := false }
    let s : State := { live with chain := { live.chain with silenceStart := 1249875000, tx := some f } }
    s.chain.silenceStart + 125000 ≤ s.cycle ∧ s.chain.tx = some f ∧ f.startCycle ≤ s.cycle
    ∧ (let t : State := { live with chain := { live.chain with state := .held, silenceStart := 1249875000, liveStart := some 5 } }
       t.chain.state ≠ .running ∧ t.chain.silenceStart + 125000 ≤ t.cycle) := by decide
/-- R124, R125: silence in the last bit of a POLL, three cycles before its end: its 0, nine 1s, and fill. -/
theorem test_TimersRunOut_lastBit :
    let s : State := { live with chain := { live.chain with silenceStart := 1249875000, lineBase := 1250000003 } }
    let high (n : Nat) : Bool := State.ctxHigh { s.silenceExpire with cycle := 1250000000 + n }
    s.chain.tx = none ∧ s.chain.cut = none ∧ s.cycle < s.chain.lineBase ∧ s.chain.lineBase ≤ s.cycle + 5
    ∧ high 2 = false ∧ high 3 = true ∧ high 47 = true ∧ high 48 = false ∧ high 53 = true := by decide +kernel
theorem test_DropLabelsSkipNumbers : 0 < 25 ∧ labelsPerSecond 25 1 = 25 ∧ dropCount 30000 1001 = some 2 ∧ dropCount 60000 1001 = some 4 := by decide

end Sys2Proof.Machine.Tests
end

/-! PROOFS. The short requests of the cadence table: NOTICES (R27), RETIRE without an end instant (R18), WATCH and UNWATCH
(R22, R23). -/

namespace Sys2Proof.Machine

open Sys2Proof Config

section

variable {s s2 : State} {l : Link} {t : Tag} {h : Handle} {i : Idx} {st : Status} {b : Body}

/-! ## The handle check (R3) -/

theorem checkHandle_badField (hi : 63 < h.index) : checkHandle s h = .error .badField := by
  have hn : ¬h.index < 64 := by omega
  simp [checkHandle, hn]

theorem checkHandle_stale (hi : i.val = h.index) (hg : s.entries[i].gen ≠ h.gen) : checkHandle s h = .error .stale := by
  simp only [Fin.getElem_fin, hi] at hg
  have hlt : h.index < 64 := hi ▸ i.isLt
  simp [checkHandle, hlt, hg]

theorem checkHandle_notFound (hi : i.val = h.index) (hg : s.entries[i].gen = h.gen) (hv : s.entries[i].state = .vacant) :
    checkHandle s h = .error .notFound := by
  simp only [Fin.getElem_fin, hi] at hg hv
  have hlt : h.index < 64 := hi ▸ i.isLt
  simp [checkHandle, hlt, hg, hv]

/-! ## NOTICES -/

theorem exec_notices (hs : s.standsNext l t .notices) (hr : noticesReply l s = (s2, some (st, b))) :
    exec (.notices l t) s = .next (s2.reply l t .notices st b) :=
  congrArg Host.Outcome.next (State.serve_reply hs hr)

theorem State.noticesInv.noticesOf_ascending (hs : s.noticesInv) (l : Link) : (s.noticesOf l).Pairwise (· < ·) := by
  obtain ⟨hm, hx⟩ := hs
  cases l with
  | mgmt => exact hm
  | station x => exact hx x

/-- R8: ENTRIES leaves the causes exactly when the management notice set is empty, and nothing else changes. -/
theorem State.settleEntries_eq (s : State) :
    s.settleEntries = { s with attn :=
      if s.mgmtNotices = [] then { s.attn with causes := { s.attn.causes with entries := false } } else s.attn } := by
  unfold State.settleEntries
  split <;> rfl

@[simp] theorem State.noticesOf_leaveNotices_same (l : Link) (rest : List Idx) (s : State) :
    (s.leaveNotices l rest).noticesOf l = rest := by
  cases l with
  | mgmt => simp [State.leaveNotices, State.noticesOf, State.settleEntries_eq]
  | station x => simp [State.leaveNotices, State.noticesOf]

theorem State.noticesOf_leaveNotices_ne {l m : Link} (hm : m ≠ l) (rest : List Idx) (s : State) :
    (s.leaveNotices l rest).noticesOf m = s.noticesOf m := by
  cases l with
  | mgmt =>
    cases m with
    | mgmt => exact absurd rfl hm
    | station y => simp [State.leaveNotices, State.noticesOf, State.settleEntries_eq]
  | station x =>
    cases m with
    | mgmt => simp [State.leaveNotices, State.noticesOf]
    | station y =>
      have hyx : y ≠ x := fun e => hm (e ▸ rfl)
      simp [State.leaveNotices, State.noticesOf, State.setStation_ne _ _ _ _ hyx]

/-- R27: of a station's record the read changes its notice set alone. -/
theorem State.leaveNotices_stations_at (l : Link) (rest : List Idx) (s : State) (x : Addr) :
    (s.leaveNotices l rest).stations[x]
      = { s.stations[x] with notices := (s.leaveNotices l rest).noticesOf (.station x) } := by
  cases l with
  | mgmt => simp [State.leaveNotices, State.noticesOf, State.settleEntries_eq]
  | station y =>
    by_cases hxy : x = y
    · subst hxy
      simp [State.leaveNotices, State.noticesOf]
    · simp [State.leaveNotices, State.noticesOf, State.setStation_ne _ _ _ _ hxy]

theorem State.leaveNotices_attn (l : Link) (rest : List Idx) (s : State) :
    (s.leaveNotices l rest).attn =
      if l = .mgmt ∧ (s.leaveNotices l rest).mgmtNotices = [] then
        { s.attn with causes := { s.attn.causes with entries := false } } else s.attn := by
  cases l with
  | mgmt => simp [State.leaveNotices, State.settleEntries_eq]
  | station x => simp [State.leaveNotices]

theorem State.leaveNotices_sameBut (l : Link) (rest : List Idx) (s : State) :
    s.sameBut [.mgmtNotices, .stations, .attn] (s.leaveNotices l rest) := by
  intro p hp
  cases l with
  | mgmt =>
    rw [State.leaveNotices, State.settleEntries_eq]
    cases p <;> simp [State.samePart] at hp ⊢
  | station x => cases p <;> simp [State.leaveNotices, State.samePart] at hp ⊢

/-! ## RETIRE -/

theorem exec_retire (hs : s.standsNext l t (.retire h)) (hr : retireReply l h s = (s2, some (st, b))) :
    exec (.retire l t h) s = .next (s2.reply l t (.retire h) st b) :=
  congrArg Host.Outcome.next (State.serve_reply hs hr)

/-- R163: the management owner has authority over every entry, any other link over its own. -/
theorem authority_iff (l : Link) (e : Entry) : authority l e = true ↔ l = .mgmt ∨ e.owner = l := by
  simp [authority, @eq_comm _ l e.owner]

theorem retireReply_permitted (hc : checkHandle s h = .ok i) (ha : authority l s.entries[i] = true) :
    retireReply l h s = (s.retire i, some (.ok, .empty)) := by
  rw [retireReply, onEntry_ok hc, withAuthority_ok ha]

theorem retireReply_refused (hc : checkHandle s h = .ok i) (ha : authority l s.entries[i] = false) :
    retireReply l h s = (s, some (.notOwner, .empty)) := by
  rw [retireReply, onEntry_ok hc, withAuthority_refused ha]

/-! ## WATCH, UNWATCH -/

theorem exec_watch (hs : s.standsNext l t (.watch h)) (hr : onEntry h (watchEntry l) s = (s2, some (st, b))) :
    exec (.watch l t h) s = .next (s2.reply l t (.watch h) st b) :=
  congrArg Host.Outcome.next (State.serve_reply hs hr)

theorem exec_unwatch (hs : s.standsNext l t (.unwatch h)) (hr : onEntry h (unwatchEntry l) s = (s2, some (st, b))) :
    exec (.unwatch l t h) s = .next (s2.reply l t (.unwatch h) st b) :=
  congrArg Host.Outcome.next (State.serve_reply hs hr)

section Passed

variable {x : Addr} (hc : checkHandle s h = .ok i)
include hc

theorem exec_watch_mgmt (hs : s.standsNext .mgmt t (.watch h)) :
    exec (.watch .mgmt t h) s
      = .next ((s.setEntry i { s.entries[i] with mgmtWatch := true }).reply .mgmt t (.watch h) .ok .empty) :=
  exec_watch hs (onEntry_ok hc _)

theorem exec_unwatch_mgmt (hs : s.standsNext .mgmt t (.unwatch h)) :
    exec (.unwatch .mgmt t h) s
      = .next ((s.setEntry i { s.entries[i] with mgmtWatch := false }).reply .mgmt t (.unwatch h) .ok .empty) :=
  exec_unwatch hs (onEntry_ok hc _)

theorem exec_watch_watching (hs : s.standsNext (.station x) t (.watch h)) (hw : x ∈ s.entries[i].watchers) :
    exec (.watch (.station x) t h) s = .next (s.reply (.station x) t (.watch h) .ok .empty) := by
  refine exec_watch hs ((onEntry_ok hc _).trans ?_)
  simp only [watchEntry, hw, if_true]

theorem exec_watch_full (hs : s.standsNext (.station x) t (.watch h)) (hw : x ∉ s.entries[i].watchers)
    (hf : 8 ≤ s.entries[i].watchers.length ∨ 8 ≤ s.stations[x].watchList.length) :
    exec (.watch (.station x) t h) s = .next (s.reply (.station x) t (.watch h) .full .empty) := by
  refine exec_watch hs ((onEntry_ok hc _).trans ?_)
  simp only [watchEntry, hw, hf, if_false, if_true, refuse]

theorem exec_watch_appends (hs : s.standsNext (.station x) t (.watch h)) (hw : x ∉ s.entries[i].watchers)
    (hf : ¬(8 ≤ s.entries[i].watchers.length ∨ 8 ≤ s.stations[x].watchList.length)) :
    exec (.watch (.station x) t h) s = .next (State.reply
      ((s.setEntry i { s.entries[i] with watchers := s.entries[i].watchers ++ [x] }).setStation x
        { s.stations[x] with watchList := s.stations[x].watchList ++ [i] }) (.station x) t (.watch h) .ok .empty) := by
  refine exec_watch hs ((onEntry_ok hc _).trans ?_)
  simp only [watchEntry, hw, hf, if_false]

theorem exec_unwatch_watching (hs : s.standsNext (.station x) t (.unwatch h)) (hw : x ∈ s.entries[i].watchers) :
    exec (.unwatch (.station x) t h) s = .next (State.reply
      ((s.setEntry i { s.entries[i] with watchers := s.entries[i].watchers.erase x }).setStation x
        { s.stations[x] with watchList := s.stations[x].watchList.erase i }) (.station x) t (.unwatch h) .ok .empty) := by
  refine exec_unwatch hs ((onEntry_ok hc _).trans ?_)
  simp only [unwatchEntry, hw, if_true]

theorem exec_unwatch_not_watching (hs : s.standsNext (.station x) t (.unwatch h)) (hw : x ∉ s.entries[i].watchers) :
    exec (.unwatch (.station x) t h) s = .next (s.reply (.station x) t (.unwatch h) .ok .empty) := by
  refine exec_unwatch hs ((onEntry_ok hc _).trans ?_)
  simp only [unwatchEntry, hw, if_false]

end Passed

end

/-! ## The statements -/

/-- Settles O18: the ascending set splits at its twelfth member into what is taken and what is left. -/
theorem noticesReadTakesTwelve : Obligations.NoticesReadTakesTwelve := by
  intro s l t hinv hs
  have hsplit : (s.noticesOf l).take 12 ++ (s.noticesOf l).drop 12 = s.noticesOf l := List.take_append_drop ..
  have hasc := hinv.noticesOf_ascending l
  rw [← hsplit, List.pairwise_append] at hasc
  obtain ⟨htaken, -, hbelow⟩ := hasc
  refine ⟨s.leaveNotices l ((s.noticesOf l).drop 12), (s.noticesOf l).take 12, ?_, ?_, ?_, ?_, htaken, ?_,
    fun m hm => State.noticesOf_leaveNotices_ne hm _ s, State.leaveNotices_stations_at l _ s,
    State.leaveNotices_attn l _ s, State.leaveNotices_sameBut l _ s⟩
  · rw [State.noticesOf_leaveNotices_same]
    exact exec_notices hs rfl
  · rw [State.noticesOf_leaveNotices_same, hsplit]
  · exact List.length_take_le ..
  · intro hlen
    rw [State.noticesOf_leaveNotices_same, List.drop_eq_nil_iff]
    rw [List.length_take] at hlen
    omega
  · rwa [State.noticesOf_leaveNotices_same]

/-- Settles O26: the handle check passes, and the authority check (R163) decides between the two answers. -/
theorem retireActsAtOnce : Obligations.RetireActsAtOnce := by
  intro s l t h i hi hg hv hs
  have hc : checkHandle s h = .ok i := (checkHandle_ok_iff h i).2 ⟨hi, hg, hv⟩
  rw [← authority_iff, Bool.not_eq_true]
  exact ⟨fun ha => exec_retire hs (retireReply_permitted hc ha), fun ha => exec_retire hs (retireReply_refused hc ha)⟩

/-- Settles O30: a failed handle check refuses both requests; past it, whether the station watches already, and whether one
of the two lists is full, decide between the answers. -/
theorem watchAndUnwatchTieBothSides : Obligations.WatchAndUnwatchTieBothSides := by
  refine ⟨fun s t l h st hf => ?_, fun s t h i hi hg hv => ?_⟩
  · have hc : checkHandle s h = .error st := by
      obtain ⟨hi, rfl⟩ | ⟨⟨i, hi, hg⟩, rfl⟩ | ⟨⟨i, hi, hg, hv⟩, rfl⟩ := hf
      · exact checkHandle_badField hi
      · exact checkHandle_stale hi hg
      · exact checkHandle_notFound hi hg hv
    exact ⟨fun hs => exec_watch hs (onEntry_error hc _), fun hs => exec_unwatch hs (onEntry_error hc _)⟩
  · have hc : checkHandle s h = .ok i := (checkHandle_ok_iff h i).2 ⟨hi, hg, hv⟩
    refine ⟨exec_watch_mgmt hc, fun x hs => ?_, exec_unwatch_mgmt hc, fun x hs => ?_⟩
    · split
      case isTrue hw => exact exec_watch_watching hc hs hw
      case isFalse hw =>
        split
        case isTrue hfull => exact exec_watch_full hc hs hw hfull
        case isFalse hfull => exact exec_watch_appends hc hs hw hfull
    · split
      case isTrue hw => exact exec_unwatch_watching hc hs hw
      case isFalse hw => exact exec_unwatch_not_watching hc hs hw

end Sys2Proof.Machine

/-! PROOFS. Strobe edges (R79, R80). -/

namespace Sys2Proof.Machine

open Sys2Proof Config

section

variable {s : State} {p : Fin 8}

/-! ## Events and the RESET pin (log entry 2) -/

theorem State.whenReleased_deasserted (hr : s.resetPin = false) (f : State → State) : s.whenReleased f = f s := by
  simp [State.whenReleased, hr]

theorem State.whenReleased_asserted (hr : s.resetPin = true) (f : State → State) : s.whenReleased f = s := by
  simp [State.whenReleased, hr]

/-! ## The glitch window (R79) -/

theorem State.edgeAccepted_iff : s.edgeAccepted = true ↔ ∀ c, s.lastEdge = some c → c + 12500 ≤ s.cycle := by
  unfold State.edgeAccepted
  cases s.lastEdge with
  | none => simp
  | some c =>
    simp only [decide_eq_true_eq, Option.some.injEq, forall_eq', glitchWindow]
    omega

/-! ## The three outcomes of an edge -/

theorem exec_strobeEdge_accepted (hr : s.resetPin = false) (ha : s.edgeAccepted = true) :
    exec (.strobeEdge p) s = .next (s.fileEdge p) :=
  congrArg Host.Outcome.next ((State.whenReleased_deasserted hr _).trans (if_pos ha))

theorem exec_strobeEdge_glitch (hr : s.resetPin = false) (ha : ¬s.edgeAccepted = true) :
    exec (.strobeEdge p) s
      = .next (s.countServo fun c => { c with glitches := satAdd counterTop c.glitches 1 }) :=
  congrArg Host.Outcome.next ((State.whenReleased_deasserted hr _).trans (if_neg ha))

theorem exec_strobeEdge_asserted (hr : s.resetPin = true) : exec (.strobeEdge p) s = .next s :=
  congrArg Host.Outcome.next (State.whenReleased_asserted hr _)

end

/-! ## The statement -/

/-- Settles O40: the RESET pin and the glitch window decide between the three outcomes of an edge. -/
theorem strobeEdgeIsFiled : Obligations.StrobeEdgeIsFiled := by
  intro s p
  refine ⟨fun hr hfar => ?accepted, fun hr c hc hnear => ?glitch, exec_strobeEdge_asserted⟩
  case accepted => exact ⟨slotNo s.nextSeq, rfl, exec_strobeEdge_accepted hr (State.edgeAccepted_iff.2 hfar)⟩
  case glitch =>
    refine exec_strobeEdge_glitch hr fun ha => ?_
    have hfar : c + 12500 ≤ s.cycle := State.edgeAccepted_iff.1 ha c hc
    omega

end Sys2Proof.Machine

/-! PROOFS. An accepted sample in FREE (R93), and what a timebase step (R77) neither reads nor moves. -/

namespace Sys2Proof.Machine

open Sys2Proof Config

/-! ## What a timebase step neither reads nor moves (R77)

Of the parts that `State.withAside` takes from another state, a step reads only the slew range and moves only the capture
slots. Each operation under the step therefore commutes with `withAside`: the step reaches the rest the same whatever these
parts hold, and leaves them as they stood. -/

/-- `s` with the parts that a timebase step passes by taken from `u`. -/
def State.withAside (s u : State) : State :=
  { s with
    readings := u.readings, resetPin := u.resetPin, inhibit := u.inhibit, lastEdge := u.lastEdge, slots := u.slots
    latest := u.latest, servo := u.servo, arrivals := u.arrivals, port := u.port, store := u.store, pending := u.pending }

/-- R77 step 2: the FILLED capture slots are VOID. -/
def State.voidSlots (s : State) : State :=
  { s with slots := Vector.ofFn fun k =>
      if s.slots[k].state = .filled then { s.slots[k] with state := .void } else s.slots[k] }

section

variable {s u : State} {i : Idx}

@[simp] theorem State.withAside_entries : (s.withAside u).entries = s.entries := rfl
@[simp] theorem State.withAside_servo : (s.withAside u).servo = u.servo := rfl

theorem State.ite_withAside (c : Prop) [Decidable c] (a b : State) :
    (if c then a else b).withAside u = if c then a.withAside u else b.withAside u :=
  apply_ite (·.withAside u) c a b

@[simp] theorem State.raise_withAside (c : Cause) : (s.withAside u).raise c = (s.raise c).withAside u := by
  unfold State.raise
  rw [State.ite_withAside]
  rfl

@[simp] theorem State.noteManagement_withAside : (s.withAside u).noteManagement i = (s.noteManagement i).withAside u := by
  unfold State.noteManagement
  rw [State.ite_withAside, ← State.raise_withAside]
  rfl

@[simp] theorem State.notify_withAside : (s.withAside u).notify i = (s.notify i).withAside u := by
  unfold State.notify
  rw [State.ite_withAside, ← State.noteManagement_withAside]
  rfl

@[simp] theorem State.setEntry_withAside (e : Entry) : (s.withAside u).setEntry i e = (s.setEntry i e).withAside u := rfl
@[simp] theorem State.shiftPulses_withAside (d t : Int) :
    (s.withAside u).shiftPulses i d t = (s.shiftPulses i d t).withAside u := rfl
@[simp] theorem State.stopPulses_withAside : (s.withAside u).stopPulses i = (s.stopPulses i).withAside u := rfl
@[simp] theorem State.dropBindings_withAside : (s.withAside u).dropBindings i = (s.dropBindings i).withAside u := rfl
@[simp] theorem State.replan_withAside (how : Replan) (t : Int) :
    (s.withAside u).replan i how t = (s.replan i how t).withAside u := rfl
@[simp] theorem State.untie_withAside : (s.withAside u).untie i = (s.untie i).withAside u := rfl

@[simp] theorem State.closeStreamsOn_withAside :
    (s.withAside u).closeStreamsOn i = (s.closeStreamsOn i).withAside u := by
  have htx : (s.withAside u).chain = s.chain := rfl
  simp only [State.closeStreamsOn, htx]
  cases s.chain.tx with
  | none => rfl
  | some f => simp only [State.ite_withAside]; rfl

@[simp] theorem State.disown_withAside (l : Link) : (s.withAside u).disown l = (s.disown l).withAside u := by
  cases l <;> rfl

@[simp] theorem State.retire_withAside : (s.withAside u).retire i = (s.retire i).withAside u := by
  simp [State.retire, State.ite_withAside]

@[simp] theorem State.endCheck_withAside : (s.withAside u).endCheck i = (s.endCheck i).withAside u := by
  have hnow : (s.withAside u).now = s.now := rfl
  simp only [State.endCheck, State.withAside_entries, hnow]
  split
  next x hstate hend => simp [hstate, hend, State.ite_withAside, -Fin.getElem_fin]
  next => rfl

@[simp] theorem State.snap_withAside (d r : Int) : (s.withAside u).snap i d r = (s.snap i d r).withAside u := by
  by_cases hp : (s.entries[i].snapped r).motion = .pending <;> simp [State.snap, hp, -Fin.getElem_fin]

@[simp] theorem State.rebase_withAside (old : Civil) (t : Nat) :
    (s.withAside u).rebase old t = (s.rebase old t).withAside u := by
  unfold State.rebase
  rw [State.ite_withAside]
  rfl

@[simp] theorem State.stepLabels_withAside (t : Nat) : (s.withAside u).stepLabels t = (s.stepLabels t).withAside u := by
  unfold State.stepLabels
  rw [← State.rebase_withAside]
  rfl

@[simp] theorem State.voidSlots_servo : s.voidSlots.servo = s.servo := rfl

@[simp] theorem State.voidSlots_voidSlots : s.voidSlots.voidSlots = s.voidSlots := by
  have hslots : s.voidSlots.voidSlots.slots = s.voidSlots.slots := by
    ext k hk : 1
    by_cases hf : s.slots[k].state = .filled <;> simp [State.voidSlots, hf]
  exact congrArg (fun v => { s with slots := v }) hslots

variable (hr : u.servo.params.slewRange = s.servo.params.slewRange)
include hr

theorem State.moveOffset_withAside (old : Entry) (a b c r : Int) :
    (s.withAside u).moveOffset i old a b c r = (s.moveOffset i old a b c r).withAside u := by
  simp [State.moveOffset, State.ite_withAside, hr]

theorem State.stepEntry_withAside (th : Int) (t : Nat) :
    (s.withAside u).stepEntry th t i = (s.stepEntry th t i).withAside u := by
  by_cases hp : s.entries[i].motion = .pending
  case pos => simp [State.stepEntry, State.ite_withAside, hp, -Fin.getElem_fin]
  case neg =>
    have hmove (e : Entry) : u.servo.params.slewRange = (s.setEntry i e).servo.params.slewRange := hr
    simp [State.stepEntry, State.ite_withAside, hp, State.moveOffset_withAside (hmove _), -Fin.getElem_fin]

theorem State.foldl_stepEntry_withAside (th : Int) (t : Nat) (l : List Idx) :
    l.foldl (State.stepEntry th t) (s.withAside u) = (l.foldl (State.stepEntry th t) s).withAside u := by
  induction l generalizing s with
  | nil => rfl
  | cons i l ih => rw [List.foldl_cons, State.stepEntry_withAside hr, ih (by simpa using hr), List.foldl_cons]

theorem State.stepEffects_withAside (th : Int) (t : Nat) :
    (s.withAside u).stepEffects th t = (s.stepEffects th t).withAside u.voidSlots := by
  unfold State.stepEffects
  rw [← State.stepLabels_withAside, ← State.foldl_stepEntry_withAside (by simpa using hr)]
  rfl

theorem State.wrap_withAside : (s.withAside u).wrap = s.wrap.withAside u.voidSlots := by
  unfold State.wrap
  rw [← State.stepEffects_withAside (by simpa using hr)]
  rfl

/-- R77: a step reads no part but the slew range of those in `withAside`, and of them it moves the capture slots alone. -/
theorem State.applyStep_withAside (th : Int) :
    (s.withAside u).applyStep th = (s.applyStep th).withAside u.voidSlots := by
  have heffects (t : Nat) : ((s.withAside u).setTime t).stepEffects th t
      = ((s.setTime t).stepEffects th t).withAside u.voidSlots :=
    State.stepEffects_withAside (s := s.setTime t) hr th t
  have hwrap (t : Nat) : (((s.setTime t).stepEffects th t).withAside u.voidSlots).wrap
      = ((s.setTime t).stepEffects th t).wrap.withAside u.voidSlots := by
    rw [State.wrap_withAside (by simpa using hr), State.voidSlots_voidSlots]
  have htarget : (s.withAside u).stepTarget th = s.stepTarget th := rfl
  simp only [State.applyStep, State.ite_withAside, htarget, heffects, hwrap]

end

section

variable {s : State} {th : Int}

/-! ## Frames -/

theorem State.sameBut.mono {s2 : State} {a b : List Part} (h : s.sameBut a s2) (hab : ∀ p ∈ a, p ∈ b) : s.sameBut b s2 :=
  fun p hp => h p fun hm => hp (hab p hm)

theorem State.sameBut.trans {s2 s3 : State} {a b : List Part} (h : s.sameBut a s2) (h2 : s2.sameBut b s3) :
    s.sameBut (a ++ b) s3 := by
  intro p hp
  rw [List.mem_append, not_or] at hp
  obtain ⟨ha, hb⟩ := hp
  have hp1 := h p ha
  have hp2 := h2 p hb
  cases p <;> exact Eq.trans hp2 hp1

theorem State.sameBut_discipline (s : State) (k : Vector CaptureSlot 4) (v : Servo) (a : Attention) :
    s.sameBut [.slots, .servo, .attn] { s with slots := k, servo := v, attn := a } := by
  intro p hp
  cases p <;> simp [State.samePart] at hp ⊢

/-! ## What a timebase step leaves as it stood -/

theorem State.applyStep_eq_withAside (s : State) (th : Int) : s.applyStep th = (s.applyStep th).withAside s.voidSlots :=
  State.applyStep_withAside (u := s) rfl th

theorem State.applyStep_sameBut (s : State) (th : Int) :
    s.sameBut [.tb, .slots, .civil, .entries, .mgmtNotices, .outs, .chain, .stations, .attn] (s.applyStep th) := by
  intro p hp
  rw [State.applyStep_eq_withAside]
  cases p <;> simp [State.samePart, State.withAside, State.voidSlots] at hp ⊢

/-- R77 step 2: the slots that a step finds decide which of them are VOID after it. -/
theorem State.applyStep_setSlots (v : Vector CaptureSlot 4) :
    { s with slots := v }.applyStep th = { s.applyStep th with slots := { s with slots := v }.voidSlots.slots } := by
  have h := State.applyStep_withAside (s := s) (u := { s with slots := v }) rfl th
  rw [State.applyStep_eq_withAside s th]
  exact h

/-- Of the discipline unit a step reads the slew range alone. -/
theorem State.applyStep_setServo {v : Servo} (hr : v.params.slewRange = s.servo.params.slewRange) :
    { s with servo := v }.applyStep th = { s.applyStep th with servo := v } := by
  have h := State.applyStep_withAside (s := s) (u := { s with servo := v }) hr th
  rw [State.applyStep_eq_withAside s th]
  exact h

/-! ## Timebase time after a step -/

@[simp] theorem State.setTime_now (s : State) (t : Nat) : (s.setTime t).now = t := Nat.div_add_mod' t second

theorem State.wrap_tb (s : State) : s.wrap.tb = (s.setTime (s.now - wrapSpan)).tb := by
  simp only [State.wrap, State.stepEffects_tb, State.mapOutputs_tb]

/-- R76, R77: a sum at or above the wrap is taken down by one span, and the fraction stands. -/
theorem State.applyStep_tb (s : State) (th : Int) :
    (s.applyStep th).tb = (s.setTime
      (if wrapSpan ≤ s.stepTarget th then s.stepTarget th - wrapSpan else s.stepTarget th)).tb := by
  have hnow (t : Nat) : ((s.setTime t).stepEffects th t).now = t := by
    rw [State.now, State.stepEffects_tb]
    exact State.setTime_now s t
  simp only [State.applyStep]
  split
  · rw [State.wrap_tb, hnow, State.setTime, State.stepEffects_tb]
    rfl
  · rw [State.stepEffects_tb]

theorem State.applyStep_frac (s : State) (th : Int) : (s.applyStep th).tb.frac = s.tb.frac := by
  rw [State.applyStep_tb]
  rfl

theorem State.applyStep_now (h0 : 0 ≤ s.now + th) (h2 : s.now + th < 2 * wrapSpan) :
    ((s.applyStep th).now : Int) = (s.now + th) % wrapSpan := by
  have hnow : (s.applyStep th).now = if wrapSpan ≤ s.stepTarget th then s.stepTarget th - wrapSpan else s.stepTarget th := by
    rw [State.now, State.applyStep_tb]
    exact State.setTime_now s _
  have htarget : (s.stepTarget th : Int) = s.now + th := by
    simp only [State.stepTarget, h0, if_true]
    exact Int.toNat_of_nonneg h0
  rw [hnow]
  generalize s.stepTarget th = x at htarget ⊢
  generalize (s.now : Int) + th = y at *
  simp only [second, secondsWrap, wrapSpan] at *
  split <;> omega

/-! ## A change of the quality class (R90) -/

/-- R171: a raised cause stands in the set. -/
theorem State.raise_eq (s : State) (c : Cause) :
    ∃ a : Attention, a.causes.has c = true ∧ s.raise c = { s with attn := a } := by
  unfold State.raise
  split
  case isTrue h => exact ⟨s.attn, h, rfl⟩
  case isFalse => exact ⟨_, by cases c <;> rfl, rfl⟩

theorem State.noteClass_changed (h : s.quality ≠ s.servo.noted) :
    ∃ a : Attention, a.causes.has .servo = true
      ∧ s.noteClass = { s with servo := { s.servo with noted := s.quality }, attn := a } := by
  rw [State.noteClass, if_neg h]
  exact State.raise_eq _ _

end

/-! ## SAMPLE (R82 to R84) -/

section

variable {s s2 : State} {t : Tag} {q : SampleReq} {tc : Nat} {theta : Int}

theorem exec_sample {st : Status} {b : Body} (hs : s.standsNext .mgmt t (.sample q))
    (hr : sampleReply q s = (s2, some (st, b))) :
    exec (.sample .mgmt t q) s = .next (s2.reply .mgmt t (.sample q) st b) :=
  congrArg Host.Outcome.next (State.serve_reply hs hr)

/-- R82, R83: a sample that passes its checks and is paired with a capture is accepted. -/
theorem sampleReply_of_pairs (hp : s.pairs q tc) : sampleReply q s = acceptSample q s := by
  obtain ⟨⟨hsec, hns, hgrade⟩, ⟨sc, hlatest, hage⟩, hfilled, -, hmin⟩ := hp
  have hbad : SampleReq.bad q = false := by simp [SampleReq.bad, hsec, hns, hgrade]
  have h128 : ¬128 ≤ (sc - q.seq).toNat := by omega
  simp only [sampleReply, hbad, pairSample, hlatest, hfilled, h128, Nat.not_le.2 hage, Nat.not_lt.2 hmin, if_false,
    Bool.false_eq_true]

/-- R83: without a step the slot paired is CONSUMED, and no other slot moves. -/
theorem State.markSlot_spentSlots (hs : s2.slots = (s.markSlot q.seq .consumed).slots) :
    s.spentSlots s2 (slotNo q.seq) false := by
  intro j
  rw [hs]
  by_cases hj : j = slotNo q.seq
  · subst hj; simp [State.markSlot]
  · have hne : (slotNo q.seq).val ≠ j.val := fun e => hj (Fin.ext e.symm)
    simp [State.markSlot, hj, hne, Vector.getElem_set_ne]

/-- R77 step 2, R83: a step after it finds the slot paired CONSUMED, and makes only the other FILLED slots VOID. -/
theorem State.voidSlots_spentSlots (hs : s2.slots = (s.markSlot q.seq .consumed).voidSlots.slots) :
    s.spentSlots s2 (slotNo q.seq) true := by
  intro j
  have hmark := State.markSlot_spentSlots (s := s) (q := q) rfl j
  have hvoid : s2.slots[j] = if (s.markSlot q.seq .consumed).slots[j].state = .filled
      then { (s.markSlot q.seq .consumed).slots[j] with state := .void } else (s.markSlot q.seq .consumed).slots[j] := by
    rw [hs]; simp [State.voidSlots]
  rw [hvoid, hmark]
  by_cases hj : j = slotNo q.seq <;> simp [hj]

/-! ## The discipline unit takes a sample (R91) -/

theorem State.takeSample_still {v : Servo} (hj : s.judgeSample theta = (v, false)) :
    s.takeSample theta = State.noteClass { s with servo := v } := by
  simp only [State.takeSample, hj, Bool.false_eq_true, if_false]

/-- The step acts as it would have before the sample, unless the sample has moved the slew range. -/
theorem State.takeSample_step {v : Servo} (hj : s.judgeSample theta = (v, true))
    (hr : v.params.slewRange = s.servo.params.slewRange) :
    s.takeSample theta = State.noteClass (State.countServo (fun c => { c with steps := satAdd counterTop c.steps 1 })
      { s.applyStep theta with servo := v }) := by
  simp only [State.takeSample, hj, if_true, State.applyStep_setServo hr]

/-! ## The row of FREE (R93) -/

/-- R91, R93: the discipline unit after an accepted sample in FREE, the class noted. -/
def Servo.started (v : Servo) (theta : Int) (cycle : Nat) : Servo :=
  { v with
    state := .acquire, integral := 0, correction := 0, good := 0, outliers := 0, timer := some cycle, ageStart := none
    lastOffset := some theta, noted := 1
    counters := { v.counters with
      accepted := satAdd counterTop v.counters.accepted 1
      steps := if theta = 0 then v.counters.steps else satAdd counterTop v.counters.steps 1 } }

/-- R91 step 3, R93: in FREE a sample orders a step unless its offset is 0. -/
theorem State.judgeSample_free (hf : s.servo.state = .free) :
    s.judgeSample theta = (s.servo.receive theta s.cycle).freeRow theta := by
  have hf' : (s.servo.receive theta s.cycle).state = .free := hf
  simp only [State.judgeSample, Servo.row, hf']

theorem State.servoInv.noted_free (h : s.servoInv) (hf : s.servo.state = .free) : s.servo.noted = 4 := by
  obtain ⟨-, -, ⟨-, -, -, hfree⟩, -⟩ := h
  exact hfree hf

theorem State.takeSample_free_zero (hf : s.servo.state = .free) (hn : s.servo.noted = 4) :
    ∃ a : Attention, a.causes.has .servo = true
      ∧ s.takeSample 0 = { s with servo := s.servo.started 0 s.cycle, attn := a } := by
  rw [State.takeSample_still (State.judgeSample_free hf)]
  exact State.noteClass_changed (by simp [State.quality, Servo.receive, hn])

theorem State.takeSample_free_step (hf : s.servo.state = .free) (hn : s.servo.noted = 4) (h0 : theta ≠ 0) :
    ∃ a : Attention, a.causes.has .servo = true
      ∧ s.takeSample theta = { s.applyStep theta with servo := s.servo.started theta s.cycle, attn := a } := by
  have hj := State.judgeSample_free (theta := theta) hf
  rw [Servo.freeRow, decide_eq_true h0] at hj
  rw [State.takeSample_step hj rfl, Servo.started, if_neg h0]
  exact State.noteClass_changed (by simp [State.quality, State.countServo, Servo.receive, hn])

/-- R84, R93: the answer to a sample accepted in FREE, `s2` the state that the discipline unit then leaves. -/
theorem sampleReply_free (hp : s.pairs q tc) (hf : s.servo.state = .free)
    (h2 : (s.markSlot q.seq .consumed).takeSample (SampleReq.offset q tc) = s2) (hacq : s2.servo.state = .acquire) :
    sampleReply q s = (s2, some (.ok, .sample
      { seq := q.seq, captured := tc, offset := SampleReq.offset q tc
        stepped := decide (SampleReq.offset q tc ≠ 0), servo := .acquire, cls := 1 })) := by
  have hq : s2.quality = 1 := by simp [State.quality, hacq]
  rw [sampleReply_of_pairs hp]
  obtain ⟨-, -, -, htc, -⟩ := hp
  simp only [acceptSample, htc, h2, hacq, hq, State.judgeSample_free hf, Servo.freeRow]

theorem State.now_lt_wrapSpan (htb : s.timebaseInv) : s.now < wrapSpan := by
  obtain ⟨hns, hsec, -⟩ := htb
  simp only [State.now, second, secondsWrap, wrapSpan] at *
  omega

theorem SampleReq.offset_lt_wrapSpan (hp : s.pairs q tc) : SampleReq.offset q tc < wrapSpan := by
  obtain ⟨⟨hsec, hns, -⟩, -⟩ := hp
  simp only [SampleReq.offset, second, secondsWrap, wrapSpan] at *
  omega

end

/-! ## The statement -/

/-- Settles O34: the row of FREE, with no step where the offset is 0 and with a step of the offset elsewhere. The slot was
CONSUMED before the step, and the servo state set: neither alters what the step does to the rest. -/
theorem freeSampleStepsTimebase : Obligations.FreeSampleStepsTimebase := by
  intro s t q tc hf hinv htb hp hs theta hpos
  have hn : s.servo.noted = 4 := hinv.noted_free hf
  have hnow := State.now_lt_wrapSpan htb
  have hoff : theta < wrapSpan := SampleReq.offset_lt_wrapSpan hp
  by_cases h0 : theta = 0
  case pos =>
    obtain ⟨a, ha, htake⟩ := State.takeSample_free_zero (s := s.markSlot q.seq .consumed) hf hn
    rw [← h0] at htake
    have hsame := s.sameBut_discipline (s.markSlot q.seq .consumed).slots (s.servo.started theta s.cycle) a
    refine ⟨_, exec_sample hs (sampleReply_free hp hf htake rfl), rfl, ha, ?_, rfl, ?_, ?_, ?_⟩
    · show (s.now : Int) = _
      rw [h0, add_zero, Int.emod_eq_of_lt (by omega) (by exact_mod_cast hnow)]
    · rw [decide_eq_false (not_not.2 h0)]
      exact State.markSlot_spentSlots rfl
    · rw [if_pos h0]
      exact hsame
    · exact hsame.mono (by decide)
  case neg =>
    obtain ⟨a, ha, htake⟩ := State.takeSample_free_step (s := s.markSlot q.seq .consumed) hf hn h0
    have hstep : (s.markSlot q.seq .consumed).applyStep theta
        = { s.applyStep theta with slots := (s.markSlot q.seq .consumed).voidSlots.slots } := State.applyStep_setSlots _
    rw [hstep] at htake
    refine ⟨_, exec_sample hs (sampleReply_free hp hf htake rfl), rfl, ha, ?_, State.applyStep_frac s theta, ?_, ?_, ?_⟩
    · exact State.applyStep_now hpos (by omega)
    · rw [decide_eq_true h0]
      exact State.voidSlots_spentSlots rfl
    · rw [if_neg h0]
      exact ⟨rfl, rfl, rfl, rfl, rfl, rfl, rfl⟩
    · exact ((s.applyStep_sameBut theta).trans (State.sameBut_discipline _ _ _ _)).mono (by decide)

end Sys2Proof.Machine

/-! PROOFS. Immediate retirement (R17): what each of its steps leaves, and the statement. -/

namespace Sys2Proof.Machine

open Sys2Proof Config

section

variable (s : State) (i : Idx)

/-! ## Reads after writes at any place -/

theorem State.setEntry_get (j : Idx) (e : Entry) :
    (s.setEntry i e).entries[j.val] = if j = i then e else s.entries[j.val] := by
  split
  · next h => subst h; exact State.setEntry_at s j e
  · next h => exact State.setEntry_ne s i j e h

theorem State.setStation_get (x y : Addr) (r : Station) :
    (s.setStation x r).stations[y.val] = if y = x then r else s.stations[y.val] := by
  split
  · next h => subst h; exact State.setStation_at s y r
  · next h => exact State.setStation_ne s x y r h

theorem State.setOutput_get (o p : OutNo) (r : Output) :
    (s.setOutput o r).outs[p.val] = if p = o then r else s.outs[p.val] := by
  split
  · next h => subst h; exact State.setOutput_at s p r
  · next h => exact State.setOutput_ne s o p r h

/-- Two tables of equal entries are equal. -/
theorem Vector.ext_fin {α : Type} {n : Nat} {v w : Vector α n} (h : ∀ k : Fin n, v[k.val] = w[k.val]) : v = w :=
  Vector.ext fun k hk => h ⟨k, hk⟩

/-! ## The steps of R17 -/

/-- R171: a raise touches the attention unit alone. -/
theorem State.raise_eq_withAttn (c : Cause) : s.raise c = { s with attn := (s.raise c).attn } := by
  unfold State.raise
  split <;> rfl

/-- R8: what the entry of an index into the management notice set comes to. -/
theorem State.noteManagement_eq : ∃ a : Attention,
    s.noteManagement i = { s with mgmtNotices := insertIdx i s.mgmtNotices, attn := a } := by
  simp only [State.noteManagement]
  split
  · exact ⟨_, State.raise_eq_withAttn _ _⟩
  · exact ⟨s.attn, rfl⟩

@[simp] theorem State.noteManagement_stations : (s.noteManagement i).stations = s.stations := by
  obtain ⟨a, h⟩ := s.noteManagement_eq i
  rw [h]

@[simp] theorem State.noteManagement_mgmtNotices : (s.noteManagement i).mgmtNotices = insertIdx i s.mgmtNotices := by
  obtain ⟨a, h⟩ := s.noteManagement_eq i
  rw [h]

/-- R7: a notice enters the notice sets of the entry's watchers. -/
@[simp] theorem State.notify_at (x : Addr) : (s.notify i).stations[x.val] = { s.stations[x] with
    notices := if x ∈ s.entries[i].watchers then insertIdx i s.stations[x].notices else s.stations[x].notices } := by
  simp only [State.notify, apply_ite State.stations, State.noteManagement_stations, ite_self, State.mapStations_at]
  split <;> rfl

/-- R8: it enters the management notice set by the entry's flag. -/
@[simp] theorem State.notify_mgmtNotices : (s.notify i).mgmtNotices =
    if s.entries[i].mgmtWatch then insertIdx i s.mgmtNotices else s.mgmtNotices := by
  simp only [State.notify, apply_ite State.mgmtNotices, State.noteManagement_mgmtNotices, State.mapStations_mgmtNotices]

@[simp] theorem State.untie_at (x : Addr) : (s.untie i).stations[x.val] = { s.stations[x] with
    watchList := if x ∈ s.entries[i].watchers then s.stations[x].watchList.erase i else s.stations[x].watchList } := by
  simp only [State.untie, State.setEntry_stations, State.mapStations_at]
  split <;> rfl

/-- R17 step 3: the streams on the entry go. -/
@[simp] theorem State.closeStreamsOn_at (x : Addr) : (s.closeStreamsOn i).stations[x.val] = { s.stations[x] with
    stream := if s.stations[x].streams i then none else s.stations[x].stream } := by
  have h : (s.closeStreamsOn i).stations
      = (s.mapStations fun _ r => if r.streams i then { r with stream := none } else r).stations := by
    cases hf : s.chain.tx with
    | none => simp only [State.closeStreamsOn, hf]
    | some f => simp only [State.closeStreamsOn, hf, apply_ite State.stations, ite_self]
  simp only [h, State.mapStations_at]
  split <;> rfl

@[simp] theorem State.disown_at (l : Link) (x : Addr) : (s.disown l).stations[x.val] = { s.stations[x] with
    owned := s.stations[x].owned - (if l = .station x then 1 else 0) } := by
  cases l with
  | mgmt => simp [State.disown]
  | station y =>
    simp only [State.disown, State.setStation_get]
    by_cases h : x = y
    · subst h; simp
    · have hy : ¬y = x := fun e => h e.symm
      simp [h, hy]

@[simp] theorem State.dropBindings_at (o : OutNo) :
    (s.dropBindings i).outs[o.val] = if s.outs[o].boundTo i then s.outs[o].unbind else s.outs[o] := by
  simp [State.dropBindings]

/-! ## What retirement leaves -/

variable {s i}

theorem State.retire_eq (h : s.entries[i].state ≠ .vacant) :
    s.retire i = (((((s.notify i).untie i).closeStreamsOn i).dropBindings i).disown s.entries[i].owner).setEntry i
      (Entry.vacantAt (s.entries[i].gen + 1)) := by
  simp only [State.retire, if_neg h]

theorem State.retire_vacant (h : s.entries[i].state = .vacant) : s.retire i = s := by
  simp only [State.retire, if_pos h]

theorem State.retire_entries (h : s.entries[i].state ≠ .vacant) :
    (s.retire i).entries = s.entries.set i (Entry.vacantAt (s.entries[i].gen + 1)) := by
  rw [State.retire_eq h]
  simp [State.setEntry, State.untie]

theorem State.retire_same (h : s.entries[i].state ≠ .vacant) :
    (s.retire i).entries[i.val] = Entry.vacantAt (s.entries[i].gen + 1) := by simp [State.retire_entries h]

theorem State.retire_ne {j : Idx} (hj : j ≠ i) : (s.retire i).entries[j.val] = s.entries[j.val] := by
  by_cases h : s.entries[i].state = .vacant
  · rw [State.retire_vacant h]
  · have : i.val ≠ j.val := fun g => hj (Fin.ext g.symm)
    simp [State.retire_entries h, Vector.getElem_set_ne, this]

theorem State.retire_stations_at (h : s.entries[i].state ≠ .vacant) (x : Addr) :
    (s.retire i).stations[x.val] = { s.stations[x] with
      notices := if x ∈ s.entries[i].watchers then insertIdx i s.stations[x].notices else s.stations[x].notices
      watchList := if x ∈ s.entries[i].watchers then s.stations[x].watchList.erase i else s.stations[x].watchList
      stream := if s.stations[x].streams i then none else s.stations[x].stream
      owned := s.stations[x].owned - (if s.entries[i].owner = .station x then 1 else 0) } := by
  rw [State.retire_eq h]
  simp [State.dropBindings, Station.streams]
  rfl

theorem State.retire_mgmtNotices (h : s.entries[i].state ≠ .vacant) : (s.retire i).mgmtNotices =
    if s.entries[i].mgmtWatch then insertIdx i s.mgmtNotices else s.mgmtNotices := by
  have hd (u : State) (l : Link) : (u.disown l).mgmtNotices = u.mgmtNotices := by cases l <;> rfl
  have hc (u : State) : (u.closeStreamsOn i).mgmtNotices = u.mgmtNotices := by
    simp only [State.closeStreamsOn]
    split
    · split <;> simp
    · simp
  rw [State.retire_eq h]
  simp [hd, hc, State.dropBindings, State.untie]

theorem State.retire_outs_at (h : s.entries[i].state ≠ .vacant) (o : OutNo) :
    (s.retire i).outs[o.val] = if s.outs[o].boundTo i then s.outs[o].unbind else s.outs[o] := by
  rw [State.retire_eq h]
  simp [State.setEntry, State.untie]

theorem State.setEntry_sameBut (s : State) (i : Idx) (e : Entry) : s.sameBut [.entries] (s.setEntry i e) := by
  intro p hp
  cases p <;> simp [State.samePart] at hp ⊢

theorem State.mapStations_sameBut (s : State) (f : Addr → Station → Station) : s.sameBut [.stations] (s.mapStations f) := by
  intro p hp
  cases p <;> simp [State.samePart] at hp ⊢

theorem State.mapOutputs_sameBut (s : State) (f : Output → Output) : s.sameBut [.outs] (s.mapOutputs f) := by
  intro p hp
  cases p <;> simp [State.samePart] at hp ⊢

theorem State.sameBut.refl (s : State) (l : List Part) : s.sameBut l s := by
  intro p _
  cases p <;> rfl

theorem State.raise_sameBut (s : State) (c : Cause) : s.sameBut [.attn] (s.raise c) := by
  intro p hp
  rw [State.raise_eq_withAttn]
  cases p <;> simp [State.samePart] at hp ⊢

theorem State.noteManagement_sameBut (s : State) (i : Idx) : s.sameBut [.mgmtNotices, .attn] (s.noteManagement i) := by
  intro p hp
  obtain ⟨a, h⟩ := s.noteManagement_eq i
  rw [h]
  cases p <;> simp [State.samePart] at hp ⊢

theorem State.sameBut.ite {c : Prop} [Decidable c] {a b : State} {l : List Part} (ha : c → s.sameBut l a)
    (hb : ¬c → s.sameBut l b) : s.sameBut l (if c then a else b) := by
  split
  · next h => exact ha h
  · next h => exact hb h

theorem State.notify_sameBut (s : State) (i : Idx) : s.sameBut [.stations, .mgmtNotices, .attn] (s.notify i) :=
  State.sameBut.ite (fun _ => (State.mapStations_sameBut s _).trans (State.noteManagement_sameBut _ i))
    fun _ => (State.mapStations_sameBut s _).mono (by simp)

theorem State.setChain_sameBut (s : State) (c : Chain) : s.sameBut [.chain] { s with chain := c } := by
  intro p hp
  cases p <;> simp [State.samePart] at hp ⊢

theorem State.closeStreamsOn_sameBut (s : State) (i : Idx) : s.sameBut [.stations, .chain] (s.closeStreamsOn i) := by
  have hm := State.mapStations_sameBut s fun _ r => if r.streams i then { r with stream := none } else r
  cases hf : s.chain.tx with
  | none =>
    simp only [State.closeStreamsOn, hf]
    exact hm.mono (by simp)
  | some f =>
    simp only [State.closeStreamsOn, hf]
    exact State.sameBut.ite (fun _ => hm.trans (State.setChain_sameBut _ _)) fun _ => hm.mono (by simp)

theorem State.disown_sameBut (s : State) (l : Link) : s.sameBut [.stations] (s.disown l) := by
  intro p hp
  cases l <;> cases p <;> simp [State.samePart, State.disown] at hp ⊢

theorem State.untie_sameBut (s : State) (i : Idx) : s.sameBut [.stations, .entries] (s.untie i) :=
  (State.mapStations_sameBut s _).trans (State.setEntry_sameBut _ i _)

theorem State.retire_sameBut (s : State) (i : Idx) :
    s.sameBut [.entries, .stations, .outs, .chain, .mgmtNotices, .attn] (s.retire i) := by
  by_cases h : s.entries[i].state = .vacant
  · rw [State.retire_vacant h]
    exact State.sameBut.refl s _
  · rw [State.retire_eq h]
    refine State.sameBut.mono ((((((s.notify_sameBut i).trans (State.untie_sameBut _ i)).trans
      (State.closeStreamsOn_sameBut _ i)).trans (State.mapOutputs_sameBut _ _)).trans
      (State.disown_sameBut _ _)).trans (State.setEntry_sameBut _ i _)) ?_
    intro p hp
    simp at hp ⊢
    tauto

end

/-! ## The statement -/

/-- Settles O27, by the six steps of R17. -/
theorem retirementClearsEveryTie : Obligations.RetirementClearsEveryTie := by
  intro s i h
  exact ⟨State.retire_same h, fun j hj => State.retire_ne hj, State.retire_stations_at h, State.retire_mgmtNotices h,
    State.retire_outs_at h, s.retire_sameBut i⟩

end Sys2Proof.Machine

/-! PROOFS. What a step is made of: the request handler's part of every request and the part's own action, for any relation
between states that the handler's and the queue's own moves meet. -/

namespace Sys2Proof.Machine

open Sys2Proof Config

/-- A relation from the state before to the state after that the moves of the request handler and of the queue meet. -/
structure Handled (R : State → State → Prop) : Prop where
  refl : ∀ s, R s s
  trans : ∀ {s u v}, R s u → R u v → R s v
  setPort : ∀ s p, R s { s with port := p }
  setArrivals : ∀ s a, R s { s with arrivals := a }
  setPending : ∀ s q, R s { s with pending := q }
  setChain : ∀ s c, R s { s with chain := c }
  setSlot : ∀ s x v, R s (s.setStation x { s.stations[x] with slot := v, segment := 0 })
  owe : ∀ s x t, R s (s.setStation x { s.stations[x] with owed := some t })

namespace Handled

variable {R : State → State → Prop} (hR : Handled R)
include hR

theorem foldl {α : Type} {f : State → α → State} (l : List α) (s : State) (h : ∀ u a, R u (f u a)) : R s (l.foldl f s) := by
  induction l generalizing s with
  | nil => exact hR.refl s
  | cons a l ih => exact hR.trans (h s a) (ih _)

theorem turnAway (l : Link) (t : Tag) (s : State) : R s (s.turnAway l t) := by
  cases l with
  | mgmt => exact hR.setPort s _
  | station x => exact hR.owe s x t

theorem complete (l : Link) (v : Result) (s : State) : R s (s.complete l v) := by
  refine hR.trans (hR.setArrivals s (s.arrivals.erase l)) ?_
  cases l with
  | mgmt =>
    cases hd : s.port.deferred with
    | none => rw [State.complete_mgmt hd]; exact hR.setPort { s with arrivals := s.arrivals.erase .mgmt } _
    | some d =>
      have h : s.complete .mgmt v = { { s with arrivals := s.arrivals.erase .mgmt } with
          port := (s.complete .mgmt v).port } := by simp only [State.complete, hd, State.countLoss]
      rw [h]
      exact hR.setPort { s with arrivals := s.arrivals.erase .mgmt } _
  | station x =>
    rw [State.complete_station]
    exact hR.setSlot { s with arrivals := s.arrivals.erase (.station x) } x _

theorem leaveSlot (s : State) : R s s.leaveSlot :=
  hR.trans (hR.setArrivals s (s.arrivals.erase .mgmt)) (hR.setPort { s with arrivals := s.arrivals.erase .mgmt } _)

end Handled

/-- R160, R161: what admission does to the state: nothing, a refusal owed or a loss counted, or a change of the port. -/
theorem State.takeIn_cases (l : Link) (t : Tag) (r : Req) (s : State) :
    (s.takeIn l t r = .turned s ∨ s.takeIn l t r = .turned (s.turnAway l t))
    ∨ ∃ p, s.takeIn l t r = .taken { s with port := p } := by
  have hs : s = { s with port := s.port } := rfl
  unfold State.takeIn
  split
  · exact .inl (.inl rfl)
  · split
    · split
      · split
        · exact .inr ⟨s.port, rfl⟩
        · exact .inl (.inl rfl)
      · exact .inl (.inr rfl)
    · split
      · split
        · exact .inr ⟨_, rfl⟩
        · exact .inr ⟨s.port, rfl⟩
      · exact .inl (.inl rfl)
    · split
      · split
        · exact .inr ⟨_, rfl⟩
        · exact .inl (.inl rfl)
      · split
        · exact .inl (.inr rfl)
        · exact .inl (.inl rfl)

namespace Handled

variable {R : State → State → Prop} (hR : Handled R)
include hR

/-- R160: a request meets the relation when its meaning does. -/
theorem serve {l : Link} {t : Tag} {r : Req} {h : State → State × Option Reply} {s : State} (hh : ∀ u, R u (h u).1) :
    R s (s.serve l t r h) := by
  unfold State.serve
  rcases s.takeIn_cases l t r with (ht | ht) | ⟨p, ht⟩
  · simp only [ht]; exact hR.refl s
  · simp only [ht]; exact hR.turnAway l t s
  · simp only [ht]
    have hu := hR.trans (hR.setPort s p) (hh { s with port := p })
    rcases hv : h { s with port := p } with ⟨s2, _ | ⟨st, b⟩⟩
    · rw [hv] at hu
      exact hR.trans hu (hR.leaveSlot s2)
    · rw [hv] at hu
      exact hR.trans hu (hR.complete l _ s2)

theorem forManagement {l : Link} {h : State → State × Option Reply} (hh : ∀ u, R u (h u).1) (u : State) :
    R u (Machine.forManagement l h u).1 := by
  cases l with
  | mgmt => exact hh u
  | station x => exact hR.refl u

theorem forStation {l : Link} {h : Addr → State → State × Option Reply} (hh : ∀ x u, R u (h x u).1) (u : State) :
    R u (Machine.forStation l h u).1 := by
  cases l with
  | mgmt => exact hR.refl u
  | station x => exact hh x u

theorem onEntry {hd : Handle} {h : Idx → State → State × Option Reply} {u : State}
    (hh : ∀ i, u.entries[i].state ≠ .vacant → R u (h i u).1) : R u (Machine.onEntry hd h u).1 := by
  cases hc : checkHandle u hd with
  | error st => rw [onEntry_error hc]; exact hR.refl u
  | ok i =>
    obtain ⟨_, _, hv⟩ := (checkHandle_ok_iff hd i).1 hc
    rw [onEntry_ok hc]
    exact hh i hv

theorem withAuthority {l : Link} {i : Idx} {h : State → State × Option Reply} {u : State} (hh : R u (h u).1) :
    R u (Machine.withAuthority l i h u).1 := by
  unfold Machine.withAuthority
  split
  · exact hh
  · exact hR.refl u

theorem whenReleased {f : State → State} {s : State} (h : s.resetPin = false → R s (f s)) : R s (s.whenReleased f) := by
  cases hr : s.resetPin with
  | true => rw [State.whenReleased_asserted hr]; exact hR.refl s
  | false => rw [State.whenReleased_deasserted hr]; exact h hr

/-- An event that acts when its condition holds. -/
theorem whenDue {b : State → Bool} {f : State → State} {s : State} (h : s.resetPin = false → b s = true → R s (f s)) :
    R s (s.whenReleased fun s => if b s then f s else s) :=
  hR.whenReleased fun hr => by
    split
    · next hb => exact h hr hb
    · exact hR.refl s

theorem moveOn (s : State) : R s s.moveOn := by
  unfold State.moveOn
  split <;> exact hR.setChain s _

/-- A step meets the relation when every command and every REFCLK cycle does. -/
theorem step (htick : ∀ s, s.wrapDue = false → R s s.tick) (hexec : ∀ c s s', exec c s = .next s' → R s s') {s s' : State}
    (h : Machine.step s = .next s') : R s s' := by
  have accept (l : Link) : s.accept l = .next s' → R s s' := by
    intro ha
    unfold State.accept at ha
    split at ha
    · split at ha
      · exact hexec _ _ _ ha
      · cases ha; exact hR.complete l _ s
      · cases ha; exact hR.complete l _ s
    · cases ha; exact hR.setArrivals s _
  have clock : s.clock = .next s' → R s s' := by
    intro hc
    unfold State.clock at hc
    split at hc
    · exact hexec _ _ _ hc
    · next hw =>
      cases hc
      exact htick s (by simpa using hw)
  unfold Machine.step at h
  split at h
  · next c rest _ => exact hR.trans (hR.setPending s rest) (hexec _ _ _ h)
  · unfold State.idle at h
    split at h
    · cases h; exact hR.refl s
    · split at h
      · cases h
        rw [State.choose, if_pos ‹_›]
        exact hR.moveOn s
      · split at h
        · exact hexec _ _ _ h
        · exact accept _ h
        · exact clock h

end Handled

end Sys2Proof.Machine

/-! PROOFS. The conditions on entries, stations, notices, streams and outputs that a change keeps: the relation
`State.soundTo`, and the changes of one record that meet it. -/

namespace Sys2Proof.Machine

open Sys2Proof Config

/-! ## Conditions of one record -/

/-- R12, R41: the carried offset of entry `e` fits its motion under slew range `range`. -/
def Entry.offsetFits (range : Nat) (e : Entry) : Prop :=
  (e.motion = .pending ∨ e.motion = .running → e.eps = 0) ∧ (e.motion = .slewing → e.eps.natAbs ≤ range)

/-- R151: the step and the lead of a stream lie within their clamps. -/
def Stream.fair (st : Stream) : Prop := 1 ≤ st.step ∧ 10000 ≤ st.lead ∧ st.lead ≤ 10000000

def Station.fair (r : Station) : Prop := ∀ st, r.stream = some st → st.fair

/-- What entry `e` is tied to stands in `e'`, and its offset still fits. -/
structure Entry.follows (range : Nat) (e e' : Entry) : Prop where
  vacant : e'.state = .vacant ↔ e.state = .vacant
  owner : e'.owner = e.owner
  watchers : e'.watchers = e.watchers
  offset : e.state ≠ .vacant → e.offsetFits range → e'.offsetFits range

/-- What station `r` is tied to stands in `r'`; its notices stay in order and its stream within its clamps. -/
structure Station.follows (r r' : Station) : Prop where
  owned : r'.owned = r.owned
  watchList : r'.watchList = r.watchList
  notices : r.notices.Pairwise (· < ·) → r'.notices.Pairwise (· < ·)
  fair : r.fair → r'.fair

/-- No pulse begins. -/
def Output.follows (o o' : Output) : Prop := o.inProgress = none → o'.inProgress = none

/-- A change that moves no tie between records, begins no pulse and keeps every offset within its motion. -/
structure State.calm (s s' : State) : Prop where
  range : s'.servo.params.slewRange = s.servo.params.slewRange
  inhibit : s'.inhibit = s.inhibit
  resetPin : s'.resetPin = s.resetPin
  entries : ∀ i : Idx, Entry.follows s.servo.params.slewRange s.entries[i.val] s'.entries[i.val]
  stations : ∀ x : Addr, s.stations[x.val].follows s'.stations[x.val]
  notices : s.mgmtNotices.Pairwise (· < ·) → s'.mgmtNotices.Pairwise (· < ·)
  outs : ∀ o : OutNo, s.outs[o.val].follows s'.outs[o.val]

/-- The conditions of R5, R6, R7, R111 and R151 are kept from one state to the other. -/
structure State.tiesKept (s s' : State) : Prop where
  owned : s.ownedInv → s'.ownedInv
  watch : s.watchInv → s'.watchInv
  notices : s.noticesInv → s'.noticesInv
  streams : s.streamsInv → s'.streamsInv
  quiet : s.quietInv → s'.quietInv

/-- And that of R41. -/
structure State.soundTo (s s' : State) : Prop extends s.tiesKept s' where
  offset : s.offsetInv → s'.offsetInv

theorem Entry.follows.rfl {range : Nat} {e : Entry} : Entry.follows range e e := ⟨.rfl, Eq.refl _, Eq.refl _, fun _ => id⟩
theorem Station.follows.rfl {r : Station} : r.follows r := ⟨Eq.refl _, Eq.refl _, id, id⟩
theorem Output.follows.rfl {o : Output} : o.follows o := id

theorem Station.follows.trans {r r' r'' : Station} (h : r.follows r') (h' : r'.follows r'') : r.follows r'' :=
  ⟨h'.owned.trans h.owned, h'.watchList.trans h.watchList, h'.notices ∘ h.notices, h'.fair ∘ h.fair⟩

theorem Station.follows.ite {r a b : Station} {c : Prop} [Decidable c] (ha : c → r.follows a) (hb : ¬c → r.follows b) :
    r.follows (if c then a else b) := by
  split
  · next h => exact ha h
  · next h => exact hb h

/-- A station's record whose ties stand, with its stream, follows. -/
theorem Station.follows.of_eq {r r' : Station} (h1 : r'.owned = r.owned := by rfl) (h2 : r'.watchList = r.watchList := by rfl)
    (h3 : r'.notices = r.notices := by rfl) (h4 : r'.stream = r.stream := by rfl) : r.follows r' :=
  ⟨h1, h2, fun h => h3 ▸ h, fun h st hs => h st (h4 ▸ hs)⟩

/-- One whose stream is another one, within its clamps when that was. -/
theorem Station.follows.stream {r : Station} {m : Option Stream} (h : r.fair → ∀ st, m = some st → st.fair) :
    r.follows { r with stream := m } := ⟨Eq.refl _, Eq.refl _, id, h⟩

theorem Stream.fair.map {m : Option Stream} {f : Stream → Stream} (hf : ∀ st, st.fair → (f st).fair)
    (h : ∀ st, m = some st → st.fair) : ∀ st, m.map f = some st → st.fair := by
  intro st hst
  obtain ⟨u, hu, rfl⟩ := Option.map_eq_some_iff.1 hst
  exact hf u (h u hu)

theorem Stream.fair.choose {st : Stream} (h : st.fair) (e : Entry) (d : Option Nat) (t : Int) (above : Option Nat) (c : Bool) :
    (st.choose e d t above c).fair := by
  simpa [Stream.fair] using h

theorem Stream.fair.replan {st : Stream} (h : st.fair) (how : Replan) (e : Entry) (d : Option Nat) (t : Int) :
    (st.replan how e d t).fair := by
  obtain ⟨h1, h2, h3⟩ := h
  obtain ⟨hs, hl⟩ := st.replan_keeps how e d t
  exact ⟨h1.trans hs, hl ▸ h2, hl ▸ h3⟩

theorem Entry.follows.of_eq {range : Nat} {e e' : Entry} (h1 : e'.state = e.state := by rfl)
    (h2 : e'.owner = e.owner := by rfl) (h3 : e'.watchers = e.watchers := by rfl) (h4 : e'.motion = e.motion := by rfl)
    (h5 : e'.eps = e.eps := by rfl) : Entry.follows range e e' :=
  ⟨by rw [h1], h2, h3, fun _ h => by simpa only [Entry.offsetFits, h4, h5] using h⟩

/-! ## What the indexed updates leave -/

theorem State.setStation_sameBut (s : State) (x : Addr) (r : Station) : s.sameBut [.stations] (s.setStation x r) := by
  intro p hp
  cases p <;> simp [State.samePart] at hp ⊢

theorem State.setOutput_sameBut (s : State) (o : OutNo) (r : Output) : s.sameBut [.outs] (s.setOutput o r) := by
  intro p hp
  cases p <;> simp [State.samePart] at hp ⊢

theorem State.mapEntries_sameBut (s : State) (f : Idx → Entry → Entry) : s.sameBut [.entries] (s.mapEntries f) := by
  intro p hp
  cases p <;> simp [State.samePart] at hp ⊢

theorem State.setPort_sameBut (s : State) (q : Port) : s.sameBut [.port] { s with port := q } := by
  intro p hp
  cases p <;> simp [State.samePart] at hp ⊢

theorem State.setArrivals_sameBut (s : State) (a : List Link) : s.sameBut [.arrivals] { s with arrivals := a } := by
  intro p hp
  cases p <;> simp [State.samePart] at hp ⊢

theorem State.setQueue_sameBut (s : State) (q : List Instr) : s.sameBut [.pending] { s with pending := q } := by
  intro p hp
  cases p <;> simp [State.samePart] at hp ⊢

/-! ## The conditions of the parts follow -/

namespace State.calm

variable {s u v : State}

theorem ownedBy_eq (h : s.calm u) (x : Addr) : u.ownedBy x = s.ownedBy x := by
  unfold State.ownedBy
  refine List.filter_congr fun i _ => ?_
  simp [(h.entries i).vacant, (h.entries i).owner]

theorem ties (h : s.calm u) : s.tiesKept u where
  owned hs x := by
    have hx : u.stations[x.val].owned = s.stations[x.val].owned := (h.stations x).owned
    simpa [h.ownedBy_eq, hx] using hs x
  watch hs := by
    obtain ⟨h1, h2, h3⟩ := hs
    refine ⟨fun i x => ?_, fun i => ?_, fun x => ?_⟩
    · simpa [(h.entries i).watchers, (h.stations x).watchList] using h1 i x
    · simpa [(h.entries i).watchers, (h.entries i).vacant] using h2 i
    · simpa [(h.stations x).watchList] using h3 x
  notices hs := ⟨h.notices hs.1, fun x => (h.stations x).notices (hs.2 x)⟩
  streams hs x := (h.stations x).fair (hs x)
  quiet hs hp o := h.outs o (hs (by simpa [h.inhibit, h.resetPin] using hp) o)

theorem sound (h : s.calm u) : s.soundTo u := { h.ties with
  offset := fun hs i hv => by
    have he := h.entries i
    have hv' : s.entries[i.val].state ≠ .vacant := fun g => hv (he.vacant.2 g)
    have hr := he.offset hv' (hs i hv')
    rwa [← h.range] at hr }

/-- The parts that no condition speaks of. -/
def asides : List Part :=
  [.cycle, .tb, .readings, .lastEdge, .slots, .latest, .civil, .chain, .arrivals, .port, .attn, .store, .pending]

/-- A change of such parts, and of the entries, the stations and the outputs with what they are tied to standing. -/
theorem of_sameBut (h : s.sameBut (.entries :: .stations :: .outs :: asides) u)
    (he : ∀ i : Idx, Entry.follows s.servo.params.slewRange s.entries[i.val] u.entries[i.val])
    (hx : ∀ x : Addr, s.stations[x.val].follows u.stations[x.val])
    (ho : ∀ o : OutNo, s.outs[o.val].follows u.outs[o.val]) : s.calm u where
  range := by rw [show u.servo = s.servo from h .servo (by simp [asides])]
  inhibit := h .inhibit (by simp [asides])
  resetPin := h .resetPin (by simp [asides])
  entries := he
  stations := hx
  notices := by rw [show u.mgmtNotices = s.mgmtNotices from h .mgmtNotices (by simp [asides])]; exact id
  outs := ho

theorem of_asides (h : s.sameBut asides u) : s.calm u := by
  have he : u.entries = s.entries := h .entries (by simp [asides])
  have hx : u.stations = s.stations := h .stations (by simp [asides])
  have ho : u.outs = s.outs := h .outs (by simp [asides])
  refine of_sameBut (h.mono (by simp +contextual)) (fun i => ?_) (fun x => ?_) fun o => ?_
  · rw [he]; exact .rfl
  · rw [hx]; exact .rfl
  · rw [ho]; exact .rfl

theorem refl (s : State) : s.calm s := of_asides (State.sameBut.refl s _)

/-- A change of the servo that leaves the slew range. -/
theorem setServo (s : State) (w : Servo) (h : w.params.slewRange = s.servo.params.slewRange) : s.calm { s with servo := w } :=
  { refl s with range := h }

theorem setEntry {i : Idx} {e : Entry} (h : Entry.follows s.servo.params.slewRange s.entries[i] e) : s.calm (s.setEntry i e) := by
  refine of_sameBut ((s.setEntry_sameBut i e).mono (by simp)) (fun j => ?_)
    (fun x => by rw [State.setEntry_stations]; exact .rfl) fun o => by rw [State.setEntry_outs]; exact .rfl
  by_cases hj : j = i
  · subst hj; rw [State.setEntry_at]; exact h
  · rw [State.setEntry_ne _ _ _ _ hj]; exact .rfl

theorem mapEntries {f : Idx → Entry → Entry} (h : ∀ i : Idx, Entry.follows s.servo.params.slewRange s.entries[i] (f i s.entries[i])) :
    s.calm (s.mapEntries f) :=
  of_sameBut ((s.mapEntries_sameBut f).mono (by simp)) (fun i => by rw [State.mapEntries_at]; exact h i)
    (fun x => by rw [State.mapEntries_stations]; exact .rfl) fun o => by rw [State.mapEntries_outs]; exact .rfl

theorem setStation {x : Addr} {r : Station} (h : s.stations[x].follows r) : s.calm (s.setStation x r) := by
  refine of_sameBut ((s.setStation_sameBut x r).mono (by simp))
    (fun i => by rw [State.setStation_entries]; exact .rfl) (fun y => ?_) fun o => by rw [State.setStation_outs]; exact .rfl
  by_cases hy : y = x
  · subst hy; rw [State.setStation_at]; exact h
  · rw [State.setStation_ne _ _ _ _ hy]; exact .rfl

theorem mapStations {f : Addr → Station → Station} (h : ∀ x : Addr, s.stations[x].follows (f x s.stations[x])) :
    s.calm (s.mapStations f) :=
  of_sameBut ((s.mapStations_sameBut f).mono (by simp)) (fun i => by rw [State.mapStations_entries]; exact .rfl)
    (fun x => by rw [State.mapStations_at]; exact h x) fun o => by rw [State.mapStations_outs]; exact .rfl

theorem setOutput {o : OutNo} {r : Output} (h : s.outs[o].follows r) : s.calm (s.setOutput o r) := by
  refine of_sameBut ((s.setOutput_sameBut o r).mono (by simp)) (fun i => by rw [State.setOutput_entries]; exact .rfl)
    (fun x => by rw [State.setOutput_stations]; exact .rfl) fun p => ?_
  by_cases hp : p = o
  · subst hp; rw [State.setOutput_at]; exact h
  · rw [State.setOutput_ne _ _ _ _ hp]; exact .rfl

theorem mapOutputs {f : Output → Output} (h : ∀ o : Output, o.follows (f o)) : s.calm (s.mapOutputs f) :=
  of_sameBut ((s.mapOutputs_sameBut f).mono (by simp)) (fun i => by rw [State.mapOutputs_entries]; exact .rfl)
    (fun x => by rw [State.mapOutputs_stations]; exact .rfl) fun o => by rw [State.mapOutputs_at]; exact h _

end State.calm

namespace State.tiesKept

variable {s u v : State}

theorem refl (s : State) : s.tiesKept s := ⟨id, id, id, id, id⟩

theorem trans (h : s.tiesKept u) (h' : u.tiesKept v) : s.tiesKept v :=
  ⟨h'.owned ∘ h.owned, h'.watch ∘ h.watch, h'.notices ∘ h.notices, h'.streams ∘ h.streams, h'.quiet ∘ h.quiet⟩

/-- The ties speak of no part of the servo. -/
theorem setServo (s : State) (w : Servo) : s.tiesKept { s with servo := w } := ⟨id, id, id, id, id⟩

end State.tiesKept

namespace State.soundTo

variable {s u v : State}

theorem refl (s : State) : s.soundTo s := (State.calm.refl s).sound

theorem trans (h : s.soundTo u) (h' : u.soundTo v) : s.soundTo v :=
  { h.totiesKept.trans h'.totiesKept with offset := h'.offset ∘ h.offset }

theorem handled : Handled State.soundTo where
  refl := refl
  trans := trans
  setPort s p := (State.calm.of_asides ((s.setPort_sameBut p).mono (by simp [State.calm.asides]))).sound
  setArrivals s a := (State.calm.of_asides ((s.setArrivals_sameBut a).mono (by simp [State.calm.asides]))).sound
  setPending s q := (State.calm.of_asides ((s.setQueue_sameBut q).mono (by simp [State.calm.asides]))).sound
  setChain s c := (State.calm.of_asides ((s.setChain_sameBut c).mono (by simp [State.calm.asides]))).sound
  setSlot _ _ _ := (State.calm.setStation .of_eq).sound
  owe _ _ _ := (State.calm.setStation .of_eq).sound

end State.soundTo

end Sys2Proof.Machine

/-! PROOFS. The changes that move the ties between records (retirement, creation, watching, a station's orphaning, the soft
reset) keep the conditions on them. -/

namespace Sys2Proof.Machine

open Sys2Proof Config

variable {s u : State} {i : Idx} {x : Addr}

/-! ## Owned entries -/

theorem State.mem_ownedBy : i ∈ s.ownedBy x ↔ s.entries[i.val].state ≠ .vacant ∧ s.entries[i.val].owner = .station x := by
  simp [State.ownedBy]

theorem State.ownedBy_nodup (s : State) (x : Addr) : (s.ownedBy x).Nodup := (List.nodup_finRange 64).filter _

/-- Entry `i` apart, a station owns what it owned. -/
theorem State.ownedBy_erase (h : ∀ j : Idx, j ≠ i → u.entries[j.val] = s.entries[j.val]) (x : Addr) :
    (u.ownedBy x).erase i = (s.ownedBy x).erase i := by
  rw [(u.ownedBy_nodup x).erase_eq_filter, (s.ownedBy_nodup x).erase_eq_filter, State.ownedBy, State.ownedBy,
    List.filter_filter, List.filter_filter]
  refine List.filter_congr fun j _ => ?_
  by_cases hj : j = i
  · simp [hj]
  · simp [h j hj]

theorem State.ownedBy_length_of_mem (h : i ∈ s.ownedBy x) : ((s.ownedBy x).erase i).length + 1 = (s.ownedBy x).length := by
  have := List.length_pos_of_mem h
  rw [List.length_erase_of_mem h]
  omega

/-! ## Notices and watches -/

theorem insertIdx_ascending_ite {c : Prop} [Decidable c] {l : List Idx} (h : l.Pairwise (· < ·)) :
    (if c then insertIdx i l else l).Pairwise (· < ·) := by
  split
  · exact insertIdx_ascending i h
  · exact h

/-! ## Retirement (R17) -/

theorem State.retire_sound (s : State) (i : Idx) : s.soundTo (s.retire i) := by
  by_cases hv : s.entries[i].state = .vacant
  · rw [State.retire_vacant hv]
    exact .refl s
  have hsame := State.retire_same hv
  have hne {j : Idx} : j ≠ i → _ := State.retire_ne (s := s) (j := j)
  have hst := State.retire_stations_at hv
  refine { owned := fun h x => ?_, watch := fun h => ?_, notices := fun h => ⟨?_, fun x => ?_⟩, streams := fun h x st hx => ?_,
           quiet := fun h hp o => ?_, offset := fun h j hj => ?_ }
  · obtain ⟨h1, h2⟩ := h x
    have hi : i ∉ (s.retire i).ownedBy x := by simp [State.mem_ownedBy, hsame, Entry.vacantAt]
    have herase := State.ownedBy_erase (fun _ => hne) x
    rw [List.erase_of_not_mem hi] at herase
    simp only [Fin.getElem_fin] at h1 h2 hv ⊢
    rw [hst, herase]
    by_cases ho : s.entries[i.val].owner = .station x
    · have := State.ownedBy_length_of_mem (State.mem_ownedBy.2 ⟨hv, ho⟩)
      simp [ho]
      omega
    · have : i ∉ s.ownedBy x := fun g => ho (State.mem_ownedBy.1 g).2
      simp [ho, List.erase_of_not_mem this]
      omega
  · obtain ⟨h1, h2, h3⟩ := h
    refine ⟨fun j x => ?_, fun j => ?_, fun x => ?_⟩
    · simp only [Fin.getElem_fin, hst]
      have hjx := h1 j x
      have hix := h1 i x
      obtain ⟨hnd, -⟩ := h3 x
      simp only [Fin.getElem_fin] at hjx hix hnd
      by_cases hj : j = i
      · subst hj
        rw [hsame]
        split
        · simp [Entry.vacantAt, hnd.mem_erase_iff]
        · next hx => simpa [Entry.vacantAt] using fun g => hx (hix.2 g)
      · rw [hne hj, hjx]
        split
        · simp [hnd.mem_erase_iff, hj]
        · rfl
    · by_cases hj : j = i
      · subst hj
        simp [hsame, Entry.vacantAt]
      · simpa [hne hj] using h2 j
    · obtain ⟨hnd, hl⟩ := h3 x
      simp only [Fin.getElem_fin] at hnd hl
      have hw : (s.retire i).stations[x.val].watchList =
          if x ∈ s.entries[i].watchers then s.stations[x.val].watchList.erase i else s.stations[x.val].watchList := by
        rw [hst]; rfl
      simp only [Fin.getElem_fin] at hw ⊢
      rw [hw]
      split
      · exact ⟨hnd.erase i, (List.length_erase_le).trans hl⟩
      · exact ⟨hnd, hl⟩
  · rw [State.retire_mgmtNotices hv]
    exact insertIdx_ascending_ite h.1
  · simp only [Fin.getElem_fin, hst]
    exact insertIdx_ascending_ite (h.2 x)
  · simp only [Fin.getElem_fin, hst] at hx
    split at hx
    · cases hx
    · exact h x st hx
  · simp only [State.retire_inhibit, State.retire_resetPin] at hp
    have ho := h hp o
    simp only [Fin.getElem_fin] at ho ⊢
    rw [State.retire_outs_at hv]
    split
    · exact ho
    · exact ho
  · by_cases hji : j = i
    · subst hji
      simp [hsame, Entry.vacantAt] at hj
    · simp only [Fin.getElem_fin, hne hji, State.retire_servo] at hj ⊢
      exact h j hj

/-! ## Creation (R11) -/

theorem State.own_stations_at (s : State) (l : Link) (x : Addr) : (s.own l).stations[x.val] =
    { s.stations[x] with owned := s.stations[x].owned + (if l = .station x then 1 else 0) } := by
  cases l with
  | mgmt => simp [State.own]
  | station y =>
    simp only [State.own, State.setStation_get]
    by_cases h : x = y
    · subst h; simp
    · have hy : ¬y = x := fun e => h e.symm
      simp [h, hy]

theorem State.fillEntry_stations_at (s : State) (i : Idx) (l : Link) (d : EntryDef) (x : Addr) :
    (s.fillEntry i l d).stations[x.val] =
      { s.stations[x] with owned := s.stations[x].owned + (if l = .station x then 1 else 0) } := by
  simp [State.fillEntry, State.own_stations_at]

theorem State.fillEntry_entries (s : State) (i : Idx) (l : Link) (d : EntryDef) :
    (s.fillEntry i l d).entries = s.entries.set i (d.entry s.entries[i].gen l s.now s.civil) := by
  simp [State.fillEntry, State.setEntry]

theorem State.own_sameBut (s : State) (l : Link) : s.sameBut [.stations] (s.own l) := by
  cases l with
  | mgmt => exact State.sameBut.refl s _
  | station x => exact s.setStation_sameBut x _

theorem State.fillEntry_sameBut (s : State) (i : Idx) (l : Link) (d : EntryDef) :
    s.sameBut [.entries, .stations] (s.fillEntry i l d) :=
  (s.setEntry_sameBut i _).trans (State.own_sameBut _ l)

/-- R11: of what an entry is made with, the parts that a definition does not give. -/
theorem EntryDef.entry_fields (d : EntryDef) (g : BitVec 8) (l : Link) (t : Nat) (c : Civil) :
    (d.entry g l t c).state = .pending ∧ (d.entry g l t c).motion = .pending ∧ (d.entry g l t c).owner = l
      ∧ (d.entry g l t c).eps = 0 ∧ (d.entry g l t c).watchers = [] ∧ (d.entry g l t c).name = d.name
      ∧ (d.entry g l t c).gen = g := by
  simp only [EntryDef.entry, Entry.waitFrom, Entry.withBases]
  split <;> simp [Entry.vacantAt]

theorem State.fillEntry_sound {l : Link} (d : EntryDef) (hv : s.entries[i].state = .vacant) (hq : s.quotaUsed l = false) :
    s.soundTo (s.fillEntry i l d) := by
  have hent := s.fillEntry_entries i l d
  have hst := s.fillEntry_stations_at i l d
  obtain ⟨hs1, hs2, hs3, hs4, hs5, -, -⟩ := d.entry_fields s.entries[i.val].gen l s.now s.civil
  have hne (j : Idx) (hj : j ≠ i) : (s.fillEntry i l d).entries[j.val] = s.entries[j.val] := by
    have : i.val ≠ j.val := fun g => hj (Fin.ext g.symm)
    simp [hent, Vector.getElem_set_ne, this]
  have hat : (s.fillEntry i l d).entries[i.val] = d.entry s.entries[i.val].gen l s.now s.civil := by simp [hent]
  refine { owned := fun h x => ?_, watch := fun h => ?_, notices := fun h => ⟨?_, fun x => ?_⟩, streams := fun h x st hx => ?_,
           quiet := fun h hp o => ?_, offset := fun h j hj => ?_ }
  · obtain ⟨h1, h2⟩ := h x
    have hi : i ∉ s.ownedBy x := fun g => (State.mem_ownedBy.1 g).1 hv
    have herase := State.ownedBy_erase hne x
    rw [List.erase_of_not_mem hi] at herase
    simp only [Fin.getElem_fin] at h1 h2 ⊢
    rw [hst]
    by_cases ho : l = .station x
    · subst ho
      have hm : i ∈ (s.fillEntry i (.station x) d).ownedBy x := State.mem_ownedBy.2 (by rw [hat, hs1, hs3]; simp)
      have := State.ownedBy_length_of_mem hm
      have h8 : s.stations[x.val].owned ≠ 8 := by simpa [State.quotaUsed] using hq
      rw [herase] at this
      simp
      omega
    · have hm : i ∉ (s.fillEntry i l d).ownedBy x := fun g => ho (by simpa [hat, hs3] using (State.mem_ownedBy.1 g).2)
      rw [List.erase_of_not_mem hm] at herase
      simp [ho, herase]
      omega
  · obtain ⟨h1, h2, h3⟩ := h
    have hw : s.entries[i.val].watchers = [] := (h2 i).2.2 hv
    have hj (j : Idx) : (s.fillEntry i l d).entries[j.val].watchers = s.entries[j.val].watchers := by
      by_cases hj : j = i
      · subst hj; rw [hat, hs5, hw]
      · rw [hne j hj]
    refine ⟨fun j x => ?_, fun j => ?_, fun x => ?_⟩
    · simpa [hst, hj] using h1 j x
    · obtain ⟨ha, hb, hc⟩ := h2 j
      simp only [Fin.getElem_fin, hj] at ha hb hc ⊢
      refine ⟨ha, hb, fun g => ?_⟩
      by_cases hji : j = i
      · subst hji; exact hw
      · rw [hne j hji] at g; exact hc g
    · simpa [hst] using h3 x
  · rw [s.fillEntry_sameBut i l d .mgmtNotices (by simp)]; exact h.1
  · simpa [hst] using h.2 x
  · simp only [Fin.getElem_fin, hst] at hx
    exact h x st hx
  · rw [State.fillEntry_inhibit, State.fillEntry_resetPin] at hp
    have ho := h hp o
    simpa using ho
  · by_cases hji : j = i
    · subst hji
      simp [hat, hs2, hs4]
    · simp only [Fin.getElem_fin, hne j hji, State.fillEntry_servo] at hj ⊢
      exact h j hj

/-! ## Watching (R22, R23) -/

/-- A change of the two sides of watches alone: what the other conditions speak of stands. -/
theorem State.soundTo.of_watch (h : s.sameBut [.entries, .stations] u)
    (he : ∀ j : Idx, ∃ w m, u.entries[j.val] = { s.entries[j.val] with watchers := w, mgmtWatch := m })
    (hx : ∀ y : Addr, ∃ w n, u.stations[y.val] = { s.stations[y.val] with watchList := w, notices := n }
      ∧ (s.stations[y.val].notices.Pairwise (· < ·) → n.Pairwise (· < ·)))
    (hw : s.watchInv → u.watchInv) : s.soundTo u where
  owned hs y := by
    obtain ⟨w, n, hy, -⟩ := hx y
    have ho : u.ownedBy y = s.ownedBy y := List.filter_congr fun j _ => by
      obtain ⟨_, _, hj⟩ := he j
      simp [hj]
    simpa [hy, ho] using hs y
  watch := hw
  notices hs := by
    refine ⟨by rw [show u.mgmtNotices = s.mgmtNotices from h .mgmtNotices (by simp)]; exact hs.1, fun y => ?_⟩
    obtain ⟨w, n, hy, hn⟩ := hx y
    simp only [Fin.getElem_fin, hy]
    exact hn (hs.2 y)
  streams hs y st hst := by
    obtain ⟨w, n, hy, -⟩ := hx y
    exact hs y st (by simpa [hy] using hst)
  quiet hs := by
    simpa only [State.quietInv, show u.outs = s.outs from h .outs (by simp), show u.inhibit = s.inhibit from h .inhibit (by simp),
      show u.resetPin = s.resetPin from h .resetPin (by simp)] using hs
  offset hs j hj := by
    obtain ⟨_, _, he⟩ := he j
    have hr : u.servo = s.servo := h .servo (by simp)
    simp only [Fin.getElem_fin, he, hr] at hj ⊢
    exact hs j hj

theorem watchEntry_sound {l : Link} (hv : s.entries[i].state ≠ .vacant) : s.soundTo (watchEntry l i s).1 := by
  cases l with
  | mgmt => exact (State.calm.setEntry .of_eq).sound
  | station x =>
    simp only [watchEntry]
    split
    · exact .refl s
    split
    · exact .refl s
    next hx hl =>
    simp only [not_or, not_le] at hl
    obtain ⟨hle, hlx⟩ := hl
    simp only [Fin.getElem_fin] at hx hle hlx hv ⊢
    refine .of_watch (((s.setEntry_sameBut i _).trans (State.setStation_sameBut _ x _)).mono (by simp)) (fun j => ?_)
      (fun y => ?_) fun ⟨h1, h2, h3⟩ => ?_
    · simp only [State.setStation_entries, State.setEntry_get]
      split
      · next hj => subst hj; exact ⟨_, _, rfl⟩
      · exact ⟨_, _, rfl⟩
    · simp only [State.setStation_get, State.setEntry_stations]
      split
      · next hy => subst hy; exact ⟨_, _, rfl, id⟩
      · exact ⟨_, _, rfl, id⟩
    · simp only [Fin.getElem_fin] at h1 h2 h3
      have hix : i ∉ s.stations[x.val].watchList := fun g => hx ((h1 i x).2 g)
      refine ⟨fun j y => ?_, fun j => ?_, fun y => ?_⟩
      · have hjy := h1 j y
        simp only [Fin.getElem_fin, State.setStation_entries, State.setEntry_get, State.setStation_get, State.setEntry_stations]
        by_cases hj : j = i <;> by_cases hy : y = x
        · subst hj hy; simp
        · subst hj; simp [hy, hjy]
        · subst hy; simp [hj, hjy]
        · simp [hj, hy, hjy]
      · simp only [Fin.getElem_fin, State.setStation_entries, State.setEntry_get]
        split
        · next hj =>
          subst hj
          obtain ⟨hn, -, -⟩ := h2 j
          exact ⟨by simpa using hn.concat hx, by simpa using hle, fun g => absurd g hv⟩
        · exact h2 j
      · simp only [Fin.getElem_fin, State.setStation_get, State.setEntry_stations]
        split
        · next hy =>
          subst hy
          obtain ⟨hn, -⟩ := h3 y
          exact ⟨by simpa using hn.concat hix, by simpa using hlx⟩
        · exact h3 y

theorem unwatchEntry_sound {l : Link} (hv : s.entries[i].state ≠ .vacant) : s.soundTo (unwatchEntry l i s).1 := by
  cases l with
  | mgmt => exact (State.calm.setEntry .of_eq).sound
  | station x =>
    simp only [unwatchEntry]
    split
    case isFalse => exact .refl s
    next hx =>
    simp only [Fin.getElem_fin] at hx hv ⊢
    refine .of_watch (((s.setEntry_sameBut i _).trans (State.setStation_sameBut _ x _)).mono (by simp)) (fun j => ?_)
      (fun y => ?_) fun ⟨h1, h2, h3⟩ => ?_
    · simp only [State.setStation_entries, State.setEntry_get]
      split
      · next hj => subst hj; exact ⟨_, _, rfl⟩
      · exact ⟨_, _, rfl⟩
    · simp only [State.setStation_get, State.setEntry_stations]
      split
      · next hy => subst hy; exact ⟨_, _, rfl, id⟩
      · exact ⟨_, _, rfl, id⟩
    · simp only [Fin.getElem_fin] at h1 h2 h3
      refine ⟨fun j y => ?_, fun j => ?_, fun y => ?_⟩
      · have hjy := h1 j y
        have hnj := (h2 i).1
        have hny := (h3 x).1
        simp only [Fin.getElem_fin, State.setStation_entries, State.setEntry_get, State.setStation_get, State.setEntry_stations]
        by_cases hj : j = i <;> by_cases hy : y = x
        · subst hj hy; simp [hnj.mem_erase_iff, hny.mem_erase_iff]
        · subst hj; simp [hy, hjy, hnj.mem_erase_iff]
        · subst hy; simp [hj, hjy, hny.mem_erase_iff]
        · simp [hj, hy, hjy]
      · simp only [Fin.getElem_fin, State.setStation_entries, State.setEntry_get]
        split
        · next hj =>
          subst hj
          obtain ⟨hn, hl, -⟩ := h2 j
          exact ⟨hn.erase x, List.length_erase_le.trans hl, fun g => absurd g hv⟩
        · exact h2 j
      · simp only [Fin.getElem_fin, State.setStation_get, State.setEntry_stations]
        split
        · next hy =>
          subst hy
          obtain ⟨hn, hl⟩ := h3 y
          exact ⟨hn.erase i, List.length_erase_le.trans hl⟩
        · exact h3 y

/-! ## A station taken off (R21) -/

/-- R21: station `x` is taken out of the watches, and hears no more. -/
def State.unwatchAll (x : Addr) (s : State) : State :=
  let mine := s.stations[x].watchList
  let s2 := s.mapEntries fun i e => if i ∈ mine then { e with watchers := e.watchers.erase x } else e
  s2.setStation x { s2.stations[x] with watchList := [], notices := [] }

/-- R21: the entries of station `x` are retired. -/
def State.retireOwned (x : Addr) (s : State) : State :=
  (List.finRange 64).foldl (fun s i =>
    if s.entries[i].state ≠ .vacant ∧ s.entries[i].owner = .station x then s.retire i else s) s

theorem State.orphan_eq (x : Addr) (s : State) : s.orphan x = (s.retireOwned x).unwatchAll x := rfl

theorem State.unwatchAll_sound (s : State) (x : Addr) : s.soundTo (s.unwatchAll x) := by
  unfold State.unwatchAll
  refine .of_watch (((s.mapEntries_sameBut _).trans (State.setStation_sameBut _ x _)).mono (by simp)) (fun j => ?_)
    (fun y => ?_) fun ⟨h1, h2, h3⟩ => ?_
  · simp only [State.setStation_entries, State.mapEntries_at]
    split
    · exact ⟨_, _, rfl⟩
    · exact ⟨_, _, rfl⟩
  · simp only [State.setStation_get, State.mapEntries_stations]
    split
    · next hy => subst hy; exact ⟨_, _, rfl, fun _ => .nil⟩
    · exact ⟨_, _, rfl, id⟩
  · simp only [Fin.getElem_fin] at h1 h2 h3
    have hw (j : Idx) : (if j ∈ s.stations[x.val].watchList then { s.entries[j.val] with
        watchers := s.entries[j.val].watchers.erase x } else s.entries[j.val]).watchers = s.entries[j.val].watchers.erase x := by
      split
      · rfl
      · next hj => exact (List.erase_of_not_mem fun g => hj ((h1 j x).1 g)).symm
    have hs (j : Idx) : (if j ∈ s.stations[x.val].watchList then { s.entries[j.val] with
        watchers := s.entries[j.val].watchers.erase x } else s.entries[j.val]).state = s.entries[j.val].state := by
      split <;> rfl
    refine ⟨fun j y => ?_, fun j => ?_, fun y => ?_⟩
    · have hnj := (h2 j).1
      simp only [Fin.getElem_fin, State.setStation_entries, State.mapEntries_at, State.setStation_get,
        State.mapEntries_stations, hw, hnj.mem_erase_iff, h1 j y]
      by_cases hy : y = x
      · subst hy; simp
      · simp [hy]
    · obtain ⟨hn, hl, hv⟩ := h2 j
      simp only [Fin.getElem_fin, State.setStation_entries, State.mapEntries_at, hw, hs]
      exact ⟨hn.erase x, List.length_erase_le.trans hl, fun g => by rw [hv g]; rfl⟩
    · simp only [Fin.getElem_fin, State.setStation_get, State.mapEntries_stations]
      split
      · simp
      · exact h3 y

theorem State.retireOwned_sound (s : State) (x : Addr) : s.soundTo (s.retireOwned x) :=
  State.soundTo.handled.foldl _ s fun u j => by
    split
    · exact u.retire_sound j
    · exact .refl u

theorem State.orphan_sound (s : State) (x : Addr) : s.soundTo (s.orphan x) := by
  rw [State.orphan_eq]
  exact (s.retireOwned_sound x).trans (State.unwatchAll_sound _ x)

/-! ## The soft reset of the table (R29) -/

theorem State.vacateAll_entries_at (s : State) (j : Idx) : s.vacateAll.entries[j.val] =
    if s.entries[j].state = .vacant then s.entries[j] else Entry.vacantAt (s.entries[j].gen + 1) := by
  simp [State.vacateAll, State.settleEntries_eq]

theorem State.vacateAll_stations_at (s : State) (y : Addr) : s.vacateAll.stations[y.val] =
    { s.stations[y] with owned := 0, watchList := [], notices := [] } := by
  simp [State.vacateAll, State.settleEntries_eq]

theorem State.vacateAll_sound (s : State) : s.soundTo s.vacateAll := by
  have hv (j : Idx) : s.vacateAll.entries[j.val].state = .vacant := by
    rw [State.vacateAll_entries_at]
    split
    · next h => exact h
    · rfl
  refine { owned := fun h x => ?_, watch := fun h => ?_, notices := fun h => ⟨?_, fun x => ?_⟩, streams := fun h x st hx => ?_,
           quiet := fun h hp o => ?_, offset := fun h j hj => absurd (hv j) hj }
  · have : s.vacateAll.ownedBy x = [] := List.filter_eq_nil_iff.2 fun j _ => by simp [hv j]
    simp [State.vacateAll_stations_at, this]
  · obtain ⟨h1, h2, h3⟩ := h
    have hw (j : Idx) : s.vacateAll.entries[j.val].watchers = [] := by
      rw [State.vacateAll_entries_at]
      split
      · next g => exact (h2 j).2.2 g
      · rfl
    refine ⟨fun j x => ?_, fun j => ?_, fun x => ?_⟩
    · simp [hw, State.vacateAll_stations_at]
    · simp [hw]
    · simp [State.vacateAll_stations_at]
  · simp [State.vacateAll, State.settleEntries_eq]
  · simp [State.vacateAll_stations_at]
  · simp only [Fin.getElem_fin, State.vacateAll_stations_at] at hx
    exact h x st hx
  · rw [State.vacateAll_inhibit, State.vacateAll_resetPin] at hp
    have ho := h hp o
    simpa using ho

end Sys2Proof.Machine

/-! PROOFS. The shared operations over the records and the mark engine keep the conditions on them. -/

namespace Sys2Proof.Machine

open Sys2Proof Config

section

variable {s u : State} {i : Idx} {x : Addr}

/-! ## Changes of one part -/

/-- A change of parts that no condition speaks of. -/
theorem State.soundTo.of_asides (h : s.sameBut State.calm.asides u) : s.soundTo u := (State.calm.of_asides h).sound

theorem State.soundTo.setStation {r : Station} (h : s.stations[x].follows r) : s.soundTo (s.setStation x r) :=
  (State.calm.setStation h).sound

theorem State.soundTo.setEntry {e : Entry} (h : Entry.follows s.servo.params.slewRange s.entries[i] e) :
    s.soundTo (s.setEntry i e) := (State.calm.setEntry h).sound

theorem State.soundTo.setChain (s : State) (c : Chain) : s.soundTo { s with chain := c } := State.soundTo.handled.setChain s c

theorem State.soundTo.mapStations {f : Addr → Station → Station} (h : ∀ x : Addr, s.stations[x].follows (f x s.stations[x])) :
    s.soundTo (s.mapStations f) := (State.calm.mapStations h).sound

theorem State.soundTo.mapEntries {f : Idx → Entry → Entry}
    (h : ∀ i : Idx, Entry.follows s.servo.params.slewRange s.entries[i] (f i s.entries[i])) : s.soundTo (s.mapEntries f) :=
  (State.calm.mapEntries h).sound

theorem State.soundTo.mapOutputs {f : Output → Output} (h : ∀ o : Output, o.follows (f o)) : s.soundTo (s.mapOutputs f) :=
  (State.calm.mapOutputs h).sound

theorem State.soundTo.setOutput {o : OutNo} {r : Output} (h : s.outs[o].follows r) : s.soundTo (s.setOutput o r) :=
  (State.calm.setOutput h).sound

theorem State.soundTo.ite {a b : State} {c : Prop} [Decidable c] (ha : c → s.soundTo a) (hb : ¬c → s.soundTo b) :
    s.soundTo (if c then a else b) := by
  split
  · next h => exact ha h
  · next h => exact hb h

theorem Output.follows.ite {o a b : Output} {c : Prop} [Decidable c] (ha : o.follows a) (hb : o.follows b) :
    o.follows (if c then a else b) := by
  split
  · exact ha
  · exact hb

theorem Entry.follows.ite {range : Nat} {e a b : Entry} {c : Prop} [Decidable c] (ha : c → Entry.follows range e a)
    (hb : ¬c → Entry.follows range e b) : Entry.follows range e (if c then a else b) := by
  split
  · next h => exact ha h
  · next h => exact hb h

/-- R9: a change of motion of an entry whose offset then fits it. -/
theorem Entry.follows.withMotion {range : Nat} {e f : Entry} {m : Motion} (hv : e.state ≠ .vacant) (hs : f.state = e.state)
    (ho : f.owner = e.owner) (hw : f.watchers = e.watchers)
    (hf : e.offsetFits range → (m = .pending ∨ m = .running → f.eps = 0) ∧ (m = .slewing → f.eps.natAbs ≤ range)) :
    Entry.follows range e (f.withMotion m) where
  vacant := by
    have hm : m.toState ≠ .vacant := by cases m <;> simp [Motion.toState]
    simp only [Entry.withMotion, hs, hv, iff_false]
    split
    · simp
    · exact hm
  owner := ho
  watchers := hw
  offset _ h := hf h

/-! ## Attention and notices -/

theorem State.raise_sound (s : State) (c : Cause) : s.soundTo (s.raise c) :=
  .of_asides ((s.raise_sameBut c).mono (by simp [State.calm.asides]))

/-- A change of the management notice set that keeps its order. -/
theorem State.soundTo.of_notices (h : s.sameBut [.mgmtNotices, .attn] u)
    (hm : s.mgmtNotices.Pairwise (· < ·) → u.mgmtNotices.Pairwise (· < ·)) : s.soundTo u := by
  have he : u.entries = s.entries := h .entries (by simp)
  have hx : u.stations = s.stations := h .stations (by simp)
  have ho : u.outs = s.outs := h .outs (by simp)
  have hc : s.calm u :=
    { range := by rw [show u.servo = s.servo from h .servo (by simp)]
      inhibit := h .inhibit (by simp)
      resetPin := h .resetPin (by simp)
      entries := fun i => by rw [he]; exact .rfl
      stations := fun x => by rw [hx]; exact .rfl
      notices := hm
      outs := fun o => by rw [ho]; exact .rfl }
  exact hc.sound

theorem State.noteManagement_sound (s : State) (i : Idx) : s.soundTo (s.noteManagement i) :=
  .of_notices (s.noteManagement_sameBut i) fun h => by
    rw [State.noteManagement_mgmtNotices]; exact insertIdx_ascending i h

theorem State.settleEntries_sound (s : State) : s.soundTo s.settleEntries := by
  rw [State.settleEntries_eq]
  exact .of_notices (fun p hp => by cases p <;> simp [State.samePart] at hp ⊢) id

theorem State.notify_sound (s : State) (i : Idx) : s.soundTo (s.notify i) := by
  have h : s.soundTo (s.mapStations fun x r =>
      if x ∈ s.entries[i].watchers then { r with notices := insertIdx i r.notices } else r) :=
    .mapStations fun x => .ite (fun _ => ⟨rfl, rfl, insertIdx_ascending i, id⟩) fun _ => .rfl
  exact .ite (fun _ => h.trans (State.noteManagement_sound _ i)) fun _ => h

theorem State.leaveNotices_sound (l : Link) (n : Nat) (s : State) : s.soundTo (s.leaveNotices l ((s.noticesOf l).drop n)) := by
  cases l with
  | mgmt =>
    refine .trans (.of_notices (u := { s with mgmtNotices := s.mgmtNotices.drop n }) (fun p hp => ?_) fun h => h.drop)
      (State.settleEntries_sound _)
    cases p <;> simp [State.samePart] at hp ⊢
  | station x => exact .setStation ⟨rfl, rfl, fun h => h.drop, id⟩

/-! ## Pulses -/

theorem Output.skip_inProgress (o : Output) (n : Nat) : (o.skip n).inProgress = o.inProgress := rfl
theorem Output.discard_inProgress (o : Output) : o.discard.inProgress = o.inProgress := rfl
theorem Output.unbind_inProgress (o : Output) : o.unbind.inProgress = o.inProgress := rfl
theorem Output.shift_inProgress (o : Output) (d t : Int) : (o.shift d t).inProgress = o.inProgress := rfl
theorem Output.fitTo_inProgress (o : Output) (pf : Nat) : (o.fitTo pf).inProgress = o.inProgress := rfl
theorem Output.fitFree_inProgress (o : Output) : o.fitFree.inProgress = o.inProgress := rfl

theorem Output.fix_inProgress (o : Output) (k : Nat) (a : Int) : (o.fix k a).inProgress = o.inProgress := by
  unfold Output.fix
  split
  · rfl
  · split <;> rfl

theorem Output.endPulse_inProgress (o : Output) (t : Int) : (o.endPulse t).inProgress = none := by
  unfold Output.endPulse
  split
  · assumption
  · rfl

theorem Output.follows.of_eq {o r : Output} (h : r.inProgress = o.inProgress) : o.follows r := fun g => h.trans g

theorem State.shiftPulses_sound (s : State) (i : Idx) (d t : Int) : s.soundTo (s.shiftPulses i d t) :=
  .mapOutputs fun _ => .ite (.of_eq rfl) .rfl
theorem State.stopPulses_sound (s : State) (i : Idx) : s.soundTo (s.stopPulses i) := .mapOutputs fun _ => .ite (.of_eq rfl) .rfl
theorem State.fixPulses_sound (s : State) (i : Idx) (k : Nat) (a : Int) : s.soundTo (s.fixPulses i k a) :=
  .mapOutputs fun o => .ite (.of_eq (o.fix_inProgress k a)) .rfl
theorem State.fitOutputs_sound (s : State) (i : Idx) : s.soundTo (s.fitOutputs i) := .mapOutputs fun _ => .ite (.of_eq rfl) .rfl

/-! ## Streams -/

theorem State.mapStreamsOn_sound (s : State) (i : Idx) {f : Station → Stream → Stream} (hf : ∀ r st, st.fair → (f r st).fair) :
    s.soundTo (s.mapStreamsOn i f) :=
  .mapStations fun x => by
    generalize s.stations[x] = r
    cases hr : r.stream with
    | none => exact .rfl
    | some st =>
      refine .ite (fun _ => .stream fun h st' hs => ?_) fun _ => .rfl
      cases hs
      exact hf r st (h st hr)

theorem State.replan_sound (s : State) (i : Idx) (how : Replan) (t : Int) : s.soundTo (s.replan i how t) :=
  s.mapStreamsOn_sound i fun _ _ h => h.replan _ _ _ _

theorem State.skipSuspended_sound (s : State) (i : Idx) (k : Nat) : s.soundTo (s.skipSuspended i k) :=
  s.mapStreamsOn_sound i fun _ st h => by
    split
    · exact h
    · exact h

theorem Station.follows.noStream {r : Station} : r.follows { r with stream := none } := .stream fun _ _ h => by cases h

theorem State.closeStream_sound (s : State) (x : Addr) : s.soundTo (s.closeStream x) :=
  .trans (.setStation .noStream) (.setChain _ _)

/-! ## The mark engine -/

theorem State.endCheck_sound (s : State) (i : Idx) : s.soundTo (s.endCheck i) := by
  simp only [State.endCheck]
  split
  · exact .ite (fun _ => s.retire_sound i) fun _ => .setEntry .of_eq
  · exact .refl s

theorem Entry.snapped_follows {range : Nat} {e : Entry} (hv : e.state ≠ .vacant) (r : Int) :
    Entry.follows range e (e.snapped r) :=
  .ite (fun _ => .withMotion hv rfl rfl rfl fun _ => ⟨fun _ => rfl, fun h => by cases h⟩)
    fun _ => .withMotion hv rfl rfl rfl fun _ => ⟨fun _ => rfl, fun h => by cases h⟩

theorem State.snap_sound (hv : s.entries[i].state ≠ .vacant) (d r : Int) : s.soundTo (s.snap i d r) := by
  have h : s.soundTo ((s.shiftPulses i d r).setEntry i (s.entries[i].snapped r)) :=
    (s.shiftPulses_sound i d r).trans (.setEntry (by
      simp only [State.shiftPulses_servo, State.shiftPulses_entries]; exact Entry.snapped_follows hv r))
  exact (h.trans (.ite (fun _ => State.stopPulses_sound _ i) fun _ => .refl _)).trans (State.replan_sound _ i _ r)

theorem slewMotion_fits (range : Nat) (eps : Int) :
    (slewMotion range eps = .pending ∨ slewMotion range eps = .running → eps = 0)
      ∧ (slewMotion range eps = .slewing → eps.natAbs ≤ range) := by
  unfold slewMotion
  split
  · simp_all
  · split <;> simp_all

theorem holdMotion_fits (range : Nat) (eps : Int) :
    (holdMotion eps = .pending ∨ holdMotion eps = .running → eps = 0) ∧ (holdMotion eps = .slewing → eps.natAbs ≤ range) := by
  unfold holdMotion
  split <;> simp_all

theorem State.moveOffset_sound (hv : s.entries[i].state ≠ .vacant) (old : Entry) (a b c r : Int) :
    s.soundTo (s.moveOffset i old a b c r) := by
  refine .ite (fun _ => State.snap_sound hv _ _) fun _ => ?_
  refine .trans ((s.shiftPulses_sound i b r).trans (.setEntry ?_)) (State.replan_sound _ i _ r)
  simp only [State.shiftPulses_servo, State.shiftPulses_entries]
  refine .withMotion hv rfl rfl rfl fun _ => ?_
  split
  · exact slewMotion_fits _ _
  · exact holdMotion_fits _ _

theorem State.stepEntry_sound (theta : Int) (t : Nat) (s : State) (i : Idx) : s.soundTo (s.stepEntry theta t i) := by
  refine .ite (fun _ => .refl s) fun hv => ?_
  have h1 : s.soundTo (s.setEntry i { s.entries[i] with lm := s.entries[i].lm.map (· + theta) }) := .setEntry .of_eq
  have h3 : ∀ u : State, u.soundTo (if u.entries[i].state = .ending ∧ 0 < theta ∧ u.entries[i].endAt.any (fun x => x ≤ t)
      then u.retire i else u.endCheck i) := fun u => .ite (fun _ => u.retire_sound i) fun _ => u.endCheck_sound i
  refine .trans (.trans (h1.trans (.ite (fun _ => ?_) fun _ => ?_)) (State.notify_sound _ i)) (h3 _)
  · refine .trans (.setEntry ?_) (State.replan_sound _ i _ _)
    simp only [Fin.getElem_fin, State.setEntry_at]
    exact .of_eq
  · exact State.moveOffset_sound (by simpa using hv) _ _ _ _ _

theorem State.phaseChange_sound (hv : s.entries[i].state ≠ .vacant) (phi : Int) : s.soundTo (s.phaseChange i phi) := by
  refine .ite (fun _ => ?_) fun _ => ?_
  · refine .trans (.trans (.setEntry .of_eq) (.setEntry ?_)) (State.replan_sound _ i _ _)
    simp only [Fin.getElem_fin, State.setEntry_at]
    exact .of_eq
  · exact .trans (.setEntry .of_eq) (State.moveOffset_sound (by simpa using hv) _ _ _ _ _)

theorem State.holdWide_sound (s : State) : s.soundTo s.holdWide :=
  State.soundTo.handled.foldl _ s fun u i => by
    refine .ite (fun ⟨hv, _, _⟩ => ?_) fun _ => .refl u
    refine .trans (.trans (.setEntry ?_) (State.replan_sound _ i _ _)) (State.notify_sound _ i)
    exact .withMotion hv rfl rfl rfl fun _ => ⟨fun h => by simp at h, fun h => by simp at h⟩

/-! ## The label unit and timebase steps -/

theorem Entry.withBases_follows (range : Nat) (e : Entry) (c : Civil) : Entry.follows range e (e.withBases c) :=
  .ite (fun _ => .of_eq) fun _ => .of_eq

theorem Entry.withNextBase_follows (range : Nat) (e : Entry) (c : Civil) : Entry.follows range e (e.withNextBase c) :=
  .ite (fun _ => .of_eq) fun _ => .of_eq

theorem State.setCivilPart_sameBut (s : State) (c : Civil) : s.sameBut [.civil] { s with civil := c } := by
  intro p hp
  cases p <;> simp [State.samePart] at hp ⊢

theorem State.soundTo.setCivilPart (s : State) (c : Civil) : s.soundTo { s with civil := c } :=
  .of_asides ((s.setCivilPart_sameBut c).mono (by simp [State.calm.asides]))

theorem State.reschedule_sound (s : State) : s.soundTo s.reschedule := by
  have h := State.soundTo.setCivilPart s { s.civil with tn := s.civil.nextJam }
  unfold State.reschedule
  exact h.trans (.mapEntries fun _ => .ite (fun _ => .rfl) fun _ => Entry.withNextBase_follows _ _ _)

theorem State.rebase_sound (s : State) (old : Civil) (r : Nat) : s.soundTo (s.rebase old r) := by
  have h := State.soundTo.setCivilPart s (s.civil.rebased r)
  unfold State.rebase
  exact .ite (fun _ => h) fun _ => h.trans (.mapEntries fun _ => .ite (fun _ => .rfl) fun _ => Entry.withBases_follows _ _ _)

theorem State.stepLabels_sound (s : State) (t : Nat) : s.soundTo (s.stepLabels t) := by
  unfold State.stepLabels
  exact (State.soundTo.setCivilPart s _).trans (State.rebase_sound _ _ t)

theorem State.setTb_sameBut (s : State) (b : Timebase) : s.sameBut [.tb] { s with tb := b } := by
  intro p hp
  cases p <;> simp [State.samePart] at hp ⊢

theorem State.setSlots_sameBut (s : State) (k : Vector CaptureSlot 4) : s.sameBut [.slots] { s with slots := k } := by
  intro p hp
  cases p <;> simp [State.samePart] at hp ⊢

theorem State.setTime_sound (s : State) (t : Nat) : s.soundTo (s.setTime t) :=
  .of_asides ((s.setTb_sameBut _).mono (by simp [State.calm.asides]))

theorem State.setSlots_sound (s : State) (k : Vector CaptureSlot 4) : s.soundTo { s with slots := k } :=
  .of_asides ((s.setSlots_sameBut k).mono (by simp [State.calm.asides]))

/-- R148: an open answer window learns of a timebase step. -/
def Chain.stepped (c : Chain) (cycle : Nat) : Chain :=
  { c with svc := c.svc.map fun v =>
      { v with window := v.window.map fun w => { w with steppedAt := w.steppedAt.or (some cycle) } } }

/-- R113: the pulse in progress and the last inactive edge move with a timebase step. -/
def Output.stepped (theta : Int) (o : Output) : Output :=
  { o with inProgress := o.inProgress.map (fun p => { p with active := p.active + theta, inactive := p.inactive + theta })
           lastInactive := o.lastInactive.map (· + theta) }

/-- R77: what a timebase step does to the records before it reaches the entries. -/
def State.stepRecords (theta : Int) (s : State) : State :=
  { s.voidSlots with chain := s.chain.stepped s.cycle }.mapOutputs (Output.stepped theta)

theorem State.stepEffects_eq (s : State) (theta : Int) (t : Nat) :
    s.stepEffects theta t = ((List.finRange 64).foldl (State.stepEntry theta t) (s.stepRecords theta)).stepLabels t := rfl

theorem State.stepRecords_sound (s : State) (theta : Int) : s.soundTo (s.stepRecords theta) := by
  have h1 : s.soundTo s.voidSlots := s.setSlots_sound _
  have h2 := h1.trans (State.soundTo.setChain s.voidSlots (s.chain.stepped s.cycle))
  exact h2.trans (.mapOutputs fun o h => by simp [Output.stepped, h])

theorem State.stepEffects_sound (s : State) (theta : Int) (t : Nat) : s.soundTo (s.stepEffects theta t) := by
  rw [State.stepEffects_eq]
  exact ((s.stepRecords_sound theta).trans (State.soundTo.handled.foldl _ _ fun u i => u.stepEntry_sound theta t i)).trans
    (State.stepLabels_sound _ t)

theorem State.wrap_sound (s : State) : s.soundTo s.wrap := by
  unfold State.wrap
  refine State.soundTo.trans ?_ (State.stepEffects_sound _ _ _)
  exact ((s.setTime_sound _).trans (.mapOutputs fun _ => .of_eq rfl))

theorem State.applyStep_sound (s : State) (theta : Int) : s.soundTo (s.applyStep theta) := by
  have h : s.soundTo ((s.setTime (s.stepTarget theta)).stepEffects theta (s.stepTarget theta)) :=
    (s.setTime_sound _).trans (State.stepEffects_sound _ theta _)
  unfold State.applyStep
  exact .ite (fun _ => h.trans (State.wrap_sound _)) fun _ => h

end

end Sys2Proof.Machine

/-! PROOFS. The requests, the stations and the chain's events keep the conditions on the records. -/

namespace Sys2Proof.Machine

open Sys2Proof Config

section

variable {s u : State} {i : Idx} {x : Addr}

/-! ## Requests of the table -/

theorem createReply_sound (l : Link) (q : CreateReq) (s : State) : s.soundTo (createReply l q s).1 := by
  simp only [createReply, refuse]
  split
  · exact .refl s
  split
  · exact .refl s
  next j hj =>
  have hv : s.entries[j].state = .vacant := by simpa using List.find?_some hj
  split
  · exact .refl s
  next hq =>
  split
  · exact .refl s
  · exact State.fillEntry_sound _ hv (by simpa using hq)

/-- What a SET makes of the part on its way: the conditions kept, and the entry not VACANT. -/
def Edit.soundFrom (i : Idx) (s : State) (y : Edit) : Prop := s.soundTo y.state ∧ y.state.entries[i].state ≠ .vacant

theorem Entry.withBases_state (e : Entry) (c : Civil) : (e.withBases c).state = e.state := by
  unfold Entry.withBases
  split <;> rfl

theorem Entry.withMotion_state_ne (e : Entry) (m : Motion) : (e.withMotion m).state ≠ .vacant := by
  have hm : m.toState ≠ .vacant := by cases m <;> simp [Motion.toState]
  simp only [Entry.withMotion]
  split
  · simp
  · exact hm

theorem Entry.restart_follows {range : Nat} {e : Entry} (hv : e.state ≠ .vacant) (num den t : Nat) (c : Civil) :
    Entry.follows range e (e.restart num den t c) := by
  simp only [Entry.restart, Entry.waitFrom]
  refine .withMotion hv ?_ ?_ ?_ fun _ => ⟨fun _ => ?_, fun h => by cases h⟩
  all_goals
    simp only [Entry.withBases]
    split <;> rfl

theorem Edit.rate_sound {y : Edit} (h : y.soundFrom i s) (q : Option (Nat × Nat)) : (y.rate i q).soundFrom i s := by
  obtain ⟨h1, hv⟩ := h
  unfold Edit.rate
  split
  · exact ⟨h1, hv⟩
  dsimp only
  split
  · exact ⟨h1.trans (.setEntry .of_eq), by simpa using hv⟩
  · refine ⟨h1.trans (.trans (.trans (State.stopPulses_sound _ i) (.setEntry ?_)) (State.replan_sound _ i _ _)), ?_⟩
    · simp only [State.stopPulses_servo, State.stopPulses_entries]
      exact Entry.restart_follows hv _ _ _ _
    · simp only [Fin.getElem_fin, State.replan_entries, State.setEntry_at]
      exact Entry.withMotion_state_ne _ _

theorem State.moveOffset_state_ne (old : Entry) (a b c r : Int) (s : State) :
    (s.moveOffset i old a b c r).entries[i.val].state ≠ .vacant := by
  unfold State.moveOffset
  simp only [apply_ite State.entries]
  split
  · simp only [State.snap, State.replan_entries, apply_ite State.entries, State.stopPulses_entries, ite_self, State.setEntry_at,
      Entry.snapped, apply_ite Entry.state]
    split <;> exact Entry.withMotion_state_ne _ _
  · simp only [State.replan_entries, State.setEntry_at]
    exact Entry.withMotion_state_ne _ _

theorem Edit.phase_sound {y : Edit} (h : y.soundFrom i s) (q : Option Int) : (y.phase i q).soundFrom i s := by
  obtain ⟨h1, hv⟩ := h
  unfold Edit.phase
  split
  · exact ⟨h1, hv⟩
  dsimp only
  split
  · exact ⟨h1, hv⟩
  · refine ⟨h1.trans (State.phaseChange_sound hv _), ?_⟩
    simp only [State.phaseChange, apply_ite State.entries]
    split
    · simpa [Entry.waitFrom] using hv
    · exact State.moveOffset_state_ne _ _ _ _ _ _

theorem Edit.slew_sound {y : Edit} (h : y.soundFrom i s) (q : Option Nat) : (y.slew i q).soundFrom i s := by
  obtain ⟨h1, hv⟩ := h
  cases q with
  | none => exact ⟨h1, hv⟩
  | some v => exact ⟨h1.trans (.trans (.setEntry .of_eq) (State.replan_sound _ i _ _)), by simpa [Edit.slew] using hv⟩

theorem Edit.policy_sound {y : Edit} (h : y.soundFrom i s) (q : Option Policy) : (y.policy i q).soundFrom i s := by
  obtain ⟨h1, hv⟩ := h
  cases q with
  | none => exact ⟨h1, hv⟩
  | some v => exact ⟨h1.trans (.setEntry .of_eq), by simpa [Edit.policy] using hv⟩

theorem Edit.label_sound {y : Edit} (h : y.soundFrom i s) (q : Option LabelMode) : (y.label i q).soundFrom i s := by
  obtain ⟨h1, hv⟩ := h
  unfold Edit.label
  split
  · exact ⟨h1, hv⟩
  dsimp only
  split
  · exact ⟨h1, hv⟩
  · refine ⟨h1.trans (.setEntry (.ite (fun _ => .of_eq) fun _ => .of_eq)), ?_⟩
    simpa [Entry.withBases_state] using hv

theorem Edit.name_sound {y : Edit} (h : y.soundFrom i s) (q : Option (List Byte)) : (y.name i q).soundFrom i s := by
  obtain ⟨h1, hv⟩ := h
  cases q with
  | none => exact ⟨h1, hv⟩
  | some v => exact ⟨h1.trans (.setEntry .of_eq), by simpa [Edit.name] using hv⟩

theorem SetReq.apply_sound (q : SetReq) (hv : s.entries[i].state ≠ .vacant) : (SetReq.apply q i s).soundFrom i s :=
  Edit.name_sound (Edit.label_sound (Edit.policy_sound (Edit.slew_sound (Edit.phase_sound
    (Edit.rate_sound (y := ⟨s, false, false, false⟩) ⟨.refl s, hv⟩ _) _) _) _) _) _

theorem Edit.finish_sound (y : Edit) (i : Idx) : y.state.soundTo (y.finish i) := by
  have h : y.state.soundTo (if y.notice then y.state.notify i else y.state) :=
    .ite (fun _ => State.notify_sound _ i) fun _ => .refl _
  exact .ite (fun _ => h.trans (State.endCheck_sound _ i)) fun _ => h

theorem setReply_sound (l : Link) (q : SetReq) (s : State) : s.soundTo (setReply l q s).1 := by
  unfold setReply
  split
  · exact .refl s
  · refine State.soundTo.handled.onEntry fun i hv => State.soundTo.handled.withAuthority ?_
    split
    · exact .refl s
    · exact (SetReq.apply_sound q hv).1.trans (Edit.finish_sound _ i)

theorem State.realign_sound (hv : s.entries[i].state ≠ .vacant) : s.soundTo (s.realign i) := by
  have hsnap : s.soundTo (((s.snap i (-s.entries[i].eps) s.now).notify i).endCheck i) :=
    ((State.snap_sound hv _ _).trans (State.notify_sound _ i)).trans (State.endCheck_sound _ i)
  simp only [State.realign]
  split
  · refine .ite (fun ⟨_, hr⟩ => ?_) fun _ => hsnap
    refine .trans (.trans (.trans ((s.shiftPulses_sound i 0 s.now).trans (.setEntry ?_)) (State.replan_sound _ i _ _))
      (State.notify_sound _ i)) (State.endCheck_sound _ i)
    simp only [State.shiftPulses_servo, State.shiftPulses_entries]
    exact .withMotion hv rfl rfl rfl fun _ => ⟨fun h => by simp at h, fun _ => hr⟩
  · exact hsnap
  · exact .refl s
  · exact .refl s

theorem State.setEnd_sound (hv : s.entries[i].state ≠ .vacant) (t : Nat) : s.soundTo (s.setEnd i t) := by
  have h : s.soundTo ((s.setEntry i { s.entries[i] with state := .ending, endAt := some t, endTaken := false }).replan i
      (.recompute s.entries[i]) s.now) :=
    .trans (.setEntry (i := i) (e := { s.entries[i] with state := .ending, endAt := some t, endTaken := false })
      ⟨by simp [show s.entries[i.val].state ≠ .vacant from hv], rfl, rfl, fun _ => id⟩) (State.replan_sound _ i _ _)
  exact .trans (.ite (fun _ => h) fun _ => h.trans (State.notify_sound _ i)) (State.endCheck_sound _ i)

theorem State.setStream_sound (s : State) (x : Addr) {st : Stream} (h : st.fair) :
    s.soundTo (s.setStation x { s.stations[x] with stream := some st }) :=
  .setStation (.stream fun _ _ hs => by cases hs; exact h)

theorem clampNat_bounds {lo hi : Nat} (h : lo ≤ hi) (n : Nat) : lo ≤ clampNat lo hi n ∧ clampNat lo hi n ≤ hi := by
  unfold clampNat
  split
  · omega
  · split <;> omega

/-- R151: what a STREAM makes of the state. -/
theorem streamEntry_state (x : Addr) (i : Idx) (d lead : Nat) (s : State) :
    (streamEntry x i d lead s).1 = (s.closeStream x).setStation x { (s.closeStream x).stations[x] with
      stream := some (openStream ⟨i, s.entries[i].gen⟩ s.entries[i] (max (clampNat 1 65535 d) (leastStep s.entries[i].pf))
        (clampNat 10000 10000000 lead) (s.closeStream x).stations[x].delta s.now) } := by
  simp only [streamEntry]

theorem openStream_fair (ref : EntryRef) (e : Entry) {d lead : Nat} (h1 : 1 ≤ d) (h2 : 10000 ≤ lead) (h3 : lead ≤ 10000000)
    (delta : Option Nat) (t : Nat) : (openStream ref e d lead delta t).fair := by
  unfold openStream
  exact Stream.fair.choose ⟨h1, h2, h3⟩ _ _ _ _ _

theorem streamEntry_sound (x : Addr) (i : Idx) (d lead : Nat) (s : State) : s.soundTo (streamEntry x i d lead s).1 := by
  obtain ⟨h1, h2⟩ := clampNat_bounds (lo := 10000) (hi := 10000000) (by norm_num) lead
  have hstep := (clampNat_bounds (lo := 1) (hi := 65535) (by norm_num) d).1.trans (Nat.le_max_left _ (leastStep s.entries[i].pf))
  rw [streamEntry_state]
  exact (s.closeStream_sound x).trans (State.setStream_sound _ x (openStream_fair _ _ hstep h1 h2 _ _))

/-! ## Stations and the line -/

theorem Station.follows.mapStream {r : Station} {f : Stream → Stream} (hf : ∀ st, st.fair → (f st).fair) :
    r.follows { r with stream := r.stream.map f } := .stream fun h => Stream.fair.map hf h

theorem State.silence_sound (s : State) (x : Addr) : s.soundTo (s.silence x) :=
  .trans (.setStation (.trans (.mapStream (f := fun st => st.suspend s.cycle) fun _ h => h) .of_eq)) (State.raise_sound _ _)

theorem State.clearStation_sound (s : State) (x : Addr) : s.soundTo (s.clearStation x) := by
  simp only [State.clearStation]
  refine .trans (.trans (.trans (s.closeStream_sound x) (.setStation ?_)) (State.soundTo.handled.setArrivals _ _)) (State.raise_sound _ _)
  exact ⟨rfl, rfl, id, fun _ st h => by cases h⟩

theorem State.stationAbsent_sound (s : State) (x : Addr) : s.soundTo (s.stationAbsent x) :=
  (s.orphan_sound x).trans (State.clearStation_sound _ x)

theorem State.cutLine_sound (s : State) (c : CutFrame) : s.soundTo (s.cutLine c) := .setChain s _

theorem State.countLine_sound (s : State) (f : LineCounters → LineCounters) : s.soundTo (s.countLine f) := .setChain s _

theorem State.abortTx_sound (s : State) : s.soundTo s.abortTx := by
  unfold State.abortTx
  split
  · exact .ite (fun _ => s.cutLine_sound _) fun _ => .refl s
  · exact .ite (fun _ => (s.cutLine_sound _).trans (.setStation (.mapStream fun _ h => h)))
      fun _ => s.cutLine_sound _

theorem State.leaveChain_sound (s : State) (c : ChainState) : s.soundTo (s.leaveChain c) := by
  unfold State.leaveChain
  exact (s.abortTx_sound.trans (.setChain _ _)).trans (State.raise_sound _ _)

theorem State.enterRunning_sound (s : State) : s.soundTo s.enterRunning := by
  unfold State.enterRunning
  exact (State.soundTo.setChain s _).trans (State.raise_sound _ _)

theorem State.enterBroken_sound (s : State) : s.soundTo s.enterBroken := by
  unfold State.enterBroken
  exact ((s.leaveChain_sound _).trans (State.countLine_sound _ _)).trans
    (State.soundTo.handled.foldl _ _ fun u x => .ite (fun _ => u.silence_sound x) fun _ => .refl u)

theorem State.holdChain_sound (s : State) : s.soundTo s.holdChain := by
  unfold State.holdChain
  exact .ite (fun _ => .refl s) fun _ => ((s.leaveChain_sound _).trans
    (State.soundTo.handled.foldl _ _ fun u x => .ite (fun _ => u.stationAbsent_sound x) fun _ => .refl u)).trans (.setChain _ _)

theorem State.releaseChain_sound (s : State) : s.soundTo s.releaseChain := by
  unfold State.releaseChain
  exact .ite (fun _ => .ite (fun _ => s.enterRunning_sound)
    fun _ => (State.soundTo.setChain s _).trans (State.raise_sound _ _)) fun _ => .refl s

theorem State.chainSettings_sound (s : State) (a b : Nat) (c : Bool) : s.soundTo (s.chainSettings a b c) := by
  have h := State.soundTo.setChain s { s.chain with timeout := a, orphan := b, autoRelease := c }
  unfold State.chainSettings
  exact .ite (fun _ => h) fun _ => h.trans
    (State.soundTo.handled.foldl _ _ fun u x => .ite (fun _ => u.stationAbsent_sound x) fun _ => .refl u)

theorem chainReply_sound {act : State → State} (ha : ∀ u : State, u.soundTo (act u)) (q : ChainReq) (s : State) :
    s.soundTo (chainReply act q s).1 := (s.chainSettings_sound _ _ _).trans (ha _)

/-! ## The receiver and the answers -/

theorem State.moveOn_sound (s : State) : s.soundTo s.moveOn := State.soundTo.handled.moveOn s

theorem State.settled_sound (s : State) : s.soundTo s.settled := (State.soundTo.setChain s _).trans (State.moveOn_sound _)

theorem State.missAnswer_sound (s : State) (x : Addr) : s.soundTo (s.missAnswer x) :=
  .ite (fun _ => .ite (fun _ => .trans (.setStation .of_eq) (State.silence_sound _ x)) fun _ => .setStation .of_eq)
    fun _ => .refl s

theorem State.resumeStream_sound (s : State) (x : Addr) : s.soundTo (s.resumeStream x) := by
  simp only [State.resumeStream]
  split
  · exact .refl s
  · next st hst =>
    refine .setStation (.stream fun h st' hs => ?_)
    cases hs
    exact Stream.fair.choose (st := { st with state := .active, holdStart := none }) (h st hst) _ _ _ _ _

theorem State.returnStation_sound (s : State) (x : Addr) : s.soundTo (s.returnStation x) :=
  .trans (.trans (.setStation .of_eq) (State.resumeStream_sound _ x)) (State.raise_sound _ _)

theorem State.answered_sound (s : State) (x : Addr) : s.soundTo (s.answered x) :=
  .ite (fun _ => s.returnStation_sound x) fun _ => .setStation .of_eq

theorem Station.delivered_follows (r : Station) (v : Service) : r.follows (r.delivered v) := by
  simp only [Station.delivered]
  split <;> split <;> exact .of_eq

theorem State.stationRequest_sound (s : State) (x : Addr) (b : List Byte) : s.soundTo (s.stationRequest x b) := by
  simp only [State.stationRequest]
  split
  · exact .trans (.setStation .of_eq) (State.soundTo.handled.setArrivals _ _)
  · exact .setStation .of_eq

theorem State.pollAnswer_sound (s : State) (v : Service) (b : Option (List Byte)) : s.soundTo (s.pollAnswer v b) := by
  have h : s.soundTo ((s.answered v.addr).setStation v.addr ((s.answered v.addr).stations[v.addr].delivered v)) :=
    (s.answered_sound v.addr).trans (.setStation (Station.delivered_follows _ v))
  cases b with
  | none => exact h
  | some b => exact h.trans (State.stationRequest_sound _ _ b)

theorem State.validRange_sound (s : State) (x : Addr) (q t : Nat) : s.soundTo (s.validRange x q t) := by
  have h := Station.follows.mapStream (r := s.stations[x])
    (f := fun st => st.choose s.entries[st.entry.index] (some ((q - turnaround) / 2)) s.now none false)
    fun _ hf => hf.choose _ _ _ _ _
  unfold State.validRange
  exact .ite (fun _ => .trans (.setStation (h.trans .of_eq)) (State.raise_sound _ _)) fun _ => .setStation .of_eq

theorem State.rangeAnswer_sound (s : State) (x : Addr) (w : Window) : s.soundTo (s.rangeAnswer x w) := by
  have h : s.soundTo (s.setStation x { s.stations[x] with missed := 0 }) := .setStation .of_eq
  exact .ite (fun _ => h.trans (State.countLine_sound _ _)) fun _ => h.trans (State.validRange_sound _ x _ _)

theorem State.garble_sound (s : State) (x : Addr) : s.soundTo (s.garble x) :=
  .ite (fun _ => .setStation .of_eq) fun _ => .trans (.setStation .of_eq) (State.raise_sound _ _)

theorem State.noAnswer_sound (s : State) (x : Addr) : s.soundTo (s.noAnswer x) := .setStation .of_eq

theorem State.join_sound (s : State) (x : Addr) : s.soundTo (s.join x) := .trans (.setStation .of_eq) (State.raise_sound _ _)

theorem State.stationAnswer_sound (s : State) (v : Service) (w : Window) (a : Addr) (k : ReturnKind) (b : List Byte) :
    s.soundTo (s.stationAnswer v w a k b) :=
  .ite (fun _ => .ite (fun _ => s.countLine_sound _)
    fun _ => .ite (fun _ => s.rangeAnswer_sound _ w) fun _ => s.pollAnswer_sound v _)
    fun _ => (s.countLine_sound _).trans (State.missAnswer_sound _ _)

theorem State.discoverAnswer_sound (s : State) (x : Addr) (j : Judgement) : s.soundTo (s.discoverAnswer x j) := by
  cases j with
  | valid a k b =>
    exact .ite (fun _ => s.join_sound x) fun _ => (s.countLine_sound _).trans (State.garble_sound _ x)
  | format => exact s.garble_sound x
  | check => exact s.garble_sound x
  | abort => exact s.noAnswer_sound x
  | short => exact s.noAnswer_sound x
  | fill => exact s.noAnswer_sound x

theorem State.settle_sound (s : State) (v : Service) (w : Window) (j : Judgement) : s.soundTo (s.settle v w j) := by
  refine .trans (.ite (fun _ => .ite (fun _ => s.discoverAnswer_sound _ j) fun _ => .refl s) fun _ => ?_) (State.settled_sound _)
  split
  · exact s.stationAnswer_sound v w _ _ _
  · exact s.missAnswer_sound _

theorem State.closeWindow_sound (s : State) (v : Service) : s.soundTo (s.closeWindow v) :=
  .trans (.ite (fun _ => .ite (fun _ => s.noAnswer_sound _) fun _ => .refl s) fun _ => s.missAnswer_sound _)
    (State.settled_sound _)

theorem State.handFrame_sound (s : State) (j : Judgement) : s.soundTo (s.handFrame j) := by
  have h := s.countLine_sound fun c => c.addJudged j
  simp only [State.handFrame]
  split
  · refine .ite (fun _ => h.trans (State.settle_sound _ _ _ j)) fun _ => ?_
    split
    · exact h.trans (State.countLine_sound _ _)
    · exact h
  · split
    · exact h.trans (State.countLine_sound _ _)
    · exact h

theorem State.rxEvent_sound (s : State) (e : RxEvent) (c t : Nat) : s.soundTo (s.rxEvent e c t) := by
  unfold State.rxEvent
  split
  · exact .refl s
  · exact s.countLine_sound _
  · exact s.handFrame_sound _
  · exact .setChain s _
  · exact (s.handFrame_sound _).trans (.setChain _ _)

theorem State.rxLine_sound (p : Fin 8) (line : List Bool) (s : State) : s.soundTo (s.rxLine p line) := by
  induction line generalizing s with
  | nil => exact .refl s
  | cons b bs ih => exact ((State.soundTo.setChain s _).trans (State.rxEvent_sound _ _ _ _)).trans (ih _)

/-! ## The transmitter and its reports -/

theorem State.formService_sound (s : State) (k : FrameKind) : s.soundTo (s.formService k) := by
  rcases s.formService_cases k with ⟨x, _, _, h⟩ | ⟨x, _, _, h⟩ | ⟨_, h⟩ <;> rw [h]
  · exact .setChain s _
  · exact (State.soundTo.setChain s _).trans (State.moveOn_sound _)
  · exact .refl s

theorem State.serve1_sound (s : State) (k : FrameKind) : s.soundTo (s.serve1 k) :=
  .trans (.ite (fun _ => s.moveOn_sound) fun _ => .refl s) (State.formService_sound _ k)

theorem State.openWindow_sound (s : State) : s.soundTo s.openWindow := by
  unfold State.openWindow
  split
  · exact .refl s
  · exact .setChain s _

theorem State.dropReport_sound {st : Stream} (hst : s.stations[x].stream = some st) (k : Nat) : s.soundTo (s.dropReport x st k) := by
  unfold State.dropReport
  refine .trans ?_ (State.countLine_sound _ _)
  refine .setStation (.stream fun h st' hs => ?_)
  cases hs
  exact Stream.fair.choose (st := { st with skipped := satAdd 255 st.skipped 1 }) (h st hst) _ _ _ _ _

theorem State.startReport_sound (s : State) (x : Addr) : s.soundTo (s.startReport x) := by
  simp only [State.startReport]
  split
  · exact .refl s
  · next st hst =>
    split
    · exact .ite (fun _ => State.dropReport_sound hst _) fun _ => .setChain s _
    · exact .refl s

theorem State.finishReport_sound (s : State) (f : TxFrame) : s.soundTo (s.finishReport f) := by
  have h := State.soundTo.setChain s { s.chain with
    tx := none, lineBase := f.startCycle + cyclesPerBit * f.bits, reportEnd := some (f.startCycle + cyclesPerBit * f.bits) }
  simp only [State.finishReport]
  split
  · next st hst =>
    refine .ite (fun _ => h.trans (.setStation (.stream fun hf st' hs => ?_))) fun _ => h
    cases hs
    exact Stream.fair.choose (st := { st with last := some f.mark, skipped := 0 }) (hf st hst) _ _ _ _ _
  · exact h

/-! ## Timers -/

theorem State.silenceExpire_sound (s : State) : s.soundTo s.silenceExpire :=
  .ite (fun _ => (State.soundTo.setChain s _).trans (State.enterBroken_sound _)) fun _ => .setChain s _

theorem State.conflictOver_sound (s : State) (x : Addr) : s.soundTo (s.conflictOver x) :=
  .trans (.setStation .of_eq) (State.raise_sound _ _)

theorem State.holdOver_sound (s : State) (x : Addr) (st : Stream) : s.soundTo (s.holdOver x st) :=
  (s.closeStream_sound x).trans (.setStation ⟨rfl, rfl, insertIdx_ascending _, id⟩)

/-! ## Marks and ends -/

theorem slewMove_le (eps : Int) (n : Nat) : (slewMove eps n).natAbs ≤ eps.natAbs := by
  unfold slewMove
  split <;> omega

theorem Entry.switchAt_eq (e : Entry) (k : Nat) : ∃ b n, e.switchAt k = { e with base := b, next := n } := by
  unfold Entry.switchAt
  split
  · split
    · exact ⟨_, _, rfl⟩
    · exact ⟨e.base, e.next, rfl⟩
  · exact ⟨e.base, e.next, rfl⟩

theorem Entry.emit_follows {range : Nat} {e : Entry} (hv : e.state ≠ .vacant) : Entry.follows range e e.emit := by
  obtain ⟨b, n, hsw⟩ := e.switchAt_eq e.nextMark
  simp only [Entry.emit, hsw]
  cases hm : e.motion with
  | pending =>
    exact .withMotion hv rfl rfl rfl fun ⟨h, _⟩ => ⟨fun _ => h (.inl hm), fun h => by cases h⟩
  | running => exact .of_eq (h4 := hm.symm)
  | held => exact .of_eq (h4 := hm.symm)
  | slewing =>
    refine .ite (fun h0 => .withMotion hv rfl rfl rfl fun _ => ⟨fun _ => h0, fun h => by cases h⟩) fun _ => ?_
    refine ⟨.rfl, rfl, rfl, fun _ ⟨_, h⟩ => ⟨fun g => ?_, fun _ => (slewMove_le _ _).trans (h hm)⟩⟩
    simp at g

theorem State.emitMark_sound (hv : s.entries[i].state ≠ .vacant) : s.soundTo (s.emitMark i) := by
  have h1 : s.soundTo (if s.entries[i].motion = .pending then s.fitOutputs i else s) :=
    .ite (fun _ => s.fitOutputs_sound i) fun _ => .refl s
  have he : (if s.entries[i].motion = .pending then s.fitOutputs i else s).entries = s.entries := by
    split
    · exact State.fitOutputs_entries _ _
    · rfl
  have h2 := ((h1.trans (State.fixPulses_sound _ i s.entries[i].nextMark (s.entries[i].applied s.entries[i].nextMark))).trans
    (.setEntry (i := i) (e := s.entries[i].emit) (by
      simp only [State.fixPulses_servo, State.fixPulses_entries, he]; exact Entry.emit_follows hv))).trans
    (State.skipSuspended_sound _ i s.entries[i].nextMark)
  exact .ite (fun _ => h2) fun _ => h2.trans (State.notify_sound _ i)

theorem State.markDue_sound (hv : s.entries[i].state ≠ .vacant) : s.soundTo (s.markDue i) :=
  .ite (fun _ => (State.emitMark_sound hv).trans (State.retire_sound _ i)) fun _ => State.emitMark_sound hv

theorem State.endDue_sound (s : State) (i : Idx) : s.soundTo (s.endDue i) :=
  .ite (fun _ => s.retire_sound i) fun _ => .setEntry .of_eq

theorem State.jam_sound (s : State) : s.soundTo s.jam := by
  have h := State.soundTo.setCivilPart s s.civil.jammed
  unfold State.jam
  refine (h.trans (.mapEntries fun i => ?_)).trans (State.reschedule_sound _)
  generalize ({ s with civil := s.civil.jammed } : State).entries[i] = e
  unfold Entry.switch
  split
  · exact .of_eq
  · exact .rfl

end

end Sys2Proof.Machine

/-! PROOFS. Parameters, banks, resets and the port keep the conditions on the records; so does every command, and every step
(R5 to R7, R41, R111, R151). -/

namespace Sys2Proof.Machine

open Sys2Proof Config

section

variable {s u : State} {i : Idx} {x : Addr}

/-! ## Operations carried out entry by entry -/

/-- A fold over entries, each step of which changes its own entry as `g` says and leaves the others, changes each as `g` says. -/
theorem State.foldl_entries {I : State → Prop} {f : State → Idx → State} {g : Idx → Entry → Entry}
    (hI : ∀ u i, I u → I (f u i)) (hat : ∀ u i, I u → (f u i).entries[i.val] = g i u.entries[i.val])
    (hne : ∀ u i j, I u → j ≠ i → (f u i).entries[j.val] = u.entries[j.val]) (l : List Idx) (hl : l.Nodup) (s : State) (hs : I s)
    (j : Idx) : (l.foldl f s).entries[j.val] = if j ∈ l then g j s.entries[j.val] else s.entries[j.val] := by
  induction l generalizing s with
  | nil => simp
  | cons i l ih =>
    obtain ⟨hi, hl⟩ := List.nodup_cons.1 hl
    rw [List.foldl_cons, ih hl _ (hI s i hs)]
    by_cases hj : j = i
    · subst hj
      simp [hi, hat s j hs]
    · simp [hj, hne s i j hs hj]

/-- Over all of them. -/
theorem State.foldl_all_entries {I : State → Prop} {f : State → Idx → State} {g : Idx → Entry → Entry}
    (hI : ∀ u i, I u → I (f u i)) (hat : ∀ u i, I u → (f u i).entries[i.val] = g i u.entries[i.val])
    (hne : ∀ u i j, I u → j ≠ i → (f u i).entries[j.val] = u.entries[j.val]) (s : State) (hs : I s) (j : Idx) :
    ((List.finRange 64).foldl f s).entries[j.val] = g j s.entries[j.val] := by
  rw [State.foldl_entries hI hat hne _ (List.nodup_finRange 64) s hs j, if_pos (List.mem_finRange j)]

/-! ## Parameters (R41, R102) -/

/-- R41: each entry that slews further than the range is HELD. -/
theorem State.holdWide_at (s : State) (j : Idx) :
    s.holdWide.entries[j.val] = s.entries[j.val].heldBy s.servo.params.slewRange := by
  refine State.foldl_all_entries (I := fun u => u.servo = s.servo)
    (g := fun _ e => e.heldBy s.servo.params.slewRange) (fun u i hu => ?_) (fun u i hu => ?_) (fun u i j hu hj => ?_) s rfl j
  · dsimp only
    split
    · simpa using hu
    · exact hu
  · simp only [apply_ite State.entries, Entry.heldBy, hu, Fin.getElem_fin]
    split
    · simp
    · rfl
  · simp only [apply_ite State.entries]
    split
    · simp [State.setEntry_ne _ _ _ _ hj]
    · rfl

/-- Whatever its offset was, an entry HELD where it slews too far fits the range. -/
theorem Entry.heldBy_fits {range old : Nat} {e : Entry} (hv : e.state ≠ .vacant) (h : e.offsetFits old) :
    (e.heldBy range).offsetFits range := by
  unfold Entry.heldBy
  split
  · exact ⟨fun g => by simp [Entry.withMotion] at g, fun g => by simp [Entry.withMotion] at g⟩
  · next hn => exact ⟨h.1, fun hm => Nat.le_of_not_lt fun hlt => hn ⟨hv, hm, hlt⟩⟩

theorem Entry.heldBy_vacant (e : Entry) (range : Nat) : (e.heldBy range).state = .vacant ↔ e.state = .vacant := by
  unfold Entry.heldBy
  split
  · next h => simp [h.1, Entry.withMotion_state_ne]
  · rfl

theorem State.noteClass_ties (s : State) : s.tiesKept s.noteClass := by
  unfold State.noteClass
  split
  · exact .refl s
  · exact (State.tiesKept.setServo s _).trans (State.raise_sound _ _).totiesKept

theorem State.noteClass_params (s : State) : s.noteClass.servo.params = s.servo.params := by
  simp only [State.noteClass, apply_ite State.servo, State.raise_servo]
  split <;> rfl

theorem State.noteClass_sound (s : State) : s.soundTo s.noteClass :=
  { s.noteClass_ties with
    offset := fun h => by
      simpa only [State.offsetInv, State.noteClass_entries, State.noteClass_params] using h }

theorem State.enterHoldover_params (s : State) : s.enterHoldover.servo.params = s.servo.params := by
  rw [State.enterHoldover, State.noteClass_params]

theorem State.enterHoldover_ties (s : State) : s.tiesKept s.enterHoldover := by
  unfold State.enterHoldover
  exact (State.tiesKept.setServo s _).trans (State.noteClass_ties _)

theorem State.enterHoldover_sound (s : State) : s.soundTo s.enterHoldover :=
  { s.enterHoldover_ties with
    offset := fun h => by
      simpa only [State.offsetInv, State.enterHoldover_entries, State.enterHoldover_params] using h }

/-- R102: the servo under new parameters, before they reach the entries. -/
def State.takeParams (p : ServoParams) (s : State) : State :=
  let s1 : State := { s with servo := { s.servo with params := p }.limitTo p.limit }
  if s1.holdoverDue then s1.enterHoldover else s1.noteClass

theorem State.applyParams_eq (p : ServoParams) (s : State) : s.applyParams p = (s.takeParams p).holdWide := rfl

theorem State.takeParams_params (p : ServoParams) (s : State) : (s.takeParams p).servo.params = p := by
  simp only [State.takeParams, apply_ite State.servo, apply_ite Servo.params, State.enterHoldover_params, State.noteClass_params]
  split <;> rfl

theorem State.takeParams_entries (p : ServoParams) (s : State) : (s.takeParams p).entries = s.entries := by
  simp only [State.takeParams, apply_ite State.entries, State.enterHoldover_entries, State.noteClass_entries, ite_self]

theorem State.takeParams_ties (p : ServoParams) (s : State) : s.tiesKept (s.takeParams p) := by
  have h := State.tiesKept.setServo s ({ s.servo with params := p }.limitTo p.limit)
  unfold State.takeParams
  dsimp only
  split
  · exact h.trans (State.enterHoldover_ties _)
  · exact h.trans (State.noteClass_ties _)

theorem State.applyParams_sound (s : State) (p : ServoParams) : s.soundTo (s.applyParams p) :=
  { (s.takeParams_ties p).trans (State.holdWide_sound _).totiesKept with
    offset := fun h j hj => by
      rw [State.applyParams_eq] at hj ⊢
      simp only [Fin.getElem_fin, State.holdWide_at, State.takeParams_entries, State.holdWide_servo, State.takeParams_params,
        ne_eq, Entry.heldBy_vacant] at hj ⊢
      exact Entry.heldBy_fits hj (h j hj) }

theorem servoReply_sound (q : ServoReq) (s : State) : s.soundTo (servoReply q s).1 :=
  .ite (fun _ => .refl s) fun _ => s.applyParams_sound _

/-! ## Samples (R91) -/

theorem Servo.row_params (v : Servo) (theta : Int) : (v.row theta).1.params = v.params := by
  have ha (w : Servo) : (w.acquireRow theta).1.params = w.params := by
    unfold Servo.acquireRow
    split
    · rfl
    · split
      · split <;> rfl
      · rfl
  unfold Servo.row
  split
  · rfl
  · exact ha v
  · simp only [Servo.lockedRow]
    split
    · split <;> rfl
    · split <;> rfl
  · exact ha _

theorem State.soundTo.setServo {v : Servo} (h : v.params.slewRange = s.servo.params.slewRange) :
    s.soundTo { s with servo := v } := (State.calm.setServo s v h).sound

theorem State.takeSample_sound (s : State) (theta : Int) : s.soundTo (s.takeSample theta) := by
  have h : s.soundTo { s with servo := (s.judgeSample theta).1 } :=
    .setServo (by rw [State.judgeSample, Servo.row_params]; rfl)
  unfold State.takeSample
  refine .trans (.ite (fun _ => ?_) fun _ => h) (State.noteClass_sound _)
  exact (h.trans (State.applyStep_sound _ theta)).trans (.setServo rfl)

theorem State.markSlot_sound (s : State) (q : BitVec 8) (st : SlotState) : s.soundTo (s.markSlot q st) := s.setSlots_sound _

theorem pairSample_sound (q : SampleReq) (s : State) : s.soundTo (pairSample q s).1 := by
  unfold pairSample
  split
  · exact .refl s
  · dsimp only
    split
    · exact .refl s
    split
    · exact .refl s
    split
    · exact .refl s
    · exact .refl s
    · exact .refl s
    · split
      · exact (s.markSlot_sound q.seq _).trans (.setServo rfl)
      · exact (s.markSlot_sound q.seq _).trans (State.takeSample_sound _ _)

theorem sampleReply_sound (q : SampleReq) (s : State) : s.soundTo (sampleReply q s).1 := by
  unfold sampleReply
  split
  · exact .refl s
  · exact pairSample_sound q s

/-! ## Settings -/

theorem State.setCivil_sound (s : State) (o : Int) (j : Nat) : s.soundTo (s.setCivil o j) := by
  unfold State.setCivil
  exact .ite (fun _ => .refl s) fun _ => (State.soundTo.setCivilPart s _).trans (State.rebase_sound _ _ _)

theorem State.setPending_sound (s : State) (p : Option (Int × Nat)) : s.soundTo (s.setPending p) := by
  unfold State.setPending
  exact .ite (fun _ => .refl s) fun _ => (State.soundTo.setCivilPart s _).trans (State.reschedule_sound _)

theorem civilReply_sound (q : CivilReq) (s : State) : s.soundTo (civilReply q s).1 := by
  unfold civilReply
  split
  · exact .refl s
  · exact (s.setCivil_sound _ _).trans (State.setPending_sound _ _)

theorem Output.setPolarity_inProgress (o : Output) (p : Option Polarity) : (o.setPolarity p).inProgress = o.inProgress := by
  unfold Output.setPolarity
  split
  · rfl
  · split
    · rfl
    · split <;> rfl

theorem Output.setEnabled_follows (o : Output) (b : Option Bool) (t : Int) : o.follows (o.setEnabled b t) := by
  unfold Output.setEnabled
  split
  · exact .rfl
  · exact .rfl
  · exact fun _ => o.endPulse_inProgress t

theorem State.bindOutput_follows (q : BindReq) (b : Option EntryRef) (o : Output) (s : State) : o.follows (s.bindOutput q b o) := by
  have h1 : (o.rebind b).inProgress = o.inProgress := by unfold Output.rebind; split <;> rfl
  have h3 (r : Output) : (s.fit r).inProgress = r.inProgress := by unfold State.fit; split <;> rfl
  intro h
  rw [State.bindOutput, Output.setPolarity_inProgress]
  refine Output.setEnabled_follows _ _ _ ?_
  split
  · rw [h3]; exact h1.trans h
  · exact h1.trans h

theorem State.bindReplyOn_sound (q : BindReq) (o : OutNo) (s : State) : s.soundTo (s.bindReplyOn q o).1 := by
  unfold State.bindReplyOn
  split
  · exact .refl s
  split
  · exact .refl s
  · refine .setOutput (.ite ?_ ?_)
    · exact s.bindOutput_follows q _ _
    · exact s.bindOutput_follows q _ _

theorem bindReply_sound (q : BindReq) (s : State) : s.soundTo (bindReply q s).1 := by
  unfold bindReply
  split
  · exact s.bindReplyOn_sound q _
  · exact .refl s

theorem State.setAttn_sameBut (s : State) (a : Attention) : s.sameBut [.attn] { s with attn := a } := by
  intro p hp
  cases p <;> simp [State.samePart] at hp ⊢

theorem State.setAttention_sound (s : State) (m : AttnMode) (k : CauseSet) : s.soundTo (s.setAttention m k) :=
  .of_asides ((s.setAttn_sameBut _).mono (by simp [State.calm.asides]))

theorem State.setStore_sameBut (s : State) (v : Store) : s.sameBut [.store] { s with store := v } := by
  intro p hp
  cases p <;> simp [State.samePart] at hp ⊢

theorem State.soundTo.setStore (s : State) (v : Store) : s.soundTo { s with store := v } :=
  .of_asides ((s.setStore_sameBut v).mono (by simp [State.calm.asides]))

theorem State.clearFigures_sound (s : State) : s.soundTo s.clearFigures := by
  refine State.calm.sound { State.calm.refl s with .. }

theorem statusReply_sound (c : Bool) (a : AttnAction) (s : State) : s.soundTo (statusReply c a s).1 := by
  have h : ∀ u, s.attnAction a = some u → s.soundTo u := by
    intro u hu
    cases a with
    | keep => cases hu; exact .refl s
    | other n => cases hu
    | set m n =>
      obtain ⟨v, _, rfl⟩ := Option.map_eq_some_iff.1 hu
      exact s.setAttention_sound _ _
  unfold statusReply
  split
  · exact .refl s
  · next u hu => exact .ite (fun _ => (h u hu).trans u.clearFigures_sound) fun _ => h u hu

/-! ## Banks (R30, R120, R175) -/

theorem State.retireForBank_sound (s : State) (all : Bool) : s.soundTo (s.retireForBank all) :=
  State.soundTo.handled.foldl _ s fun u i => .ite (fun _ => u.retire_sound i) fun _ => .refl u

theorem Output.takeBank_inProgress (o : Output) (d : OutputDef) : (o.takeBank d).inProgress = o.inProgress := by
  rw [Output.takeBank, Output.setPolarity_inProgress]
  rfl

/-- A change of the outputs in which no pulse begins. -/
theorem State.soundTo.setOuts {v : Vector Output 16} (h : ∀ o : OutNo, s.outs[o.val].follows v[o.val]) :
    s.soundTo { s with outs := v } :=
  State.calm.sound { State.calm.refl s with outs := h }

theorem State.makeWay_sound (s : State) (c : BankContent) (all : Bool) : s.soundTo (s.makeWay c all) := by
  unfold State.makeWay
  refine (s.retireForBank_sound all).trans (.setOuts fun o => ?_)
  simp only [Vector.getElem_ofFn]
  exact .of_eq (Output.takeBank_inProgress _ _)

theorem State.lowestVacant_vacant (h : s.lowestVacant = some i) : s.entries[i].state = .vacant := by
  simpa using List.find?_some h

theorem createDefs_sound (ds : List EntryDef) (s : State) : s.soundTo (createDefs ds s).1 := by
  induction ds generalizing s with
  | nil => exact .refl s
  | cons d ds ih =>
    unfold createDefs
    split
    · next i hi =>
      split
      · exact ih s
      · exact (State.fillEntry_sound d (State.lowestVacant_vacant hi) rfl).trans (ih _)
    · exact ih s

theorem State.bindByPosition_sound (s : State) (v : Vector OutputDef 16) (m : List (Option EntryRef)) :
    s.soundTo (s.bindByPosition v m) := by
  refine .setOuts fun o => ?_
  simp only [Vector.getElem_ofFn]
  split
  · exact .of_eq rfl
  · exact .rfl

theorem State.takeSettings_sound (s : State) (c : BankContent) (always : Bool) : s.soundTo (s.takeSettings c always) := by
  have h := ((s.setAttention_sound c.mode c.mask).trans (State.applyParams_sound _ c.params)).trans
    (State.setCivil_sound _ c.offset c.jam)
  exact .trans (.ite (fun _ => h.trans (State.rebase_sound _ _ _)) fun _ => h) (State.chainSettings_sound _ _ _ _)

theorem State.applyBank_sound (s : State) (c : BankContent) (always all : Bool) : s.soundTo (s.applyBank c always all).1 :=
  (((s.takeSettings_sound c always).trans (State.makeWay_sound _ c all)).trans (createDefs_sound _ _)).trans
    (State.bindByPosition_sound _ _ _)

theorem State.completeOp_sound (s : State) (r : Result) : s.soundTo (s.completeOp r) := by
  simp only [State.completeOp]
  split
  · exact State.soundTo.handled.setPort s _
  · exact (State.soundTo.handled.setPort s _).trans (State.soundTo.handled.setPort _ _)
  · exact State.soundTo.handled.setPort s _

theorem State.endOp_sound (s : State) (c : Byte) (t : Tag) (st : Status) (b : Body) : s.soundTo (s.endOp c t st b) := by
  unfold State.endOp
  exact ((State.soundTo.setStore s _).trans (State.raise_sound _ _)).trans (State.completeOp_sound _ _)

theorem State.finishSave_sound (s : State) (v : StoreOp) (ws : List Word32) : s.soundTo (s.finishSave v ws) :=
  .ite (fun _ => (State.soundTo.setStore s _).trans (State.endOp_sound _ _ _ _ _))
    fun _ => (State.soundTo.setStore s _).trans (State.endOp_sound _ _ _ _ _)

theorem State.finishLoad_sound (s : State) (v : StoreOp) : s.soundTo (s.finishLoad v) :=
  .ite (fun _ => (s.applyBank_sound _ _ _).trans (State.endOp_sound _ _ _ _ _)) fun _ => s.endOp_sound _ _ _ _

theorem State.applyStartBank_sound (s : State) (c : BankContent) (ok : Bool) : s.soundTo (s.applyStartBank c ok) :=
  .ite (fun _ => (s.applyBank_sound _ _ _).trans (State.releaseChain_sound _)) fun _ => s.applyBank_sound _ _ _

theorem State.endStart_sound (s : State) (ok : Bool) : s.soundTo (s.endStart ok) := by
  unfold State.endStart
  exact (State.soundTo.setStore s _).trans (State.soundTo.setStore _ _)

theorem State.finishHardStart_sound (s : State) (v : StoreOp) : s.soundTo (s.finishHardStart v) := by
  unfold State.finishHardStart
  refine .ite (fun _ => (s.applyStartBank_sound _ _).trans (State.endStart_sound _ _)) fun _ => ?_
  exact (((s.applyStartBank_sound _ _).trans (.mapOutputs fun _ _ => rfl)).trans (State.endStart_sound _ _)).trans
    (State.raise_sound _ _)

theorem State.finishSoftStart_sound (s : State) (v : StoreOp) (t : Tag) : s.soundTo (s.finishSoftStart v t) := by
  unfold State.finishSoftStart
  exact ((s.applyStartBank_sound _ _).trans (State.soundTo.setStore _ _)).trans (State.endOp_sound _ _ _ _ _)

/-! ## Resets (R132, R176, R177) -/

theorem State.resetChain_sound (s : State) : s.soundTo s.resetChain := by
  unfold State.resetChain
  exact .trans (.trans (.ite (fun _ => .refl s) fun _ => s.leaveChain_sound _)
    (State.soundTo.handled.foldl _ _ fun u x => .ite (fun _ => u.clearStation_sound x) fun _ => .refl u)) (.setChain _ _)

theorem State.softReset_sound (s : State) : s.soundTo s.softReset := by
  have h := (s.vacateAll_sound.trans (State.resetChain_sound _)).trans (.mapOutputs (f := Output.unbind) fun _ => .of_eq rfl)
  unfold State.softReset
  exact (h.trans (State.soundTo.setCivilPart _ _)).trans (State.reschedule_sound _)

theorem resetReply_sound (t : Tag) (s : State) : s.soundTo (resetReply t s).1 := by
  unfold resetReply
  split
  · exact .refl s
  · exact s.softReset_sound.trans (State.soundTo.setStore _ _)

end

end Sys2Proof.Machine

/-! PROOFS. Every command, and so every step, keeps the conditions of R5, R6, R7, R41, R111 and R151. -/

namespace Sys2Proof.Machine

open Sys2Proof Config

section

variable {s u : State} {i : Idx} {x : Addr}

/-! ## Pins -/

theorem State.hardReset_sound (s : State) : s.soundTo s.hardReset := by
  have he (j : Idx) : s.hardReset.entries[j.val] = Entry.vacantAt 0 := by simp [State.hardReset, State.reset]
  have hx (y : Addr) : s.hardReset.stations[y.val] = Station.cleared := by simp [State.hardReset, State.reset]
  have ho (o : OutNo) : s.hardReset.outs[o.val] = Output.builtIn := by simp [State.hardReset, State.reset]
  refine { owned := fun _ x => ?_, watch := fun _ => ⟨fun j x => ?_, fun j => ?_, fun x => ?_⟩, notices := fun _ => ⟨?_, fun x => ?_⟩,
           streams := fun _ x st hst => ?_, quiet := fun _ _ o => ?_, offset := fun _ j hj => ?_ }
  · have : s.hardReset.ownedBy x = [] := List.filter_eq_nil_iff.2 fun j _ => by simp [he, Entry.vacantAt]
    simp [this, hx, Station.cleared]
  · simp [he, hx, Entry.vacantAt, Station.cleared]
  · simp [he, Entry.vacantAt]
  · simp [hx, Station.cleared]
  · simp [State.hardReset, State.reset]
  · simp [hx, Station.cleared]
  · simp [hx, Station.cleared] at hst
  · simp [ho, Output.builtIn]
  · simp [he, Entry.vacantAt] at hj

/-- A change of the pins and the outputs after which no pulse is in progress where one may not be. -/
theorem State.soundTo.of_pins (h : s.sameBut (.resetPin :: .inhibit :: .outs :: State.calm.asides) u)
    (hq : s.quietInv → u.quietInv) : s.soundTo u := by
  have he : u.entries = s.entries := h .entries (by simp [State.calm.asides])
  have hx : u.stations = s.stations := h .stations (by simp [State.calm.asides])
  have hm : u.mgmtNotices = s.mgmtNotices := h .mgmtNotices (by simp [State.calm.asides])
  have hv : u.servo = s.servo := h .servo (by simp [State.calm.asides])
  exact { owned := by simpa only [State.ownedInv, State.ownedBy, he, hx] using id
          watch := by simpa only [State.watchInv, he, hx] using id
          notices := by simpa only [State.noticesInv, hm, hx] using id
          streams := by simpa only [State.streamsInv, hx] using id
          quiet := hq
          offset := by simpa only [State.offsetInv, he, hv] using id }

theorem State.release_sound (h : s.resetPin = true) (b : Fin 4) : s.soundTo (s.release b) :=
  .of_pins (fun p hp => by cases p <;> simp [State.samePart, State.release, State.calm.asides] at hp ⊢)
    fun hq _ => hq (.inr h)

theorem State.setInhibit_sameBut (s : State) (b : Bool) : s.sameBut [.inhibit] { s with inhibit := b } := by
  intro p hp
  cases p <;> simp [State.samePart] at hp ⊢

theorem State.inhibitRelease_sound (s : State) : s.soundTo { s with inhibit := false } :=
  .of_pins ((s.setInhibit_sameBut false).mono (by simp)) fun hq hp =>
    hq (.inr (hp.resolve_left (by simp)))

theorem Output.inhibited_inProgress (o : Output) (t : Int) : (o.inhibited t).inProgress = none := by
  unfold Output.inhibited
  split
  · split
    · exact (Output.skip_inProgress _ _).trans (o.endPulse_inProgress t)
    · exact o.endPulse_inProgress t
  · assumption

theorem State.inhibitAssertion_sound (s : State) :
    s.soundTo { s.whenReleased (fun s => s.mapOutputs fun o => o.inhibited s.now) with inhibit := true } := by
  cases hr : s.resetPin with
  | true =>
    rw [State.whenReleased_asserted hr]
    exact .of_pins ((s.setInhibit_sameBut true).mono (by simp)) fun hq _ => hq (.inr hr)
  | false =>
    rw [State.whenReleased_deasserted hr]
    refine .of_pins (((s.mapOutputs_sameBut _).trans (State.setInhibit_sameBut _ true)).mono (by simp)) fun _ _ o => ?_
    simp only [Fin.getElem_fin, State.mapOutputs_at]
    exact Output.inhibited_inProgress _ _

/-! ## Edges -/

/-- A pulse begins only while INHIBIT is not asserted. -/
theorem Output.activeEdge_inProgress (o : Output) : (o.activeEdge true).inProgress = o.inProgress := by
  unfold Output.activeEdge
  split
  · rfl
  · simp [Output.mayBegin, Output.skip]

theorem State.activeEdge_sound (h : s.resetPin = false) (o : OutNo) :
    s.soundTo (s.setOutput o (s.outs[o].activeEdge s.inhibit)) := by
  cases hi : s.inhibit with
  | true => exact .setOutput (.of_eq (Output.activeEdge_inProgress _))
  | false =>
    exact .of_pins ((s.setOutput_sameBut o _).mono (by simp)) fun _ hp => by simp [h, hi] at hp

theorem Output.inactiveEdge_follows (o : Output) : o.follows o.inactiveEdge := by
  unfold Output.inactiveEdge
  split
  · exact fun _ => o.endPulse_inProgress _
  · exact .rfl

/-! ## Every command -/

theorem State.setAttn_sound (s : State) (a : Attention) : s.soundTo { s with attn := a } :=
  .of_asides ((s.setAttn_sameBut a).mono (by simp [State.calm.asides]))

theorem State.tick_sound (s : State) : s.soundTo s.tick :=
  .of_asides fun p hp => by cases p <;> simp [State.samePart, State.calm.asides] at hp ⊢

theorem State.fileEdge_sound (s : State) (p : Fin 8) : s.soundTo (s.fileEdge p) :=
  .of_asides fun q hp => by cases q <;> simp [State.samePart, State.calm.asides] at hp ⊢

/-- R161: what the arrival of a body at the port can do. -/
theorem State.portArrive_eq (s : State) (b : List Byte) : ∃ p a, s.portArrive b = { s with port := p, arrivals := a } := by
  unfold State.portArrive
  split
  · exact ⟨_, s.arrivals, rfl⟩
  · exact ⟨_, _, rfl⟩
  · exact ⟨_, _, rfl⟩

theorem State.setPortArrivals_sameBut (s : State) (p : Port) (a : List Link) :
    s.sameBut [.port, .arrivals] { s with port := p, arrivals := a } := by
  intro q hq
  cases q <;> simp [State.samePart] at hq ⊢

theorem State.spiWritten_sound (s : State) (rest : List Byte) : s.soundTo (s.spiWritten rest) := by
  unfold State.spiWritten
  split
  · next b _ =>
    obtain ⟨p, a, h⟩ := s.portArrive_eq b
    rw [h]
    exact .of_asides ((s.setPortArrivals_sameBut p a).mono (by simp [State.calm.asides]))
  · exact State.soundTo.handled.setPort s _

/-- The commands that are requests. -/
theorem exec_request_sound (l : Link) (t : Tag) (r : Req) (s s' : State) (h : exec (r.toInstr l t) s = .next s') :
    s.soundTo s' := by
  have hR := State.soundTo.handled
  cases r <;> cases h
  case find => exact hR.serve fun u => by unfold findReply; split; · exact .refl u
                                          split <;> exact .refl u
  case read => exact hR.serve fun u => hR.onEntry fun _ _ => .refl u
  case list => exact hR.serve fun u => by unfold listReply; split <;> exact .refl u
  case next => exact hR.serve fun u => hR.onEntry fun _ _ => .refl u
  case stations => exact hR.serve fun u => by unfold stationsReply; split <;> exact .refl u
  case notices => exact hR.serve fun u => u.leaveNotices_sound l 12
  case create q => exact hR.serve (createReply_sound l q)
  case set q => exact hR.serve (setReply_sound l q)
  case realign => exact hR.serve fun u => hR.onEntry fun i hv => hR.withAuthority (State.realign_sound hv)
  case retire => exact hR.serve fun u => hR.onEntry fun i _ => hR.withAuthority (u.retire_sound i)
  case retireWithEnd => exact hR.serve fun u => hR.onEntry fun i hv => hR.withAuthority (State.setEnd_sound hv _)
  case watch => exact hR.serve fun u => hR.onEntry fun _ hv => watchEntry_sound hv
  case unwatch => exact hR.serve fun u => hR.onEntry fun _ hv => unwatchEntry_sound hv
  case stream => exact hR.serve fun u => hR.forStation (fun x u => hR.onEntry fun i _ => streamEntry_sound x i _ _ u) u
  case unstream => exact hR.serve fun u => hR.forStation (fun x u => u.closeStream_sound x) u
  case sample q => exact hR.serve (hR.forManagement (sampleReply_sound q))
  case servo q => exact hR.serve (hR.forManagement (servoReply_sound q))
  case civil q => exact hR.serve (hR.forManagement (civilReply_sound q))
  case bind q => exact hR.serve (hR.forManagement (bindReply_sound q))
  case chain act q =>
    refine hR.serve (hR.forManagement fun u => ?_)
    split
    · exact chainReply_sound (fun v => .refl v) q u
    · exact .refl u
  case chainHold q => exact hR.serve (hR.forManagement (chainReply_sound State.holdChain_sound q))
  case chainRelease q => exact hR.serve (hR.forManagement (chainReply_sound State.releaseChain_sound q))
  case save n =>
    refine hR.serve (hR.forManagement fun u => ?_)
    unfold onBank
    split
    · split
      · exact .refl u
      · exact (State.soundTo.setStore u _).trans (State.soundTo.setStore _ _)
    · exact .refl u
  case load n =>
    refine hR.serve (hR.forManagement fun u => ?_)
    unfold onBank
    split
    · split
      · exact .refl u
      · exact State.soundTo.setStore u _
    · exact .refl u
  case reset => exact hR.serve (hR.forManagement (resetReply_sound t))
  case status c a => exact hR.serve (hR.forManagement (statusReply_sound c a))

/-- Every command keeps the conditions. -/
theorem exec_sound (c : Instr) (s s' : State) (h : exec c s = .next s') : s.soundTo s' := by
  have hR := State.soundTo.handled
  cases c
  case find l t a => exact exec_request_sound l t (.find a) s s' h
  case read l t a => exact exec_request_sound l t (.read a) s s' h
  case list l t a => exact exec_request_sound l t (.list a) s s' h
  case next l t a b => exact exec_request_sound l t (.next a b) s s' h
  case stations l t a => exact exec_request_sound l t (.stations a) s s' h
  case notices l t => exact exec_request_sound l t .notices s s' h
  case create l t q => exact exec_request_sound l t (.create q) s s' h
  case set l t q => exact exec_request_sound l t (.set q) s s' h
  case realign l t a => exact exec_request_sound l t (.realign a) s s' h
  case retire l t a => exact exec_request_sound l t (.retire a) s s' h
  case retireWithEnd l t a e => exact exec_request_sound l t (.retireWithEnd a e) s s' h
  case watch l t a => exact exec_request_sound l t (.watch a) s s' h
  case unwatch l t a => exact exec_request_sound l t (.unwatch a) s s' h
  case stream l t a d e => exact exec_request_sound l t (.stream a d e) s s' h
  case unstream l t => exact exec_request_sound l t .unstream s s' h
  case sample l t q => exact exec_request_sound l t (.sample q) s s' h
  case servo l t q => exact exec_request_sound l t (.servo q) s s' h
  case civil l t q => exact exec_request_sound l t (.civil q) s s' h
  case bind l t q => exact exec_request_sound l t (.bind q) s s' h
  case chain l t a q => exact exec_request_sound l t (.chain a q) s s' h
  case chainHold l t q => exact exec_request_sound l t (.chainHold q) s s' h
  case chainRelease l t q => exact exec_request_sound l t (.chainRelease q) s s' h
  case save l t b => exact exec_request_sound l t (.save b) s s' h
  case load l t b => exact exec_request_sound l t (.load b) s s' h
  case reset l t => exact exec_request_sound l t .reset s s' h
  case status l t b a => exact exec_request_sound l t (.status b a) s s' h
  all_goals cases h
  case spiWrite octets =>
    refine hR.whenReleased fun _ => ?_
    split
    · exact (hR.setPort s _).trans (hR.setPort _ _)
    · exact .ite (fun _ => (hR.setPort s _).trans (State.spiWritten_sound _ _)) fun _ =>
        .ite (fun _ => hR.setPort s _) fun _ => (hR.setPort s _).trans (hR.setPort _ _)
  case spiRead => exact hR.whenReleased fun _ => hR.setPort s _
  case saveCompletion ws =>
    refine hR.whenReleased fun _ => ?_
    split
    · exact .ite (fun _ => s.finishSave_sound _ ws) fun _ => .refl s
    · exact .refl s
  case loadCompletion =>
    refine hR.whenReleased fun _ => ?_
    split
    · exact .ite (fun _ => s.finishLoad_sound _) fun _ => .refl s
    · exact .refl s
  case startBankLoadCompletion =>
    refine hR.whenReleased fun _ => ?_
    split
    · refine .ite (fun _ => ?_) fun _ => .refl s
      split
      · exact s.finishHardStart_sound _
      · exact s.finishSoftStart_sound _ _
    · exact .refl s
  case hardReset => exact s.hardReset_sound
  case resetRelease b => exact .ite (fun hr => State.release_sound hr b) fun _ => .refl s
  case strobeEdge p => exact hR.whenReleased fun _ => .ite (fun _ => s.fileEdge_sound p) fun _ => .setServo rfl
  case inhibitAssertion => exact s.inhibitAssertion_sound
  case inhibitRelease => exact s.inhibitRelease_sound
  case markDue j =>
    refine hR.whenDue fun _ hd => State.markDue_sound fun hv => ?_
    simp [State.markIsDue, show s.entries[j.val].state = .vacant from hv] at hd
  case endDue j => exact hR.whenDue fun _ _ => s.endDue_sound j
  case jamEvent => exact hR.whenDue fun _ _ => s.jam_sound
  case activeEdge o => exact hR.whenDue fun hr _ => State.activeEdge_sound hr o
  case inactiveEdge o => exact hR.whenDue fun _ _ => .setOutput (Output.inactiveEdge_follows _)
  case holdoverTimerExpiry => exact hR.whenDue fun _ _ => s.enterHoldover_sound
  case holdoverAgeLimitPassed => exact hR.whenDue fun _ _ => s.noteClass_sound
  case attnPulseEnd => exact hR.whenDue fun _ _ => s.setAttn_sound _
  case returnFrame p line => exact hR.whenReleased fun _ => s.rxLine_sound p line
  case answerWindowOpen => exact hR.whenDue fun _ _ => s.openWindow_sound
  case answerWindowClose =>
    refine hR.whenReleased fun _ => ?_
    split
    · exact .ite (fun _ => s.closeWindow_sound _) fun _ => .refl s
    · exact .refl s
  case pollSend => exact hR.whenReleased fun _ => s.serve1_sound _
  case discoverSend => exact hR.whenReleased fun _ => s.serve1_sound _
  case rangeSend => exact hR.whenReleased fun _ => s.serve1_sound _
  case reportStart =>
    refine hR.whenReleased fun _ => ?_
    split
    · exact s.startReport_sound _
    · exact .refl s
  case reportSent =>
    refine hR.whenReleased fun _ => ?_
    split
    · exact s.finishReport_sound _
    · exact .refl s
  case silenceTimerExpiry => exact hR.whenDue fun _ _ => s.silenceExpire_sound
  case liveRunReached => exact hR.whenDue fun _ _ => s.enterRunning_sound
  case orphanTimerExpiry y => exact hR.whenDue fun _ _ => s.stationAbsent_sound y
  case conflictTimerExpiry y => exact hR.whenDue fun _ _ => s.conflictOver_sound y
  case streamHoldExpiry y =>
    refine hR.whenReleased fun _ => ?_
    split
    · exact s.holdOver_sound y _
    · exact .refl s
  case reRangeTimerExpiry y => exact hR.whenDue fun _ _ => .setStation .of_eq
  case timebaseSecondsWrap => exact hR.whenDue fun _ _ => s.tick_sound.trans (State.wrap_sound _)

theorem step_sound {s s' : State} (h : step s = .next s') : s.soundTo s' :=
  State.soundTo.handled.step (fun s _ => s.tick_sound) exec_sound h

/-- R111: while INHIBIT is asserted every TO pin is at its inactive level. -/
theorem State.pinRests_of_inhibit (h : s.inhibit = true) (o : OutNo) : s.pinRests o := by
  unfold State.pinRests State.pinHigh
  generalize s.outs[o] = r
  cases hp : r.polarity <;> simp [h, hp]

end

/-! ## The statements -/

/-- Settles O6: every command keeps the carried offsets within the motions. -/
theorem carriedOffsetStaysWithinMotion : Obligations.CarriedOffsetStaysWithinMotion :=
  fun _ _ hs h => (step_sound h).offset hs

/-- Settles O7: every command keeps the owned counts. -/
theorem ownedCountsStayTrue : Obligations.OwnedCountsStayTrue := fun _ _ hs h => (step_sound h).owned hs

/-- Settles O8: every command keeps the watches, the notice sets and the streams. -/
theorem watchSidesStayInStep : Obligations.WatchSidesStayInStep := fun _ _ h =>
  ⟨(step_sound h).watch, (step_sound h).notices, (step_sound h).streams⟩

/-- Settles O9: every command keeps the outputs quiet, and a pin rests while INHIBIT is asserted. -/
theorem noPulseWhileInhibited : Obligations.NoPulseWhileInhibited := fun _ _ hs h =>
  ⟨(step_sound h).quiet hs, fun hi o => State.pinRests_of_inhibit hi o⟩

end Sys2Proof.Machine

/-! PROOFS. Which parts of the state the shared operations reach. -/

namespace Sys2Proof.Machine

open Sys2Proof Config

/-- The parts that an event of the table reaches. -/
abbrev tableParts : List Part := [.entries, .stations, .outs, .chain, .mgmtNotices, .attn]

/-- The parts that a station's leaving the chain reaches. -/
abbrev offParts : List Part := [.chain, .stations, .entries, .outs, .mgmtNotices, .attn, .arrivals]

/-- The parts that the line reaches when no station leaves. -/
abbrev lineParts : List Part := [.chain, .stations, .attn]

section

variable {s u v : State} {L : List Part}

theorem State.sameBut.comp (h : s.sameBut L u) (h' : u.sameBut L v) : s.sameBut L v :=
  (h.trans h').mono fun p hp => by simpa using hp

theorem State.sameBut.foldl {α : Type} {f : State → α → State} (l : List α) (s : State) (h : ∀ (u : State) (a : α), u.sameBut L (f u a)) :
    s.sameBut L (l.foldl f s) := by
  induction l generalizing s with
  | nil => exact .refl s L
  | cons a l ih => exact (h s a).comp (ih _)

/-! ## The table -/

theorem State.mapStreamsOn_sameBut (s : State) (i : Idx) (f : Station → Stream → Stream) :
    s.sameBut [.stations] (s.mapStreamsOn i f) := s.mapStations_sameBut _

theorem State.replan_sameBut (s : State) (i : Idx) (how : Replan) (t : Int) : s.sameBut [.stations] (s.replan i how t) :=
  s.mapStreamsOn_sameBut i _

theorem State.skipSuspended_sameBut (s : State) (i : Idx) (k : Nat) : s.sameBut [.stations] (s.skipSuspended i k) :=
  s.mapStreamsOn_sameBut i _

theorem State.shiftPulses_sameBut (s : State) (i : Idx) (d t : Int) : s.sameBut [.outs] (s.shiftPulses i d t) :=
  s.mapOutputs_sameBut _

theorem State.stopPulses_sameBut (s : State) (i : Idx) : s.sameBut [.outs] (s.stopPulses i) := s.mapOutputs_sameBut _

theorem State.fixPulses_sameBut (s : State) (i : Idx) (k : Nat) (a : Int) : s.sameBut [.outs] (s.fixPulses i k a) :=
  s.mapOutputs_sameBut _

theorem State.fitOutputs_sameBut (s : State) (i : Idx) : s.sameBut [.outs] (s.fitOutputs i) := s.mapOutputs_sameBut _

theorem State.closeStream_sameBut (s : State) (x : Addr) : s.sameBut [.stations, .chain] (s.closeStream x) :=
  (s.setStation_sameBut x _).trans (State.setChain_sameBut _ _)

theorem State.endCheck_sameBut (s : State) (i : Idx) : s.sameBut tableParts (s.endCheck i) := by
  simp only [State.endCheck]
  split
  · exact .ite (fun _ => s.retire_sameBut i) fun _ => (s.setEntry_sameBut i _).mono (by decide)
  · exact .refl s _

theorem State.snap_sameBut (s : State) (i : Idx) (d r : Int) : s.sameBut [.entries, .outs, .stations] (s.snap i d r) := by
  have h := (s.shiftPulses_sameBut i d r).trans (State.setEntry_sameBut _ i (s.entries[i].snapped r))
  refine State.sameBut.mono (.trans (.ite (fun _ => h.trans (State.stopPulses_sameBut _ i)) fun _ => h.mono (by decide))
    (State.replan_sameBut _ i _ r)) (by decide)

theorem State.moveOffset_sameBut (s : State) (i : Idx) (old : Entry) (a b c r : Int) :
    s.sameBut [.entries, .outs, .stations] (s.moveOffset i old a b c r) :=
  .ite (fun _ => s.snap_sameBut i _ r) fun _ => (((s.shiftPulses_sameBut i b r).trans (State.setEntry_sameBut _ i _)).trans
    (State.replan_sameBut _ i _ r)).mono (by decide)

theorem State.phaseChange_sameBut (s : State) (i : Idx) (phi : Int) :
    s.sameBut [.entries, .outs, .stations] (s.phaseChange i phi) :=
  .ite (fun _ => (((s.setEntry_sameBut i _).trans (State.setEntry_sameBut _ i _)).trans
    (State.replan_sameBut _ i _ _)).mono (by decide))
    fun _ => ((s.setEntry_sameBut i _).trans (State.moveOffset_sameBut _ i _ _ _ _ _)).mono (by decide)

theorem State.stepEntry_sameBut (s : State) (theta : Int) (t : Nat) (i : Idx) : s.sameBut tableParts (s.stepEntry theta t i) := by
  refine .ite (fun _ => .refl s _) fun _ => ?_
  have h1 := s.setEntry_sameBut i { s.entries[i] with lm := s.entries[i].lm.map (· + theta) }
  have h3 : ∀ u : State, u.sameBut tableParts (if u.entries[i].state = .ending ∧ 0 < theta
      ∧ u.entries[i].endAt.any (fun x => x ≤ t) then u.retire i else u.endCheck i) := fun u =>
    .ite (fun _ => u.retire_sameBut i) fun _ => u.endCheck_sameBut i
  refine .comp (.comp (.ite (fun _ => ?_) fun _ => ?_) ((State.notify_sameBut _ i).mono (by decide))) (h3 _)
  · exact ((h1.trans (State.setEntry_sameBut _ i _)).trans (State.replan_sameBut _ i _ _)).mono (by decide)
  · exact (h1.trans (State.moveOffset_sameBut _ i _ _ _ _ _)).mono (by decide)

theorem State.holdWide_sameBut (s : State) : s.sameBut [.entries, .stations, .mgmtNotices, .attn] s.holdWide :=
  .foldl _ s fun u i => .ite (fun _ => (((u.setEntry_sameBut i _).trans (State.replan_sameBut _ i _ _)).trans
    (State.notify_sameBut _ i)).mono (by decide)) fun _ => .refl u _

theorem State.realign_sameBut (s : State) (i : Idx) : s.sameBut tableParts (s.realign i) := by
  have hsnap : s.sameBut tableParts (((s.snap i (-s.entries[i].eps) s.now).notify i).endCheck i) :=
    (((s.snap_sameBut i _ _).trans (State.notify_sameBut _ i)).trans (State.endCheck_sameBut _ i)).mono (by decide)
  simp only [State.realign]
  split
  · exact .ite (fun _ => (((((s.shiftPulses_sameBut i 0 s.now).trans (State.setEntry_sameBut _ i _)).trans
      (State.replan_sameBut _ i _ _)).trans (State.notify_sameBut _ i)).trans (State.endCheck_sameBut _ i)).mono (by decide))
      fun _ => hsnap
  · exact hsnap
  · exact .refl s _
  · exact .refl s _

theorem State.setEnd_sameBut (s : State) (i : Idx) (t : Nat) : s.sameBut tableParts (s.setEnd i t) := by
  have h : s.sameBut tableParts ((s.setEntry i { s.entries[i] with state := .ending, endAt := some t, endTaken := false }).replan i
      (.recompute s.entries[i]) s.now) :=
    ((s.setEntry_sameBut i _).trans (State.replan_sameBut _ i _ _)).mono (by decide)
  exact .comp (.ite (fun _ => h) fun _ => h.comp ((State.notify_sameBut _ i).mono (by decide))) (State.endCheck_sameBut _ i)

theorem State.emitMark_sameBut (s : State) (i : Idx) : s.sameBut tableParts (s.emitMark i) := by
  have h : s.sameBut [.outs] (if s.entries[i].motion = .pending then s.fitOutputs i else s) :=
    .ite (fun _ => s.fitOutputs_sameBut i) fun _ => .refl s _
  have h2 := ((h.trans (State.fixPulses_sameBut _ i s.entries[i].nextMark (s.entries[i].applied s.entries[i].nextMark))).trans
    (State.setEntry_sameBut _ i s.entries[i].emit)).trans (State.skipSuspended_sameBut _ i s.entries[i].nextMark)
  exact .ite (fun _ => h2.mono (by decide)) fun _ => (h2.trans (State.notify_sameBut _ i)).mono (by decide)

theorem State.markDue_sameBut (s : State) (i : Idx) : s.sameBut tableParts (s.markDue i) :=
  .ite (fun _ => (s.emitMark_sameBut i).comp (State.retire_sameBut _ i)) fun _ => s.emitMark_sameBut i

theorem State.endDue_sameBut (s : State) (i : Idx) : s.sameBut tableParts (s.endDue i) :=
  .ite (fun _ => s.retire_sameBut i) fun _ => (s.setEntry_sameBut i _).mono (by decide)

theorem Edit.rate_sameBut (i : Idx) (q : Option (Nat × Nat)) (y : Edit) : y.state.sameBut tableParts (y.rate i q).state := by
  unfold Edit.rate
  split
  · exact .refl _ _
  · dsimp only
    split
    · exact (State.setEntry_sameBut _ i _).mono (by decide)
    · exact (((State.stopPulses_sameBut _ i).trans (State.setEntry_sameBut _ i _)).trans (State.replan_sameBut _ i _ _)).mono
        (by decide)

theorem Edit.phase_sameBut (i : Idx) (q : Option Int) (y : Edit) : y.state.sameBut tableParts (y.phase i q).state := by
  unfold Edit.phase
  split
  · exact .refl _ _
  · dsimp only
    split
    · exact .refl _ _
    · exact (State.phaseChange_sameBut _ i _).mono (by decide)

theorem Edit.slew_sameBut (i : Idx) (q : Option Nat) (y : Edit) : y.state.sameBut tableParts (y.slew i q).state := by
  cases q with
  | none => exact .refl _ _
  | some v => exact ((State.setEntry_sameBut _ i _).trans (State.replan_sameBut _ i _ _)).mono (by decide)

theorem Edit.policy_sameBut (i : Idx) (q : Option Policy) (y : Edit) : y.state.sameBut tableParts (y.policy i q).state := by
  cases q with
  | none => exact .refl _ _
  | some v => exact (State.setEntry_sameBut _ i _).mono (by decide)

theorem Edit.label_sameBut (i : Idx) (q : Option LabelMode) (y : Edit) : y.state.sameBut tableParts (y.label i q).state := by
  unfold Edit.label
  split
  · exact .refl _ _
  · dsimp only
    split
    · exact .refl _ _
    · exact (State.setEntry_sameBut _ i _).mono (by decide)

theorem Edit.name_sameBut (i : Idx) (q : Option (List Byte)) (y : Edit) : y.state.sameBut tableParts (y.name i q).state := by
  cases q with
  | none => exact .refl _ _
  | some v => exact (State.setEntry_sameBut _ i _).mono (by decide)

theorem SetReq.apply_sameBut (q : SetReq) (i : Idx) (s : State) : s.sameBut tableParts (SetReq.apply q i s).state :=
  (((((Edit.rate_sameBut i q.rate ⟨s, false, false, false⟩).comp (Edit.phase_sameBut i q.phi _)).comp
    (Edit.slew_sameBut i q.slew _)).comp (Edit.policy_sameBut i _ _)).comp (Edit.label_sameBut i _ _)).comp
    (Edit.name_sameBut i q.name _)

theorem Edit.finish_sameBut (y : Edit) (i : Idx) : y.state.sameBut tableParts (y.finish i) := by
  have h : y.state.sameBut tableParts (if y.notice then y.state.notify i else y.state) :=
    .ite (fun _ => (State.notify_sameBut _ i).mono (by decide)) fun _ => .refl _ _
  exact .ite (fun _ => h.comp (State.endCheck_sameBut _ i)) fun _ => h

/-! ## Stations -/

theorem State.retireOwned_sameBut (s : State) (x : Addr) : s.sameBut tableParts (s.retireOwned x) :=
  .foldl _ s fun u i => .ite (fun _ => u.retire_sameBut i) fun _ => .refl u _

theorem State.orphan_sameBut (s : State) (x : Addr) : s.sameBut tableParts (s.orphan x) := by
  rw [State.orphan_eq]
  exact (s.retireOwned_sameBut x).comp (((State.mapEntries_sameBut _ _).trans (State.setStation_sameBut _ x _)).mono (by decide))

theorem State.clearStation_sameBut (s : State) (x : Addr) :
    s.sameBut [.stations, .chain, .attn, .arrivals] (s.clearStation x) := by
  simp only [State.clearStation]
  exact ((((s.closeStream_sameBut x).trans (State.setStation_sameBut _ x _)).trans (State.setArrivals_sameBut _ _)).trans
    (State.raise_sameBut _ _)).mono (by decide)

theorem State.stationAbsent_sameBut (s : State) (x : Addr) : s.sameBut offParts (s.stationAbsent x) :=
  ((s.orphan_sameBut x).trans (State.clearStation_sameBut _ x)).mono (by decide)

theorem State.silence_sameBut (s : State) (x : Addr) : s.sameBut [.stations, .attn] (s.silence x) :=
  (s.setStation_sameBut x _).trans (State.raise_sameBut _ _)

theorem State.cutLine_sameBut (s : State) (c : CutFrame) : s.sameBut [.chain] (s.cutLine c) := s.setChain_sameBut _

theorem State.countLine_sameBut (s : State) (f : LineCounters → LineCounters) : s.sameBut [.chain] (s.countLine f) :=
  s.setChain_sameBut _

theorem State.abortTx_sameBut (s : State) : s.sameBut [.chain, .stations] s.abortTx := by
  unfold State.abortTx
  split
  · exact .ite (fun _ => (s.cutLine_sameBut _).mono (by decide)) fun _ => .refl s _
  · exact .ite (fun _ => ((s.cutLine_sameBut _).trans (State.setStation_sameBut _ _ _)).mono (by decide))
      fun _ => (s.cutLine_sameBut _).mono (by decide)

theorem State.leaveChain_sameBut (s : State) (c : ChainState) : s.sameBut lineParts (s.leaveChain c) := by
  unfold State.leaveChain
  exact ((s.abortTx_sameBut.trans (State.setChain_sameBut _ _)).trans (State.raise_sameBut _ _)).mono (by decide)

theorem State.enterRunning_sameBut (s : State) : s.sameBut [.chain, .attn] s.enterRunning := by
  unfold State.enterRunning
  exact (s.setChain_sameBut _).trans (State.raise_sameBut _ _)

theorem State.enterBroken_sameBut (s : State) : s.sameBut lineParts s.enterBroken := by
  unfold State.enterBroken
  exact ((s.leaveChain_sameBut _).comp ((State.countLine_sameBut _ _).mono (by decide))).comp
    (.foldl _ _ fun u x => .ite (fun _ => (u.silence_sameBut x).mono (by decide)) fun _ => .refl u _)

theorem State.holdChain_sameBut (s : State) : s.sameBut offParts s.holdChain := by
  unfold State.holdChain
  exact .ite (fun _ => .refl s _) fun _ => ((((s.leaveChain_sameBut _).mono (by decide)).comp
    (.foldl _ _ fun u x => .ite (fun _ => u.stationAbsent_sameBut x) fun _ => .refl u _))).comp
    ((State.setChain_sameBut _ _).mono (by decide))

theorem State.releaseChain_sameBut (s : State) : s.sameBut [.chain, .attn] s.releaseChain := by
  unfold State.releaseChain
  exact .ite (fun _ => .ite (fun _ => s.enterRunning_sameBut) fun _ => (s.setChain_sameBut _).trans (State.raise_sameBut _ _))
    fun _ => .refl s _

theorem State.chainSettings_sameBut (s : State) (a b : Nat) (c : Bool) : s.sameBut offParts (s.chainSettings a b c) := by
  have h := (s.setChain_sameBut { s.chain with timeout := a, orphan := b, autoRelease := c }).mono (b := offParts) (by decide)
  unfold State.chainSettings
  exact .ite (fun _ => h) fun _ => h.comp
    (.foldl _ _ fun u x => .ite (fun _ => u.stationAbsent_sameBut x) fun _ => .refl u _)

/-! ## The label unit -/

theorem State.reschedule_sameBut (s : State) : s.sameBut [.civil, .entries] s.reschedule := by
  have h := s.setCivilPart_sameBut { s.civil with tn := s.civil.nextJam }
  unfold State.reschedule
  exact h.trans (State.mapEntries_sameBut _ _)

theorem State.rebase_sameBut (s : State) (old : Civil) (r : Nat) : s.sameBut [.civil, .entries] (s.rebase old r) := by
  have h := s.setCivilPart_sameBut (s.civil.rebased r)
  unfold State.rebase
  exact .ite (fun _ => h.mono (by decide)) fun _ => h.trans (State.mapEntries_sameBut _ _)

theorem State.setCivil_sameBut (s : State) (o : Int) (j : Nat) : s.sameBut [.civil, .entries] (s.setCivil o j) := by
  unfold State.setCivil
  exact .ite (fun _ => .refl s _) fun _ => ((s.setCivilPart_sameBut _).trans (State.rebase_sameBut _ _ _)).mono (by decide)

theorem State.setPending_sameBut (s : State) (p : Option (Int × Nat)) : s.sameBut [.civil, .entries] (s.setPending p) := by
  unfold State.setPending
  exact .ite (fun _ => .refl s _) fun _ => ((s.setCivilPart_sameBut _).trans (State.reschedule_sameBut _)).mono (by decide)

/-! ## The receiver and the transmitter -/

theorem State.raiseStation_sameBut (s : State) (x : Addr) (r : Station) (c : Cause) :
    s.sameBut [.stations, .attn] ((s.setStation x r).raise c) := (s.setStation_sameBut x r).trans (State.raise_sameBut _ c)

theorem State.moveOn_sameBut (s : State) : s.sameBut [.chain] s.moveOn := by
  unfold State.moveOn
  split <;> exact s.setChain_sameBut _

theorem State.settled_sameBut (s : State) : s.sameBut [.chain] s.settled :=
  (s.setChain_sameBut _).comp (State.moveOn_sameBut _)

theorem State.missAnswer_sameBut (s : State) (x : Addr) : s.sameBut [.stations, .attn] (s.missAnswer x) :=
  .ite (fun _ => .ite (fun _ => ((s.setStation_sameBut x _).trans (State.silence_sameBut _ x)).mono (by decide))
    fun _ => (s.setStation_sameBut x _).mono (by decide)) fun _ => .refl s _

theorem State.resumeStream_sameBut (s : State) (x : Addr) : s.sameBut [.stations] (s.resumeStream x) := by
  simp only [State.resumeStream]
  split
  · exact .refl s _
  · exact s.setStation_sameBut x _

theorem State.returnStation_sameBut (s : State) (x : Addr) : s.sameBut [.stations, .attn] (s.returnStation x) :=
  (((s.setStation_sameBut x _).trans (State.resumeStream_sameBut _ x)).trans (State.raise_sameBut _ _)).mono (by decide)

theorem State.answered_sameBut (s : State) (x : Addr) : s.sameBut [.stations, .attn] (s.answered x) :=
  .ite (fun _ => s.returnStation_sameBut x) fun _ => (s.setStation_sameBut x _).mono (by decide)

theorem State.stationRequest_sameBut (s : State) (x : Addr) (b : List Byte) :
    s.sameBut [.stations, .arrivals] (s.stationRequest x b) := by
  simp only [State.stationRequest]
  split
  · exact (s.setStation_sameBut x _).trans (State.setArrivals_sameBut _ _)
  · exact (s.setStation_sameBut x _).mono (by decide)

theorem State.pollAnswer_sameBut (s : State) (v : Service) (b : Option (List Byte)) :
    s.sameBut [.stations, .attn, .arrivals] (s.pollAnswer v b) := by
  have h : s.sameBut [.stations, .attn] ((s.answered v.addr).setStation v.addr ((s.answered v.addr).stations[v.addr].delivered v)) :=
    ((s.answered_sameBut v.addr).trans (State.setStation_sameBut _ v.addr _)).mono (by decide)
  cases b with
  | none => exact h.mono (by decide)
  | some b => exact (h.trans (State.stationRequest_sameBut _ _ b)).mono (by decide)

theorem State.validRange_sameBut (s : State) (x : Addr) (q t : Nat) : s.sameBut [.stations, .attn] (s.validRange x q t) := by
  unfold State.validRange
  exact .ite (fun _ => s.raiseStation_sameBut x _ _) fun _ => (s.setStation_sameBut x _).mono (by decide)

theorem State.rangeAnswer_sameBut (s : State) (x : Addr) (w : Window) : s.sameBut lineParts (s.rangeAnswer x w) :=
  have h := s.setStation_sameBut x { s.stations[x] with missed := 0 }
  .ite (fun _ => (h.trans (State.countLine_sameBut _ _)).mono (by decide))
    fun _ => (h.trans (State.validRange_sameBut _ x _ _)).mono (by decide)

theorem State.garble_sameBut (s : State) (x : Addr) : s.sameBut [.stations, .attn] (s.garble x) :=
  .ite (fun _ => (s.setStation_sameBut x _).mono (by decide)) fun _ => s.raiseStation_sameBut x _ _

theorem State.join_sameBut (s : State) (x : Addr) : s.sameBut [.stations, .attn] (s.join x) := s.raiseStation_sameBut x _ _

theorem State.stationAnswer_sameBut (s : State) (v : Service) (w : Window) (a : Addr) (k : ReturnKind) (b : List Byte) :
    s.sameBut [.chain, .stations, .attn, .arrivals] (s.stationAnswer v w a k b) :=
  .ite (fun _ => .ite (fun _ => (s.countLine_sameBut _).mono (by decide))
    fun _ => .ite (fun _ => (s.rangeAnswer_sameBut _ w).mono (by decide)) fun _ => (s.pollAnswer_sameBut v _).mono (by decide))
    fun _ => ((s.countLine_sameBut _).trans (State.missAnswer_sameBut _ _)).mono (by decide)

theorem State.discoverAnswer_sameBut (s : State) (x : Addr) (j : Judgement) : s.sameBut lineParts (s.discoverAnswer x j) := by
  have hg := (s.garble_sameBut x).mono (b := lineParts) (by decide)
  have hn := (s.setStation_sameBut x { s.stations[x] with garbled := 0 }).mono (b := lineParts) (by decide)
  cases j with
  | valid a k b =>
    exact .ite (fun _ => (s.join_sameBut x).mono (by decide))
      fun _ => ((s.countLine_sameBut _).trans (State.garble_sameBut _ x)).mono (by decide)
  | format => exact hg
  | check => exact hg
  | abort => exact hn
  | short => exact hn
  | fill => exact hn

theorem State.settle_sameBut (s : State) (v : Service) (w : Window) (j : Judgement) :
    s.sameBut [.chain, .stations, .attn, .arrivals] (s.settle v w j) := by
  refine .comp (.ite (fun _ => .ite (fun _ => (s.discoverAnswer_sameBut _ j).mono (by decide)) fun _ => .refl s _) fun _ => ?_)
    ((State.settled_sameBut _).mono (by decide))
  split
  · exact s.stationAnswer_sameBut v w _ _ _
  · exact (s.missAnswer_sameBut _).mono (by decide)

theorem State.closeWindow_sameBut (s : State) (v : Service) : s.sameBut lineParts (s.closeWindow v) :=
  .comp (.ite (fun _ => .ite (fun _ => (s.setStation_sameBut _ _).mono (by decide)) fun _ => .refl s _)
    fun _ => (s.missAnswer_sameBut _).mono (by decide)) ((State.settled_sameBut _).mono (by decide))

theorem State.handFrame_sameBut (s : State) (j : Judgement) :
    s.sameBut [.chain, .stations, .attn, .arrivals] (s.handFrame j) := by
  have h := s.countLine_sameBut fun c => c.addJudged j
  have hc (f : LineCounters → LineCounters) := h.comp (State.countLine_sameBut (s.countLine fun c => c.addJudged j) f)
  simp only [State.handFrame]
  split
  · refine .ite (fun _ => (h.trans (State.settle_sameBut _ _ _ j)).mono (by decide)) fun _ => ?_
    split
    · exact (hc _).mono (by decide)
    · exact h.mono (by decide)
  · split
    · exact (hc _).mono (by decide)
    · exact h.mono (by decide)

theorem State.rxEvent_sameBut (s : State) (e : RxEvent) (c t : Nat) :
    s.sameBut [.chain, .stations, .attn, .arrivals] (s.rxEvent e c t) := by
  unfold State.rxEvent
  split
  · exact .refl s _
  · exact (s.countLine_sameBut _).mono (by decide)
  · exact s.handFrame_sameBut _
  · exact (s.setChain_sameBut _).mono (by decide)
  · exact ((s.handFrame_sameBut _).trans (State.setChain_sameBut _ _)).mono (by decide)

theorem State.rxLine_sameBut (p : Fin 8) (line : List Bool) (s : State) :
    s.sameBut [.chain, .stations, .attn, .arrivals] (s.rxLine p line) := by
  induction line generalizing s with
  | nil => exact .refl s _
  | cons b bs ih => exact (((s.setChain_sameBut _).mono (by decide)).comp (State.rxEvent_sameBut _ _ _ _)).comp (ih _)

theorem State.openWindow_sameBut (s : State) : s.sameBut [.chain] s.openWindow := by
  unfold State.openWindow
  split
  · exact .refl s _
  · exact s.setChain_sameBut _

theorem State.formService_sameBut (s : State) (k : FrameKind) : s.sameBut [.chain] (s.formService k) := by
  rcases s.formService_cases k with ⟨x, _, _, h⟩ | ⟨x, _, _, h⟩ | ⟨_, h⟩ <;> rw [h]
  · exact s.setChain_sameBut _
  · exact (s.setChain_sameBut _).comp (State.moveOn_sameBut _)
  · exact .refl s _

theorem State.serve1_sameBut (s : State) (k : FrameKind) : s.sameBut [.chain] (s.serve1 k) :=
  .comp (.ite (fun _ => s.moveOn_sameBut) fun _ => .refl s _) (State.formService_sameBut _ k)

theorem State.dropReport_sameBut (s : State) (x : Addr) (st : Stream) (k : Nat) :
    s.sameBut [.chain, .stations] (s.dropReport x st k) := by
  unfold State.dropReport
  exact ((s.setStation_sameBut x _).trans (State.countLine_sameBut _ _)).mono (by decide)

theorem State.startReport_sameBut (s : State) (x : Addr) : s.sameBut [.chain, .stations] (s.startReport x) := by
  simp only [State.startReport]
  split
  · exact .refl s _
  · split
    · exact .ite (fun _ => s.dropReport_sameBut x _ _) fun _ => (s.setChain_sameBut _).mono (by decide)
    · exact .refl s _

theorem State.finishReport_sameBut (s : State) (f : TxFrame) : s.sameBut [.chain, .stations] (s.finishReport f) := by
  have h := s.setChain_sameBut { s.chain with
    tx := none, lineBase := f.startCycle + cyclesPerBit * f.bits, reportEnd := some (f.startCycle + cyclesPerBit * f.bits) }
  simp only [State.finishReport]
  split
  · exact .ite (fun _ => h.trans (State.setStation_sameBut _ _ _)) fun _ => h.mono (by decide)
  · exact h.mono (by decide)

/-! ## Timers -/

theorem State.silenceExpire_sameBut (s : State) : s.sameBut lineParts s.silenceExpire :=
  .ite (fun _ => ((s.setChain_sameBut _).trans (State.enterBroken_sameBut _)).mono (by decide))
    fun _ => (s.setChain_sameBut _).mono (by decide)

theorem State.conflictOver_sameBut (s : State) (x : Addr) : s.sameBut [.stations, .attn] (s.conflictOver x) :=
  s.raiseStation_sameBut x _ _

theorem State.holdOver_sameBut (s : State) (x : Addr) (st : Stream) : s.sameBut [.stations, .chain] (s.holdOver x st) :=
  ((s.closeStream_sameBut x).trans (State.setStation_sameBut _ x _)).mono (by decide)

theorem State.jam_sameBut (s : State) : s.sameBut [.civil, .entries] s.jam := by
  unfold State.jam
  exact (((s.setCivilPart_sameBut s.civil.jammed).trans (State.mapEntries_sameBut _ _)).trans
    (State.reschedule_sameBut _)).mono (by decide)

/-! ## Requests -/

theorem createReply_sameBut (l : Link) (q : CreateReq) (s : State) : s.sameBut [.entries, .stations] (createReply l q s).1 := by
  unfold createReply
  split
  · exact .refl s _
  · dsimp only
    split
    · exact .refl s _
    · split
      · exact .refl s _
      · split
        · exact .refl s _
        · exact s.fillEntry_sameBut _ l _

theorem setFields_sameBut (i : Idx) (q : SetReq) (s : State) : s.sameBut tableParts ((SetReq.apply q i s).finish i) :=
  (SetReq.apply_sameBut q i s).comp (Edit.finish_sameBut _ i)

theorem watchEntry_sameBut (l : Link) (i : Idx) (s : State) : s.sameBut [.entries, .stations] (watchEntry l i s).1 := by
  cases l with
  | mgmt => exact (s.setEntry_sameBut i _).mono (by decide)
  | station x =>
    simp only [watchEntry]
    split
    · exact .refl s _
    · split
      · exact .refl s _
      · exact (s.setEntry_sameBut i _).trans (State.setStation_sameBut _ x _)

theorem unwatchEntry_sameBut (l : Link) (i : Idx) (s : State) : s.sameBut [.entries, .stations] (unwatchEntry l i s).1 := by
  cases l with
  | mgmt => exact (s.setEntry_sameBut i _).mono (by decide)
  | station x =>
    simp only [unwatchEntry]
    split
    · exact (s.setEntry_sameBut i _).trans (State.setStation_sameBut _ x _)
    · exact .refl s _

theorem streamEntry_sameBut (x : Addr) (i : Idx) (d l : Nat) (s : State) :
    s.sameBut [.stations, .chain] (streamEntry x i d l s).1 :=
  ((s.closeStream_sameBut x).trans (State.setStation_sameBut _ x _)).mono (by decide)

theorem State.applyCivil_sameBut (s : State) (q : CivilReq) : s.sameBut [.civil, .entries] (s.applyCivil q) :=
  (s.setCivil_sameBut _ _).comp (State.setPending_sameBut _ _)

theorem civilReply_sameBut (q : CivilReq) (s : State) : s.sameBut [.civil, .entries] (civilReply q s).1 := by
  unfold civilReply
  split
  · exact .refl s _
  · exact s.applyCivil_sameBut q

theorem bindReply_sameBut (q : BindReq) (s : State) : s.sameBut [.outs] (bindReply q s).1 := by
  unfold bindReply
  split
  · unfold State.bindReplyOn
    split
    · exact .refl s _
    · split
      · exact .refl s _
      · exact s.setOutput_sameBut _ _
  · exact .refl s _

theorem chainReply_sameBut {act : State → State} (ha : ∀ u : State, u.sameBut offParts (act u)) (q : ChainReq) (s : State) :
    s.sameBut offParts (chainReply act q s).1 := (s.chainSettings_sameBut _ _ _).comp (ha _)

end

end Sys2Proof.Machine

/-! PROOFS. Every command, and so every step, keeps the timebase and the servo in range (R74, R76, R88, R92, R98, R100). -/

namespace Sys2Proof.Machine

open Sys2Proof Config

/-- The timebase and the discipline unit lie in their ranges. -/
def State.ranged (s : State) : Prop := s.timebaseInv ∧ s.servoInv

/-- The figures of the discipline unit lie in their ranges, the class last reported apart. -/
structure Servo.inRange (v : Servo) : Prop where
  params : v.params.inRange
  steered : v.steered
  good : v.good ≤ 16
  outliers : v.outliers ≤ 8

section

variable {s u : State} {v : Servo} {theta : Int}

/-! ## The rows of the servo (R92 to R97) -/

theorem natAbs_clampInt_le (l : Nat) (x : Int) : (clampInt (-l) l x).natAbs ≤ l := by
  unfold clampInt
  split
  · omega
  · split <;> omega

theorem clampInt_zero (l : Nat) : clampInt (-l) l 0 = 0 := by
  unfold clampInt
  split
  · omega
  · split <;> omega

/-- A servo outside FREE and HOLDOVER is steered when I and C lie within the limit. -/
theorem Servo.steered_of_limit (hi : v.integral.natAbs ≤ v.params.limit) (hc : v.correction.natAbs ≤ v.params.limit)
    (hf : v.state ≠ .free) (hh : v.state ≠ .holdover) : v.steered :=
  ⟨hi, hc, fun h => absurd h hf, fun h => absurd h hh⟩

theorem Servo.pi_limit (v : Servo) (theta : Int) :
    (v.pi theta).integral.natAbs ≤ v.params.limit ∧ (v.pi theta).correction.natAbs ≤ v.params.limit :=
  ⟨natAbs_clampInt_le _ _, natAbs_clampInt_le _ _⟩

theorem Servo.acquireRow_inRange (h : v.inRange) (hs : v.state = .acquire) (theta : Int) : (v.acquireRow theta).1.inRange := by
  obtain ⟨hi, hc⟩ := v.pi_limit theta
  have hcount : v.params.lockCount ≤ 16 := h.params.2.2.1.2
  unfold Servo.acquireRow
  split
  · exact { h with good := by simp }
  split
  · split
    · exact ⟨h.params, Servo.steered_of_limit hi hc (by simp) (by simp), by simp, by simp⟩
    · next hg => exact ⟨h.params, Servo.steered_of_limit hi hc (by simp [Servo.pi, hs]) (by simp [Servo.pi, hs]), by
        show v.good + 1 ≤ 16
        omega, h.outliers⟩
  · exact ⟨h.params, Servo.steered_of_limit hi hc (by simp [Servo.pi, hs]) (by simp [Servo.pi, hs]), by simp, h.outliers⟩

theorem Servo.lockedRow_inRange (h : v.inRange) (hs : v.state = .locked) (theta : Int) : (v.lockedRow theta).1.inRange := by
  obtain ⟨hi, hc⟩ := v.pi_limit theta
  obtain ⟨h1, h2, -, -⟩ := h.steered
  have hpersist : v.params.persist ≤ 8 := h.params.2.2.2.2.1.2
  simp only [Servo.lockedRow]
  split
  · split
    · next ho => exact ⟨h.params, h.steered, h.good, by
        show v.outliers + 1 ≤ 8
        omega⟩
    · exact ⟨h.params, Servo.steered_of_limit h1 h2 (by simp) (by simp), by simp, by simp⟩
  · split
    · exact ⟨h.params, Servo.steered_of_limit hi hc (by simp) (by simp), by simp, by simp⟩
    · exact ⟨h.params, Servo.steered_of_limit hi hc (by simp [Servo.pi, hs]) (by simp [Servo.pi, hs]), h.good, by simp⟩

theorem Servo.row_inRange (h : v.inRange) (theta : Int) : (v.row theta).1.inRange := by
  obtain ⟨h1, h2, -, -⟩ := h.steered
  unfold Servo.row
  split
  · exact ⟨h.params, ⟨by simp [Servo.freeRow], by simp [Servo.freeRow], by simp [Servo.freeRow], by simp [Servo.freeRow]⟩,
      by simp [Servo.freeRow], by simp [Servo.freeRow]⟩
  · next hs => exact Servo.acquireRow_inRange h hs theta
  · next hs => exact Servo.lockedRow_inRange h hs theta
  · exact Servo.acquireRow_inRange (v := { v with state := .acquire })
      ⟨h.params, Servo.steered_of_limit h1 h2 (by simp) (by simp), h.good, h.outliers⟩ rfl theta

/-- A servo whose counters, last offset and timers alone have changed. -/
theorem Servo.inRange.of_eq {w : Servo} (h : v.inRange) (h1 : w.params = v.params := by rfl)
    (h2 : w.integral = v.integral := by rfl) (h3 : w.correction = v.correction := by rfl) (h4 : w.state = v.state := by rfl)
    (h5 : w.good = v.good := by rfl) (h6 : w.outliers = v.outliers := by rfl) : w.inRange :=
  ⟨h1 ▸ h.params, by simpa only [Servo.steered, h1, h2, h3, h4] using h.steered, h5 ▸ h.good, h6 ▸ h.outliers⟩

theorem State.servoInv.inRange (h : s.servoInv) : s.servo.inRange := by
  obtain ⟨h1, h2, -, h4, h5⟩ := h
  exact ⟨h1, h2, h4, h5⟩

/-! ## The class as last reported (R90) -/

theorem State.quality_of_state (s : State) :
    (s.servo.state = .locked → s.quality = 0) ∧ (s.servo.state = .acquire → s.quality = 1)
    ∧ (s.servo.state = .holdover → s.quality = 2 ∨ s.quality = 3) ∧ (s.servo.state = .free → s.quality = 4) := by
  unfold State.quality
  cases s.servo.state <;> simp [le_or_gt]

/-- Noting the class leaves it noted, and moves no other figure of the servo. -/
theorem State.noteClass_servo (s : State) : s.noteClass.servo = { s.servo with noted := s.quality } := by
  simp only [State.noteClass, apply_ite State.servo, State.raise_servo]
  split
  · next h => rw [h]
  · rfl

theorem State.noteClass_servoInv (h : s.servo.inRange) : s.noteClass.servoInv := by
  unfold State.servoInv
  rw [State.noteClass_servo]
  exact ⟨h.params, h.steered, s.quality_of_state, h.good, h.outliers⟩

theorem State.enterHoldover_servoInv (h : s.servo.inRange) : s.enterHoldover.servoInv := by
  obtain ⟨h1, -, -, -⟩ := h.steered
  unfold State.enterHoldover
  exact State.noteClass_servoInv ⟨h.params, ⟨h1, h1, by simp, by simp⟩, by simp, by simp⟩

/-! ## Parameters (R100 to R102, R104) -/

theorem clampNat_mem {lo hi : Nat} (h : lo ≤ hi) (n : Nat) : lo ≤ clampNat lo hi n ∧ clampNat lo hi n ≤ hi :=
  clampNat_bounds h n

theorem pick_mem {lo hi old : Nat} (h : lo ≤ hi) (ho : lo ≤ old ∧ old ≤ hi) (q : Option Nat) :
    lo ≤ pick lo hi q old ∧ pick lo hi q old ≤ hi := by
  cases q with
  | none => exact ho
  | some n => exact clampNat_mem h n

theorem ServoReq.params_inRange (q : ServoReq) {p : ServoParams} (h : p.inRange) : (ServoReq.params q p).inRange := by
  obtain ⟨h1, h2, h3, -, h5, h6, h7, h8, h9, h10, h11, h12⟩ := h
  have hwin := pick_mem (by norm_num) h2 q.lockWin
  refine ⟨pick_mem (by norm_num) h1 _, hwin, pick_mem (by norm_num) h3 _, clampNat_mem (hwin.2.trans (by norm_num)) _,
    pick_mem (by norm_num) h5 _, (pick_mem (by norm_num) ⟨Nat.zero_le _, h6⟩ _).2,
    (pick_mem (by norm_num) ⟨Nat.zero_le _, h7⟩ _).2, (pick_mem (by norm_num) ⟨Nat.zero_le _, h8⟩ _).2,
    pick_mem (by norm_num) h9 _, pick_mem (by norm_num) h10 _, (pick_mem (by norm_num) ⟨Nat.zero_le _, h11⟩ _).2,
    (pick_mem (by norm_num) ⟨Nat.zero_le _, h12⟩ _).2⟩

theorem ServoParams.builtIn_inRange : ServoParams.builtIn.inRange := by
  unfold ServoParams.inRange ServoParams.builtIn
  norm_num

/-- R104: the parameters of a bank are brought into their ranges. -/
theorem ServoParams.fit_inRange (p : ServoParams) : p.fit.inRange := by
  have h : p.fit = ServoReq.params p.asReq ServoParams.builtIn := rfl
  rw [h]
  exact ServoReq.params_inRange _ ServoParams.builtIn_inRange

theorem Servo.limitTo_inRange (h : v.inRange) {p : ServoParams} (hp : p.inRange) :
    ({ v with params := p }.limitTo p.limit).inRange := by
  obtain ⟨-, -, h3, h4⟩ := h.steered
  refine ⟨hp, ⟨natAbs_clampInt_le _ _, natAbs_clampInt_le _ _, fun hf => ?_, fun hh => ?_⟩, h.good, h.outliers⟩
  · obtain ⟨g1, g2⟩ := h3 hf
    exact ⟨by simp only [Servo.limitTo, g1, clampInt_zero], by simp only [Servo.limitTo, g2, clampInt_zero]⟩
  · simp only [Servo.limitTo, h4 hh]

theorem State.takeParams_servoInv (h : s.servo.inRange) {p : ServoParams} (hp : p.inRange) : (s.takeParams p).servoInv := by
  have hl := Servo.limitTo_inRange h hp
  simp only [State.takeParams]
  split
  · exact State.enterHoldover_servoInv hl
  · exact State.noteClass_servoInv hl

theorem State.applyParams_servoInv (h : s.servo.inRange) {p : ServoParams} (hp : p.inRange) : (s.applyParams p).servoInv := by
  have h' := State.takeParams_servoInv h hp
  rw [State.applyParams_eq]
  simpa only [State.servoInv, State.holdWide_servo] using h'

/-! ## The timebase -/

/-- Timebase time below the wrap is stored in the ranges of its fields. -/
theorem State.setTime_timebaseInv (hf : s.tb.frac < fracUnit) {t : Nat} (ht : t < wrapSpan) : (s.setTime t).timebaseInv := by
  refine ⟨Nat.mod_lt _ (by norm_num), ?_, hf⟩
  show t / second < secondsWrap
  simp only [second, secondsWrap, wrapSpan] at *
  omega

theorem State.wrap_timebaseInv (hf : s.tb.frac < fracUnit) (ht : s.now < 2 * wrapSpan) : s.wrap.timebaseInv := by
  have h : (s.setTime (s.now - wrapSpan)).timebaseInv := State.setTime_timebaseInv hf (by omega)
  unfold State.timebaseInv at h ⊢
  rwa [State.wrap_tb]

theorem State.applyStep_timebaseInv (h : s.timebaseInv) (hth : theta < wrapSpan) : (s.applyStep theta).timebaseInv := by
  have hn := State.now_lt_wrapSpan h
  have ht : s.stepTarget theta < 2 * wrapSpan := by
    simp only [State.stepTarget]
    split
    · omega
    · exact (Nat.mod_lt _ (by norm_num)).trans (by norm_num)
  have h' : (s.setTime (if wrapSpan ≤ s.stepTarget theta then s.stepTarget theta - wrapSpan else s.stepTarget theta)).timebaseInv :=
    State.setTime_timebaseInv h.2.2 (by split <;> omega)
  unfold State.timebaseInv at h' ⊢
  rwa [State.applyStep_tb]

theorem Timebase.advance_bounds (t : Timebase) (w : Nat) :
    (t.advance w).ns < second ∧ (t.advance w).frac < fracUnit :=
  ⟨Nat.mod_lt _ (by norm_num), Nat.mod_lt _ (by norm_num)⟩

theorem State.tick_timebaseInv (hw : s.wrapDue = false) : s.tick.timebaseInv := by
  obtain ⟨h1, h2⟩ := s.tb.advance_bounds s.rateWord
  have h3 : (s.tb.advance s.rateWord).seconds < secondsWrap := by simpa [State.wrapDue] using hw
  exact ⟨h1, h3, h2⟩

theorem State.rateWord_le (h : s.servo.inRange) : s.rateWord ≤ 2 * nominalRate.toNat := by
  obtain ⟨-, hc, -, -⟩ := h.steered
  have hl : s.servo.params.limit ≤ 6871947 := h.params.2.2.2.2.2.2.2.1
  simp only [State.rateWord, nominalRate]
  omega

theorem State.tick_now_lt (ht : s.timebaseInv) (h : s.servo.inRange) : s.tick.now < 2 * wrapSpan := by
  have hr := State.rateWord_le h
  obtain ⟨h1, h2, h3⟩ := ht
  show (s.tb.advance s.rateWord).seconds * second + (s.tb.advance s.rateWord).ns < _
  simp only [Timebase.advance, nominalRate, second, secondsWrap, wrapSpan, fracUnit] at *
  omega

/-! ## The relation -/

/-- From a state in range comes one in range. -/
def State.rangedTo (s u : State) : Prop := s.ranged → u.ranged

theorem State.rangedTo.of_sameBut {L : List Part} (h : s.sameBut L u) (h1 : .tb ∉ L := by decide) (h2 : .servo ∉ L := by decide) :
    s.rangedTo u := by
  have ht : u.tb = s.tb := h .tb h1
  have hv : u.servo = s.servo := h .servo h2
  simp only [State.rangedTo, State.ranged, State.timebaseInv, State.servoInv, ht, hv]
  exact id

theorem State.rangedTo.trans {v : State} (h : s.rangedTo u) (h' : u.rangedTo v) : s.rangedTo v := fun g => h' (h g)

theorem State.rangedTo.refl (s : State) : s.rangedTo s := id

theorem State.rangedTo.ite {a b : State} {c : Prop} [Decidable c] (ha : c → s.rangedTo a) (hb : ¬c → s.rangedTo b) :
    s.rangedTo (if c then a else b) := by
  split
  · next h => exact ha h
  · next h => exact hb h

theorem State.rangedTo.handled : Handled State.rangedTo where
  refl := .refl
  trans := .trans
  setPort s p := .of_sameBut (s.setPort_sameBut p)
  setArrivals s a := .of_sameBut (s.setArrivals_sameBut a)
  setPending s q := .of_sameBut (s.setQueue_sameBut q)
  setChain s c := .of_sameBut (s.setChain_sameBut c)
  setSlot s x v := .of_sameBut (s.setStation_sameBut x _)
  owe s x t := .of_sameBut (s.setStation_sameBut x _)

/-- A change of the servo alone, its figures in range and its class noted after. -/
theorem State.rangedTo.of_servo (ht : u.tb = s.tb) (hv : s.servoInv → u.servoInv) : s.rangedTo u := fun ⟨h1, h2⟩ =>
  ⟨by simpa only [State.timebaseInv, ht] using h1, hv h2⟩

theorem State.rangedTo.setCounters (s : State) (c : ServoCounters) :
    s.rangedTo { s with servo := { s.servo with counters := c } } := .of_servo rfl id

theorem State.noteClass_ranged (s : State) : s.rangedTo s.noteClass :=
  .of_servo (State.noteClass_tb s) fun h => State.noteClass_servoInv h.inRange

theorem State.enterHoldover_ranged (s : State) : s.rangedTo s.enterHoldover :=
  .of_servo (State.enterHoldover_tb s) fun h => State.enterHoldover_servoInv h.inRange

theorem State.applyParams_ranged (s : State) {p : ServoParams} (hp : s.servoInv → p.inRange) : s.rangedTo (s.applyParams p) :=
  .of_servo (State.applyParams_tb s p) fun h => State.applyParams_servoInv h.inRange (hp h)

theorem servoReply_ranged (q : ServoReq) (s : State) : s.rangedTo (servoReply q s).1 :=
  .ite (fun _ => .refl s) fun _ => s.applyParams_ranged fun h => ServoReq.params_inRange q h.1

/-! ## Samples -/

theorem State.takeSample_ranged (s : State) (hth : theta < wrapSpan) : s.rangedTo (s.takeSample theta) := by
  intro ⟨ht, hv⟩
  have hj : (s.judgeSample theta).1.inRange := Servo.row_inRange hv.inRange.of_eq theta
  rcases hr : s.judgeSample theta with ⟨w, b⟩
  rw [hr] at hj
  cases b with
  | false =>
    rw [State.takeSample_still hr]
    exact ⟨by simpa only [State.timebaseInv, State.noteClass_tb] using ht, State.noteClass_servoInv hj⟩
  | true =>
    have h1 := State.applyStep_timebaseInv (s := { s with servo := w }) ht hth
    have h2 : (({ s with servo := w } : State).applyStep theta).servo.inRange := by rw [State.applyStep_servo]; exact hj
    simp only [State.takeSample, hr, if_true]
    exact ⟨by simpa only [State.timebaseInv, State.noteClass_tb, State.countServo_tb] using h1, State.noteClass_servoInv h2.of_eq⟩

theorem State.markSlot_sameBut (s : State) (q : BitVec 8) (k : SlotState) : s.sameBut [.slots] (s.markSlot q k) :=
  s.setSlots_sameBut _

theorem sampleReply_ranged (q : SampleReq) (s : State) : s.rangedTo (sampleReply q s).1 := by
  unfold sampleReply
  split
  · exact .refl s
  next hb =>
  unfold pairSample
  split
  · exact .refl s
  · dsimp only
    split
    · exact .refl s
    split
    · exact .refl s
    split
    · exact .refl s
    · exact .refl s
    · exact .refl s
    · have hm : s.rangedTo (s.markSlot q.seq .consumed) := .of_sameBut (s.markSlot_sameBut q.seq _)
      split
      · exact hm.trans (.setCounters _ _)
      · refine hm.trans (State.takeSample_ranged _ ?_)
        simp only [SampleReq.bad, Bool.or_eq_true, decide_eq_true_eq, not_or, not_le, not_lt] at hb
        obtain ⟨⟨h1, h2⟩, -⟩ := hb
        simp only [SampleReq.offset, second, secondsWrap, wrapSpan] at *
        omega

/-! ## Banks and resets -/

theorem State.takeSettings_ranged (s : State) {c : BankContent} (hc : c.params.inRange) (always : Bool) :
    s.rangedTo (s.takeSettings c always) := by
  have h : s.rangedTo (((s.setAttention c.mode c.mask).applyParams c.params).setCivil c.offset c.jam) :=
    (State.rangedTo.trans (.of_sameBut (s.setAttn_sameBut _)) (State.applyParams_ranged _ fun _ => hc)).trans
      (.of_sameBut (State.setCivil_sameBut _ _ _))
  exact .trans (.ite (fun _ => h.trans (.of_sameBut (State.rebase_sameBut _ _ _))) fun _ => h)
    (.of_sameBut (State.chainSettings_sameBut _ _ _ _))

theorem State.setOuts_sameBut (s : State) (v : Vector Output 16) : s.sameBut [.outs] { s with outs := v } := by
  intro p hp
  cases p <;> simp [State.samePart] at hp ⊢

theorem State.retireForBank_sameBut (s : State) (all : Bool) : s.sameBut tableParts (s.retireForBank all) :=
  .foldl _ s fun u i => .ite (fun _ => u.retire_sameBut i) fun _ => .refl u _

theorem State.makeWay_sameBut (s : State) (c : BankContent) (all : Bool) : s.sameBut tableParts (s.makeWay c all) := by
  unfold State.makeWay
  exact ((s.retireForBank_sameBut all).trans (State.setOuts_sameBut _ _)).mono (by decide)

theorem createDefs_sameBut (ds : List EntryDef) (s : State) : s.sameBut [.entries, .stations] (createDefs ds s).1 := by
  induction ds generalizing s with
  | nil => exact .refl s _
  | cons d ds ih =>
    unfold createDefs
    split
    · split
      · exact ih s
      · exact (s.fillEntry_sameBut _ _ d).comp (ih _)
    · exact ih s

theorem State.bindByPosition_sameBut (s : State) (v : Vector OutputDef 16) (m : List (Option EntryRef)) :
    s.sameBut [.outs] (s.bindByPosition v m) := s.setOuts_sameBut _

/-- R175: what of a bank is laid into the table and the outputs. -/
theorem State.applyBank_table_sameBut (s : State) (c : BankContent) (always all : Bool) :
    (s.takeSettings c always).sameBut tableParts (s.applyBank c always all).1 :=
  ((((s.takeSettings c always).makeWay_sameBut c all).trans (createDefs_sameBut _ _)).trans
    (State.bindByPosition_sameBut _ _ _)).mono (by decide)

theorem State.applyBank_ranged (s : State) {c : BankContent} (hc : c.params.inRange) (always all : Bool) :
    s.rangedTo (s.applyBank c always all).1 :=
  (s.takeSettings_ranged hc always).trans (.of_sameBut (s.applyBank_table_sameBut c always all))

theorem State.setPort_sameBut_completeOp (s : State) (r : Result) : s.sameBut [.port] (s.completeOp r) := by
  simp only [State.completeOp]
  split
  · exact s.setPort_sameBut _
  · exact (s.setPort_sameBut _).comp (State.setPort_sameBut _ _)
  · exact s.setPort_sameBut _

theorem State.endOp_sameBut (s : State) (c : Byte) (t : Tag) (st : Status) (b : Body) :
    s.sameBut [.store, .attn, .port] (s.endOp c t st b) := by
  unfold State.endOp
  exact ((s.setStore_sameBut _).trans (State.raise_sameBut _ _)).trans (State.setPort_sameBut_completeOp _ _)

theorem State.finishSave_sameBut (s : State) (v : StoreOp) (ws : List Word32) :
    s.sameBut [.store, .attn, .port] (s.finishSave v ws) :=
  .ite (fun _ => ((s.setStore_sameBut _).trans (State.endOp_sameBut _ _ _ _ _)).mono (by decide))
    fun _ => ((s.setStore_sameBut _).trans (State.endOp_sameBut _ _ _ _ _)).mono (by decide)

theorem readBank_params_inRange (ws : List Word32) : (readBank ws).params.inRange := ServoParams.fit_inRange _

theorem State.finishLoad_ranged (s : State) (v : StoreOp) : s.rangedTo (s.finishLoad v) :=
  .ite (fun _ => (s.applyBank_ranged (readBank_params_inRange _) _ _).trans (.of_sameBut (State.endOp_sameBut _ _ _ _ _)))
    fun _ => .of_sameBut (s.endOp_sameBut _ _ _ _)

theorem State.applyStartBank_ranged (s : State) {c : BankContent} (hc : c.params.inRange) (ok : Bool) :
    s.rangedTo (s.applyStartBank c ok) :=
  .ite (fun _ => (s.applyBank_ranged hc _ _).trans (.of_sameBut (State.releaseChain_sameBut _)))
    fun _ => s.applyBank_ranged hc _ _

theorem State.endStart_sameBut (s : State) (ok : Bool) : s.sameBut [.store] (s.endStart ok) := by
  unfold State.endStart
  exact (s.setStore_sameBut _).comp (State.setStore_sameBut _ _)

theorem State.finishHardStart_ranged (s : State) (v : StoreOp) : s.rangedTo (s.finishHardStart v) := by
  unfold State.finishHardStart
  refine .ite (fun _ => (s.applyStartBank_ranged (readBank_params_inRange _) _).trans (.of_sameBut (State.endStart_sameBut _ _)))
    fun _ => ?_
  exact (((s.applyStartBank_ranged ServoParams.builtIn_inRange _).trans (.of_sameBut (State.mapOutputs_sameBut _ _))).trans
    (.of_sameBut (State.endStart_sameBut _ _))).trans (.of_sameBut (State.raise_sameBut _ _))

theorem State.finishSoftStart_ranged (s : State) (v : StoreOp) (t : Tag) : s.rangedTo (s.finishSoftStart v t) := by
  have hc : ∀ b : Bool, (if b then readBank s.store.banks[v.bank] else BankContent.builtIn).params.inRange := fun b => by
    cases b
    · exact ServoParams.builtIn_inRange
    · exact readBank_params_inRange _
  unfold State.finishSoftStart
  exact ((s.applyStartBank_ranged (hc _) _).trans (.of_sameBut (State.setStore_sameBut _ _))).trans
    (.of_sameBut (State.endOp_sameBut _ _ _ _ _))

theorem State.vacateAll_sameBut (s : State) : s.sameBut [.entries, .stations, .mgmtNotices, .attn] s.vacateAll := by
  intro p hp
  rw [State.vacateAll, State.settleEntries_eq]
  cases p <;> simp [State.samePart] at hp ⊢

theorem State.resetChain_sameBut (s : State) : s.sameBut [.chain, .stations, .attn, .arrivals] s.resetChain := by
  unfold State.resetChain
  exact State.sameBut.comp (.comp (.ite (fun _ => .refl s _) fun _ => (s.leaveChain_sameBut _).mono (by decide))
    (.foldl _ _ fun u x => .ite (fun _ => (u.clearStation_sameBut x).mono (by decide)) fun _ => .refl u _))
    ((State.setChain_sameBut _ _).mono (by decide))

theorem State.softReset_sameBut (s : State) :
    s.sameBut [.entries, .stations, .mgmtNotices, .attn, .chain, .arrivals, .outs, .civil] s.softReset := by
  have h := (s.vacateAll_sameBut.trans (State.resetChain_sameBut _)).trans (State.mapOutputs_sameBut _ Output.unbind)
  unfold State.softReset
  exact ((h.trans (State.setCivilPart_sameBut _ _)).trans (State.reschedule_sameBut _)).mono (by decide)

theorem State.hardReset_ranged (s : State) : s.rangedTo s.hardReset := fun _ => by
  refine ⟨⟨by norm_num [State.hardReset, State.reset], by norm_num [State.hardReset, State.reset],
    by norm_num [State.hardReset, State.reset]⟩, ?_⟩
  show ServoParams.builtIn.inRange ∧ Servo.reset.steered ∧ Servo.reset.classNoted ∧ _
  exact ⟨ServoParams.builtIn_inRange, by simp [Servo.steered, Servo.reset], by simp [Servo.classNoted, Servo.reset],
    by simp [State.hardReset, State.reset, Servo.reset], by simp [State.hardReset, State.reset, Servo.reset]⟩

end

end Sys2Proof.Machine

/-! PROOFS. Every step keeps the timebase and the servo in range: the commands one by one. -/

namespace Sys2Proof.Machine

open Sys2Proof Config

section

variable {s u : State} {i : Idx} {x : Addr}

theorem State.setSlotsLatest_sameBut (s : State) (p : Fin 8) : s.sameBut [.latest, .lastEdge, .slots] (s.fileEdge p) := by
  intro q hq
  cases q <;> simp [State.samePart] at hq ⊢

theorem State.portArrive_sameBut (s : State) (b : List Byte) : s.sameBut [.port, .arrivals] (s.portArrive b) := by
  obtain ⟨p, a, h⟩ := s.portArrive_eq b
  rw [h]
  exact s.setPortArrivals_sameBut p a

theorem State.spiWritten_sameBut (s : State) (rest : List Byte) : s.sameBut [.port, .arrivals] (s.spiWritten rest) := by
  unfold State.spiWritten
  split
  · exact s.portArrive_sameBut _
  · exact (s.setPort_sameBut _).mono (by decide)

theorem State.release_sameBut (s : State) (b : Fin 4) : s.sameBut [.resetPin, .store, .chain] (s.release b) := by
  intro p hp
  cases p <;> simp [State.samePart, State.release] at hp ⊢

theorem State.startReset_ranged (t : Tag) (s : State) : s.rangedTo (startReset t s).1 :=
  .of_sameBut (s.softReset_sameBut.trans (State.setStore_sameBut _ _))

/-- R172: a clear moves only the counters of the servo. -/
theorem State.clearFigures_ranged (s : State) : s.rangedTo s.clearFigures := .of_servo rfl id

theorem statusReply_ranged (c : Bool) (a : AttnAction) (s : State) : s.rangedTo (statusReply c a s).1 := by
  have ha (u : State) (h : s.attnAction a = some u) : s.rangedTo u := by
    cases a with
    | keep => cases h; exact .refl s
    | other c => cases h
    | set m k =>
      obtain ⟨v, -, rfl⟩ := Option.map_eq_some_iff.1 h
      exact .of_sameBut (s.setAttn_sameBut _)
  unfold statusReply
  split
  · exact .refl s
  · next u h => exact .ite (fun _ => (ha u h).trans u.clearFigures_ranged) fun _ => ha u h

theorem onBank_ranged {h : Fin 4 → State → State × Option Reply} {b : Nat} (hh : ∀ n, s.rangedTo (h n s).1) :
    s.rangedTo (onBank b h s).1 := by
  unfold onBank
  split
  · split
    · exact .refl s
    · exact hh _
  · exact .refl s

theorem State.tick_wrap_ranged (s : State) : s.rangedTo s.tick.wrap := by
  intro ⟨ht, hv⟩
  have hf : s.tick.tb.frac < fracUnit := (s.tb.advance_bounds s.rateWord).2
  refine ⟨State.wrap_timebaseInv hf (State.tick_now_lt ht hv.inRange), ?_⟩
  simpa only [State.servoInv, State.wrap_servo, State.tick_servo] using hv

/-- The commands that are requests. -/
theorem exec_request_ranged (l : Link) (t : Tag) (r : Req) (s s' : State) (h : exec (r.toInstr l t) s = .next s') :
    s.rangedTo s' := by
  have hR := State.rangedTo.handled
  cases r <;> cases h
  case find => exact hR.serve fun u => by unfold findReply; split; · exact .refl u
                                          split <;> exact .refl u
  case read => exact hR.serve fun u => hR.onEntry fun _ _ => .refl u
  case list => exact hR.serve fun u => by unfold listReply; split <;> exact .refl u
  case next => exact hR.serve fun u => hR.onEntry fun _ _ => .refl u
  case stations => exact hR.serve fun u => by unfold stationsReply; split <;> exact .refl u
  case notices => exact hR.serve fun u => .of_sameBut (State.leaveNotices_sameBut l _ u)
  case create q => exact hR.serve fun u => .of_sameBut (createReply_sameBut l q u)
  case set q =>
    refine hR.serve fun u => ?_
    unfold setReply
    split
    · exact .refl u
    refine hR.onEntry fun i _ => hR.withAuthority ?_
    split
    · exact .refl u
    · exact .of_sameBut (setFields_sameBut i q u)
  case realign => exact hR.serve fun u => hR.onEntry fun i _ => hR.withAuthority (.of_sameBut (u.realign_sameBut i))
  case retire => exact hR.serve fun u => hR.onEntry fun i _ => hR.withAuthority (.of_sameBut (u.retire_sameBut i))
  case retireWithEnd =>
    exact hR.serve fun u => hR.onEntry fun i _ => hR.withAuthority (.of_sameBut (u.setEnd_sameBut i _))
  case watch => exact hR.serve fun u => hR.onEntry fun i _ => .of_sameBut (watchEntry_sameBut l i u)
  case unwatch => exact hR.serve fun u => hR.onEntry fun i _ => .of_sameBut (unwatchEntry_sameBut l i u)
  case stream => exact hR.serve fun u => hR.forStation (fun x u => hR.onEntry fun i _ => .of_sameBut (streamEntry_sameBut x i _ _ u)) u
  case unstream => exact hR.serve fun u => hR.forStation (fun x u => .of_sameBut (u.closeStream_sameBut x)) u
  case sample q => exact hR.serve (hR.forManagement (sampleReply_ranged q))
  case servo q => exact hR.serve (hR.forManagement (servoReply_ranged q))
  case civil q => exact hR.serve (hR.forManagement fun u => .of_sameBut (civilReply_sameBut q u))
  case bind q => exact hR.serve (hR.forManagement fun u => .of_sameBut (bindReply_sameBut q u))
  case chain act q =>
    refine hR.serve (hR.forManagement fun u => ?_)
    split
    · exact .of_sameBut (chainReply_sameBut (fun v => .refl v _) q u)
    · exact .refl u
  case chainHold q => exact hR.serve (hR.forManagement fun u => .of_sameBut (chainReply_sameBut State.holdChain_sameBut q u))
  case chainRelease q =>
    exact hR.serve (hR.forManagement fun u =>
      .of_sameBut (chainReply_sameBut (fun v => v.releaseChain_sameBut.mono (by decide)) q u))
  case save n =>
    exact hR.serve (hR.forManagement fun u => onBank_ranged fun _ =>
      .of_sameBut ((u.setStore_sameBut _).trans (State.setStore_sameBut _ _)))
  case load n => exact hR.serve (hR.forManagement fun u => onBank_ranged fun _ => .of_sameBut (u.setStore_sameBut _))
  case reset => exact hR.serve (hR.forManagement fun u => by
    unfold resetReply
    split
    · exact .refl u
    · exact State.startReset_ranged t u)
  case status c a => exact hR.serve (hR.forManagement (statusReply_ranged c a))

/-- Every command keeps the ranges. -/
theorem exec_ranged (c : Instr) (s s' : State) (h : exec c s = .next s') : s.rangedTo s' := by
  have hR := State.rangedTo.handled
  cases c
  case find l t a => exact exec_request_ranged l t (.find a) s s' h
  case read l t a => exact exec_request_ranged l t (.read a) s s' h
  case list l t a => exact exec_request_ranged l t (.list a) s s' h
  case next l t a b => exact exec_request_ranged l t (.next a b) s s' h
  case stations l t a => exact exec_request_ranged l t (.stations a) s s' h
  case notices l t => exact exec_request_ranged l t .notices s s' h
  case create l t q => exact exec_request_ranged l t (.create q) s s' h
  case set l t q => exact exec_request_ranged l t (.set q) s s' h
  case realign l t a => exact exec_request_ranged l t (.realign a) s s' h
  case retire l t a => exact exec_request_ranged l t (.retire a) s s' h
  case retireWithEnd l t a e => exact exec_request_ranged l t (.retireWithEnd a e) s s' h
  case watch l t a => exact exec_request_ranged l t (.watch a) s s' h
  case unwatch l t a => exact exec_request_ranged l t (.unwatch a) s s' h
  case stream l t a d e => exact exec_request_ranged l t (.stream a d e) s s' h
  case unstream l t => exact exec_request_ranged l t .unstream s s' h
  case sample l t q => exact exec_request_ranged l t (.sample q) s s' h
  case servo l t q => exact exec_request_ranged l t (.servo q) s s' h
  case civil l t q => exact exec_request_ranged l t (.civil q) s s' h
  case bind l t q => exact exec_request_ranged l t (.bind q) s s' h
  case chain l t a q => exact exec_request_ranged l t (.chain a q) s s' h
  case chainHold l t q => exact exec_request_ranged l t (.chainHold q) s s' h
  case chainRelease l t q => exact exec_request_ranged l t (.chainRelease q) s s' h
  case save l t b => exact exec_request_ranged l t (.save b) s s' h
  case load l t b => exact exec_request_ranged l t (.load b) s s' h
  case reset l t => exact exec_request_ranged l t .reset s s' h
  case status l t b a => exact exec_request_ranged l t (.status b a) s s' h
  all_goals cases h
  case spiWrite octets =>
    refine hR.whenReleased fun _ => ?_
    split
    · exact (hR.setPort s _).trans (hR.setPort _ _)
    · exact .ite (fun _ => (hR.setPort s _).trans (.of_sameBut (State.spiWritten_sameBut _ _))) fun _ =>
        .ite (fun _ => hR.setPort s _) fun _ => (hR.setPort s _).trans (hR.setPort _ _)
  case spiRead => exact hR.whenReleased fun _ => hR.setPort s _
  case saveCompletion ws =>
    refine hR.whenReleased fun _ => ?_
    split
    · exact .ite (fun _ => .of_sameBut (s.finishSave_sameBut _ ws)) fun _ => .refl s
    · exact .refl s
  case loadCompletion =>
    refine hR.whenReleased fun _ => ?_
    split
    · exact .ite (fun _ => s.finishLoad_ranged _) fun _ => .refl s
    · exact .refl s
  case startBankLoadCompletion =>
    refine hR.whenReleased fun _ => ?_
    split
    · refine .ite (fun _ => ?_) fun _ => .refl s
      split
      · exact s.finishHardStart_ranged _
      · exact s.finishSoftStart_ranged _ _
    · exact .refl s
  case hardReset => exact s.hardReset_ranged
  case resetRelease b => exact .ite (fun _ => .of_sameBut (s.release_sameBut b)) fun _ => .refl s
  case strobeEdge p =>
    exact hR.whenReleased fun _ => .ite (fun _ => .of_sameBut (s.setSlotsLatest_sameBut p)) fun _ => .setCounters s _
  case inhibitAssertion =>
    have h : s.rangedTo (s.whenReleased fun s => s.mapOutputs fun o => o.inhibited s.now) :=
      hR.whenReleased fun _ => .of_sameBut (s.mapOutputs_sameBut _)
    exact h.trans (.of_sameBut (State.setInhibit_sameBut _ true))
  case inhibitRelease => exact .of_sameBut (s.setInhibit_sameBut false)
  case markDue j => exact hR.whenDue fun _ _ => .of_sameBut (s.markDue_sameBut j)
  case endDue j => exact hR.whenDue fun _ _ => .of_sameBut (s.endDue_sameBut j)
  case jamEvent => exact hR.whenDue fun _ _ => .of_sameBut s.jam_sameBut
  case activeEdge o => exact hR.whenDue fun _ _ => .of_sameBut (s.setOutput_sameBut o _)
  case inactiveEdge o => exact hR.whenDue fun _ _ => .of_sameBut (s.setOutput_sameBut o _)
  case holdoverTimerExpiry => exact hR.whenDue fun _ _ => s.enterHoldover_ranged
  case holdoverAgeLimitPassed => exact hR.whenDue fun _ _ => s.noteClass_ranged
  case attnPulseEnd => exact hR.whenDue fun _ _ => .of_sameBut (s.setAttn_sameBut _)
  case returnFrame p line => exact hR.whenReleased fun _ => .of_sameBut (s.rxLine_sameBut p line)
  case answerWindowOpen => exact hR.whenDue fun _ _ => .of_sameBut s.openWindow_sameBut
  case answerWindowClose =>
    refine hR.whenReleased fun _ => ?_
    split
    · exact .ite (fun _ => .of_sameBut (s.closeWindow_sameBut _)) fun _ => .refl s
    · exact .refl s
  case pollSend => exact hR.whenReleased fun _ => .of_sameBut (s.serve1_sameBut _)
  case discoverSend => exact hR.whenReleased fun _ => .of_sameBut (s.serve1_sameBut _)
  case rangeSend => exact hR.whenReleased fun _ => .of_sameBut (s.serve1_sameBut _)
  case reportStart =>
    refine hR.whenReleased fun _ => ?_
    split
    · exact .of_sameBut (s.startReport_sameBut _)
    · exact .refl s
  case reportSent =>
    refine hR.whenReleased fun _ => ?_
    split
    · exact .of_sameBut (s.finishReport_sameBut _)
    · exact .refl s
  case silenceTimerExpiry => exact hR.whenDue fun _ _ => .of_sameBut s.silenceExpire_sameBut
  case liveRunReached => exact hR.whenDue fun _ _ => .of_sameBut s.enterRunning_sameBut
  case orphanTimerExpiry y => exact hR.whenDue fun _ _ => .of_sameBut (s.stationAbsent_sameBut y)
  case conflictTimerExpiry y => exact hR.whenDue fun _ _ => .of_sameBut (s.conflictOver_sameBut y)
  case streamHoldExpiry y =>
    refine hR.whenReleased fun _ => ?_
    split
    · exact .of_sameBut (s.holdOver_sameBut y _)
    · exact .refl s
  case reRangeTimerExpiry y => exact hR.whenDue fun _ _ => .of_sameBut (s.setStation_sameBut y _)
  case timebaseSecondsWrap => exact hR.whenDue fun _ _ => s.tick_wrap_ranged

theorem State.tick_ranged (hw : s.wrapDue = false) : s.rangedTo s.tick := fun ⟨_, hv⟩ => ⟨State.tick_timebaseInv hw, hv⟩

end

/-- Settles O4: every command keeps the timebase and the servo in their ranges. -/
theorem timebaseAndServoStayInRange : Obligations.TimebaseAndServoStayInRange := fun _ _ ht hv h =>
  State.rangedTo.handled.step (fun _ hw => State.tick_ranged hw) exec_ranged h ⟨ht, hv⟩

end Sys2Proof.Machine

/-! PROOFS. The machine as a whole, the request path and the lookups: O1, O2, O3, O5, O13 to O17 and O23. -/

namespace Sys2Proof.Machine

open Sys2Proof Config

/-! ## The meaning of a request -/

/-- What request `r` of link `l` with tag `t` does once it is admitted. -/
def reqMeaning (l : Link) (t : Tag) : Req → State → State × Option Reply
  | .find name => findReply name
  | .read h => readReply h
  | .list start => listReply start
  | .next h n => nextReply h n
  | .stations a => stationsReply l a
  | .notices => noticesReply l
  | .create q => createReply l q
  | .set q => setReply l q
  | .realign h => realignReply l h
  | .retire h => retireReply l h
  | .retireWithEnd h e => retireWithEndReply l h e
  | .watch h => onEntry h (watchEntry l)
  | .unwatch h => onEntry h (unwatchEntry l)
  | .stream h d lead => streamReply l h d lead
  | .unstream => unstreamReply l
  | .sample q => forManagement l (sampleReply q)
  | .servo q => forManagement l (servoReply q)
  | .civil q => forManagement l (civilReply q)
  | .bind q => forManagement l (bindReply q)
  | .chain act q => forManagement l fun s =>
      match act with
      | .keep => chainReply id q s
      | .other _ => refuse .badField s
  | .chainHold q => forManagement l (chainReply State.holdChain q)
  | .chainRelease q => forManagement l (chainReply State.releaseChain q)
  | .save b => forManagement l (onBank b (startSave t))
  | .load b => forManagement l (onBank b fun b s => (s.beginOp ⟨.load, b, some t, []⟩, none))
  | .reset => forManagement l (resetReply t)
  | .status c act => forManagement l (statusReply c act)

theorem exec_toInstr (l : Link) (t : Tag) (r : Req) (s : State) :
    exec (r.toInstr l t) s = .next (s.serve l t r (reqMeaning l t r)) := by
  cases r <;> rfl

section

variable {s s2 : State} {l : Link} {t : Tag} {r : Req} {h : Handle} {i : Idx} {st : Status} {b : Body}

/-- A request that stands next is answered as its meaning says. -/
theorem exec_reply (hs : s.standsNext l t r) (hr : reqMeaning l t r s = (s2, some (st, b))) :
    exec (r.toInstr l t) s = .next (s2.reply l t r st b) := by
  rw [exec_toInstr, State.serve_reply hs hr]

/-- A request that stands next and starts a store operation leaves its slot. -/
theorem exec_starts (hs : s.standsNext l t r) (hr : reqMeaning l t r s = (s2, none)) :
    exec (r.toInstr l t) s = .next s2.leaveSlot := by
  rw [exec_toInstr, State.serve_starts hs hr]

/-! ## The order of the machine -/

theorem step_of_empty (h : s.pending = []) : step s = s.idle := by
  unfold step
  rw [h]

theorem State.idle_asserted (h : s.resetPin = true) : s.idle = .next s := by simp [State.idle, h]

theorem State.idle_choice (h : s.resetPin = false) (hc : s.choiceDue = true) : s.idle = .next s.moveOn := by
  simp [State.idle, h, hc, State.choose]

theorem State.idle_due {c : Instr} (h : s.resetPin = false) (hc : s.choiceDue = false) (hd : s.due = some c) :
    s.idle = exec c s := by
  simp [State.idle, h, hc, hd]

theorem State.idle_accept {ls : List Link} (h : s.resetPin = false) (hc : s.choiceDue = false) (hd : s.due = none)
    (ha : s.arrivals = l :: ls) : s.idle = s.accept l := by
  simp [State.idle, h, hc, hd, ha]

theorem State.idle_clock (h : s.resetPin = false) (hc : s.choiceDue = false) (hd : s.due = none) (ha : s.arrivals = []) :
    s.idle = s.clock := by
  simp [State.idle, h, hc, hd, ha]

/-! ## The rate word and the readings (R74, R75, R122) -/

/-- A count in units of 2^−32 ns is told by its three fields. -/
theorem Timebase.advance_count (tb : Timebase) (w : Nat) :
    ((tb.advance w).seconds * second + (tb.advance w).ns) * fracUnit + (tb.advance w).frac
      = (tb.seconds * second + tb.ns) * fracUnit + tb.frac + w := by
  simp only [Timebase.advance, second, fracUnit]
  omega

theorem State.rateWord_eq (h : s.servo.correction.natAbs ≤ 6871947) : (s.rateWord : Int) = 34359738368 + s.servo.correction := by
  simp only [State.rateWord, nominalRate]
  omega

theorem State.tick_cycle_succ (s : State) : s.tick.cycle = s.cycle + 1 := rfl

/-- The newest of the noted readings that lies at or before the present cycle tells the present reading. -/
theorem State.notedReadings_head (hr : ∀ r ∈ s.readings, r.cycle ≤ s.cycle) :
    ∃ r rs, s.notedReadings = r :: rs ∧ r.cycle ≤ s.cycle ∧ r.count + (s.cycle - r.cycle) * r.rate = s.reading.count := by
  unfold State.notedReadings
  split
  · next r rs h =>
    split
    · next ht =>
      simp only [Reading.tells, Bool.and_eq_true, decide_eq_true_eq] at ht
      exact ⟨r, rs, rfl, hr r (by simp [h]), ht.2⟩
    · exact ⟨_, _, rfl, Nat.le_refl _, by simp [State.reading]⟩
  · exact ⟨_, _, rfl, Nat.le_refl _, by simp [State.reading]⟩

theorem State.reading_count_div (hf : s.tb.frac < fracUnit) : s.reading.count / fracUnit = s.now := by
  simp only [State.reading, fracUnit] at *
  omega

/-- R122: the time of the cycle that has passed is told as it was read. -/
theorem State.tick_timeAt_now (hf : s.tb.frac < fracUnit) (hr : ∀ r ∈ s.readings, r.cycle ≤ s.cycle) :
    s.tick.timeAt s.cycle = s.now := by
  obtain ⟨r, rs, hn, hc, ht⟩ := State.notedReadings_head hr
  have hread : s.tick.readings = r :: rs := hn
  have hlt : ¬s.tick.cycle ≤ s.cycle := by simp [State.tick_cycle_succ]
  simp only [State.timeAt, hlt, if_false, hread, List.find?_cons, decide_eq_true hc, ht]
  exact State.reading_count_div hf

/-- R122: the readings noted in the present cycle tell no earlier one otherwise. -/
theorem State.find_notedReadings {c : Nat} (hc : c < s.cycle) :
    (s.notedReadings.find? fun r => r.cycle ≤ c) = s.readings.find? fun r => r.cycle ≤ c := by
  have hn : ¬s.reading.cycle ≤ c := Nat.not_le.2 hc
  unfold State.notedReadings
  split
  · next r rs h =>
    rw [h]
    split
    · rfl
    · rw [List.find?_cons, decide_eq_false hn]
  · next h => simp [h, hn]

theorem State.tick_timeAt_past {c : Nat} (hc : c < s.cycle) (hr : ∃ r ∈ s.readings, r.cycle ≤ c) :
    s.tick.timeAt c = s.timeAt c := by
  obtain ⟨r, hm, hle⟩ := hr
  obtain ⟨x, hx⟩ : ∃ x, (s.readings.find? fun r => r.cycle ≤ c) = some x :=
    Option.isSome_iff_exists.1 (List.find?_isSome.2 ⟨r, hm, by simpa using hle⟩)
  have hread : (s.tick.readings.find? fun r => r.cycle ≤ c) = some x := (State.find_notedReadings hc).trans hx
  have h1 : ¬s.tick.cycle ≤ c := by rw [State.tick_cycle_succ]; omega
  simp only [State.timeAt, h1, Nat.not_le.2 hc, if_false, hread, hx]

/-! ## The checks of R162 -/

theorem checkHandle_error_of
    (hf : 63 < h.index ∧ st = .badField
      ∨ (∃ i : Idx, i.val = h.index ∧ s.entries[i].gen ≠ h.gen) ∧ st = .stale
      ∨ (∃ i : Idx, i.val = h.index ∧ s.entries[i].gen = h.gen ∧ s.entries[i].state = .vacant) ∧ st = .notFound) :
    checkHandle s h = .error st := by
  obtain ⟨hi, rfl⟩ | ⟨⟨i, hi, hg⟩, rfl⟩ | ⟨⟨i, hi, hg, hv⟩, rfl⟩ := hf
  · exact checkHandle_badField hi
  · exact checkHandle_stale hi hg
  · exact checkHandle_notFound hi hg hv

/-- R164: a management-only request from a station. -/
theorem reqMeaning_managementOnly (x : Addr) (hm : managementOnly (requestCode r) = true) (s : State) :
    reqMeaning (.station x) t r s = (s, some (.notPermitted, .empty)) := by
  cases r with
  | sample | servo | civil | bind | chain | chainHold | chainRelease | save | load | reset | status => rfl
  | _ => exact absurd hm (by simp [managementOnly, requestCode])

/-- R164: a request of the stations from the management port. -/
theorem reqMeaning_stationOnly (hm : stationOnly (requestCode r) = true) (s : State) :
    reqMeaning .mgmt t r s = (s, some (.notPermitted, .empty)) := by
  cases r with
  | stream | unstream => rfl
  | _ => exact absurd hm (by simp [stationOnly, requestCode])

/-- R162: a SET whose fields pass acts on its entry. -/
theorem setReply_checked {q : SetReq} (hb : SetReq.bad q = false) (l : Link) (s : State) :
    setReply l q s = onEntry q.handle (fun i s => withAuthority l i (fun s =>
      if SetReq.nameClash q i s then refuse .nameTaken s
      else
        let x := SetReq.apply q i s
        (x.finish i, some (okOr x.clamped, if x.clamped then .stored x.state.entries[i].storedView else .empty))) s) s := by
  simp [setReply, hb]

theorem badCode_polarity {c : Option Nat} (hc : ∀ n, c = some n → n ≤ 1) : badCode polarityOf c = false := by
  match c with
  | none => rfl
  | some 0 => rfl
  | some 1 => rfl
  | some (n + 2) => exact absurd (hc _ rfl) (by omega)

theorem bindReply_error {q : BindReq} (ha : q.action = .bind h) (ho : q.output ≤ 15) (hp : ∀ c, q.polarity = some c → c ≤ 1)
    (hc : checkHandle s h = .error st) : bindReply q s = (s, some (st, .empty)) := by
  have ho' : q.output < 16 := by omega
  have hp' : badCode polarityOf q.polarity = false := badCode_polarity hp
  simp [bindReply, ho', State.bindReplyOn, hp', State.bindTarget, ha, hc, Except.map, refuse]

theorem readReply_eq (h : Handle) (s : State) : readReply h s = onEntry h (fun i s => (s, some (.ok, .entry i s.entries[i]))) s := rfl

theorem nextReply_eq (h : Handle) (n : Nat) (s : State) : nextReply h n s = onEntry h (fun i s =>
    (s, some (okOr (decide (16777215 < n)), .next (s.nextView i (clampNat 0 16777215 n))))) s := rfl

/-- R3: a request whose handle names no entry is refused by the handle check. -/
theorem reqMeaning_handle_error (hc : checkHandle s h = .error st)
    (hr : r = .read h ∨ (∃ n, r = .next h n) ∨ r = .realign h ∨ r = .retire h ∨ (∃ e, r = .retireWithEnd h e) ∨ r = .watch h
      ∨ r = .unwatch h ∨ ((∃ x, l = .station x) ∧ ∃ d lead, r = .stream h d lead)
      ∨ (∃ q : SetReq, r = .set q ∧ q.handle = h ∧ SetReq.bad q = false)
      ∨ (l = .mgmt ∧ ∃ q : BindReq, r = .bind q ∧ q.action = .bind h ∧ q.output ≤ 15 ∧ ∀ c, q.polarity = some c → c ≤ 1)) :
    reqMeaning l t r s = (s, some (st, .empty)) := by
  obtain rfl | ⟨n, rfl⟩ | rfl | rfl | ⟨e, rfl⟩ | rfl | rfl | ⟨⟨x, rfl⟩, d, lead, rfl⟩ | ⟨q, rfl, rfl, hb⟩
    | ⟨rfl, q, rfl, ha, ho, hp⟩ := hr
  · exact (readReply_eq h s).trans (onEntry_error hc _)
  · exact (nextReply_eq h n s).trans (onEntry_error hc _)
  case _ | _ | _ | _ | _ | _ => exact onEntry_error hc _
  · exact (setReply_checked hb l s).trans (onEntry_error hc _)
  · exact bindReply_error ha ho hp hc

/-- R163: a request that changes an entry its link has no authority over. -/
theorem reqMeaning_not_owner (hc : checkHandle s h = .ok i) (ha : authority l s.entries[i] = false)
    (hr : r = .realign h ∨ r = .retire h ∨ (∃ e, r = .retireWithEnd h e)
      ∨ ∃ q : SetReq, r = .set q ∧ q.handle = h ∧ SetReq.bad q = false) :
    reqMeaning l t r s = (s, some (.notOwner, .empty)) := by
  obtain rfl | rfl | ⟨e, rfl⟩ | ⟨q, rfl, rfl, hb⟩ := hr
  case _ | _ | _ => exact (onEntry_ok hc _).trans (withAuthority_refused ha _)
  · exact (setReply_checked hb l s).trans ((onEntry_ok hc _).trans (withAuthority_refused ha _))

/-! ## Names (R4) -/

theorem badName_iff (nm : List Byte) : badName nm = true ↔ 12 < nm.length ∨ ∃ c ∈ nm, c < 0x20#8 ∨ 0x7E#8 < c := by
  simp [badName]

theorem State.nameHolder_some {nm : List Byte} (h : s.nameHolder nm = some i) :
    s.entries[i].state ≠ .vacant ∧ s.entries[i].name = some nm := by
  simpa using List.find?_some h

theorem State.nameHolder_isSome {nm : List Byte} (hv : s.entries[i].state ≠ .vacant) (hn : s.entries[i].name = some nm) :
    (s.nameHolder nm).isSome = true :=
  List.find?_isSome.2 ⟨i, List.mem_finRange i, by simp only [Bool.and_eq_true, decide_eq_true_eq]; exact ⟨hv, hn⟩⟩

theorem State.nameHolder_none {nm : List Byte} (h : ∀ j : Idx, s.entries[j].state ≠ .vacant → s.entries[j].name ≠ some nm) :
    s.nameHolder nm = none :=
  List.find?_eq_none.2 fun j _ hj => by
    simp only [Bool.and_eq_true, decide_eq_true_eq] at hj
    exact h j hj.1 hj.2

theorem State.nameHolder_unique {nm : List Byte} (hv : s.entries[i].state ≠ .vacant) (hn : s.entries[i].name = some nm)
    (hu : ∀ j : Idx, s.entries[j].state ≠ .vacant → s.entries[j].name = some nm → j = i) : s.nameHolder nm = some i := by
  obtain ⟨j, hj⟩ := Option.isSome_iff_exists.1 (State.nameHolder_isSome hv hn)
  obtain ⟨hv', hn'⟩ := State.nameHolder_some hj
  rw [hj, hu j hv' hn']

/-! ## CREATE refused (R10) -/

theorem State.lowestVacant_none (h : ∀ j : Idx, s.entries[j].state ≠ .vacant) : s.lowestVacant = none :=
  List.find?_eq_none.2 fun j _ => by simpa using h j

theorem State.lowestVacant_isSome (h : s.entries[i].state = .vacant) : ∃ j, s.lowestVacant = some j :=
  Option.isSome_iff_exists.1 (List.find?_isSome.2 ⟨i, List.mem_finRange i, by simpa using h⟩)

theorem State.quotaUsed_iff (s : State) (l : Link) : s.quotaUsed l = true ↔ ∃ x, l = .station x ∧ s.stations[x].owned = 8 := by
  cases l <;> simp [State.quotaUsed]

end

/-! ## The statements -/

/-- Settles O1: by the definition of a step. -/
theorem frontCommandRuns : Obligations.FrontCommandRuns := by
  intro c rest s h
  unfold step
  rw [h]

/-- Settles O2: the order of an empty queue, one case after the other. -/
theorem emptyQueueActs : Obligations.EmptyQueueActs := by
  intro s h
  rw [step_of_empty h]
  refine ⟨State.idle_asserted, State.idle_choice, fun hr hc => ⟨fun c => State.idle_due hr hc,
    fun hd l ls => State.idle_accept hr hc hd, fun hd ha hw => ?_, fun hd ha hw => ?_⟩⟩
  · rw [State.idle_clock hr hc hd ha, State.clock, hw]
    rfl
  · rw [State.idle_clock hr hc hd ha, State.clock, if_pos hw]

/-- Settles O3: the sum of the fields after the advance, and the readings that tell the times of past cycles. -/
theorem cycleAddsRateWord : Obligations.CycleAddsRateWord := by
  intro s hc
  obtain ⟨hns, hfrac⟩ := s.tb.advance_bounds s.rateWord
  refine ⟨?_, hns, hfrac, rfl, fun hf hr => ⟨State.tick_timeAt_now hf hr, fun c => State.tick_timeAt_past⟩⟩
  rw [← State.rateWord_eq hc, ← Nat.cast_add]
  exact congrArg Nat.cast (s.tb.advance_count s.rateWord)

theorem State.reset_entries_at (i : Idx) : State.reset.entries[i.val] = Entry.vacantAt 0 := by simp [State.reset]

theorem State.reset_stations_at (x : Addr) : State.reset.stations[x.val] = Station.cleared := by simp [State.reset]

theorem State.reset_outs_at (o : OutNo) : State.reset.outs[o.val] = Output.builtIn := by simp [State.reset]

/-- Settles O5: after reset nothing runs, and every record is cleared. -/
theorem resetMeetsEveryCondition : Obligations.ResetMeetsEveryCondition := by
  have hvacant (i : Idx) : State.reset.entries[i].state = .vacant := by simp [State.reset_entries_at, Entry.vacantAt]
  refine ⟨⟨by norm_num [State.reset], by norm_num [State.reset], by norm_num [State.reset]⟩, ?_, fun i h => absurd (hvacant i) h,
    fun x => ?_, ⟨fun i x => ?_, fun i => ?_, fun x => ?_⟩, ⟨List.Pairwise.nil, fun x => ?_⟩, fun x st h => ?_, fun _ o => ?_⟩
  · show ServoParams.builtIn.inRange ∧ Servo.reset.steered ∧ Servo.reset.classNoted ∧ Servo.reset.good ≤ 16 ∧ Servo.reset.outliers ≤ 8
    exact ⟨ServoParams.builtIn_inRange, by simp [Servo.steered, Servo.reset], by simp [Servo.classNoted, Servo.reset],
      by simp [Servo.reset], by simp [Servo.reset]⟩
  · have hown : State.reset.ownedBy x = [] := List.filter_eq_nil_iff.2 fun i _ => by simp [State.reset_entries_at, Entry.vacantAt]
    simp [hown, State.reset_stations_at, Station.cleared]
  · simp [State.reset_entries_at, State.reset_stations_at, Entry.vacantAt, Station.cleared]
  · simp [State.reset_entries_at, Entry.vacantAt]
  · simp [State.reset_stations_at, Station.cleared]
  · simp [State.reset_stations_at, Station.cleared]
  · simp [State.reset_stations_at, Station.cleared] at h
  · simp [State.reset_outs_at, Output.builtIn]

/-- Settles O13: what the entry of a result does to each kind of slot. -/
theorem resultTakesRequestsPlace : Obligations.ResultTakesRequestsPlace := by
  intro s t r st b
  exact ⟨fun x => (State.complete_station x _).trans rfl, fun hd => State.complete_mgmt hd _⟩

/-- Settles O14: the acceptance of a body that forms no whole request. -/
theorem unformedBodiesAreRefused : Obligations.UnformedBodiesAreRefused := by
  intro s l ls b c t hq hr hc hd ha hb
  rw [step_of_empty hq, State.idle_accept hr hc hd ha]
  refine ⟨fun hp => by simp only [State.accept, hb, hp], fun hp => ?_⟩
  have hst : malformedStatus l c = if (∃ x, l = .station x) ∧ 0x20#8 ≤ c ∧ c ≤ 0x28#8 ∨ l = .mgmt ∧ (c = 0x16#8 ∨ c = 0x17#8)
      then .notPermitted else .badField := by
    cases l <;> simp [malformedStatus, managementOnly, stationOnly]
  simp only [State.accept, hb, hp, hst]

/-- Settles O15: the link check, the handle check and the authority check, each before anything of its request is done. -/
theorem linkAndHandleChecksRefuse : Obligations.LinkAndHandleChecksRefuse := by
  intro s t
  refine ⟨fun x r hm hs => exec_reply hs (reqMeaning_managementOnly x hm s), fun r hm hs => exec_reply hs (reqMeaning_stationOnly hm s),
    fun l h st hf r hr hs => exec_reply hs (reqMeaning_handle_error (checkHandle_error_of hf) hr),
    fun l h i hi hg hv hl ho r hr hs => exec_reply hs (reqMeaning_not_owner (i := i) ((checkHandle_ok_iff h i).2 ⟨hi, hg, hv⟩) ?_ hr)⟩
  rw [← Bool.not_eq_true, authority_iff]
  exact not_or.2 ⟨hl, ho⟩

/-- Settles O16: each lookup's reply, from the record it names. -/
theorem lookupsAnswerFromRecords : Obligations.LookupsAnswerFromRecords := by
  intro s l t
  have hname (nm : List Byte) (hb : badName nm = false) (hn : nm ≠ []) : ¬(badName nm = true ∨ nm = []) := by simp [hb, hn]
  refine ⟨fun nm i hb hn hv hnm hu hs => exec_reply (r := .find nm) hs ?_, fun nm hb hn hu hs => exec_reply (r := .find nm) hs ?_,
    fun nm hnm hs => exec_reply (r := .find nm) hs ?_, fun a ha hs => exec_reply (r := .list a) hs ?_,
    fun a ha hs => exec_reply (r := .stations a) hs ?_, fun h i hi hg hv hs => exec_reply (r := .read h) hs ?_,
    fun a ha hs => exec_reply (r := .list a) hs ?_, fun a x ha hs => exec_reply (r := .stations a) hs ?_⟩
  · simp only [reqMeaning, findReply, hname nm hb hn, if_false, State.nameHolder_unique hv hnm hu]
    rfl
  · simp only [reqMeaning, findReply, hname nm hb hn, if_false, State.nameHolder_none hu, refuse_eq]
  · have hbad : badName nm = true ∨ nm = [] := by rw [badName_iff]; exact hnm.symm
    simp only [reqMeaning, findReply, hbad, if_true, refuse_eq]
  · simp only [reqMeaning, listReply, ha, if_true, refuse_eq]
  · have hout : ¬(1 ≤ a ∧ a ≤ 30) := by omega
    simp only [reqMeaning, stationsReply, hout, dif_neg, not_false_eq_true, refuse_eq]
  · exact (readReply_eq h s).trans (onEntry_ok ((checkHandle_ok_iff h i).2 ⟨hi, hg, hv⟩) _)
  · simp only [reqMeaning, listReply, Nat.not_lt.2 ha, if_false]
    rfl
  · have hin : 1 ≤ a ∧ a ≤ 30 := by omega
    have hx : (⟨a - 1, by omega⟩ : Addr) = x := Fin.ext (by simp [ha])
    simp only [reqMeaning, stationsReply, hin, and_self, dif_pos, hx]

/-- Settles O17: the view that NEXT forms, its index the next mark and `m` more. -/
theorem nextAnswersProjectedMark : Obligations.NextAnswersProjectedMark := by
  intro s l t h n i hi hg hv hs e m k left a
  have hm : clampNat 0 16777215 n = m := by
    simp only [clampNat, m, Nat.not_lt_zero, if_false]
    split <;> omega
  have hk : e.nextMark + m = k := by
    simp only [Entry.nextMark, k]
    cases e.motion <;> cases e.kl <;> simp
  have ha : e.foreseen k = a := by
    have hp : e.projected (e.nextMark + m) = if e.motion = .slewing then (if e.eps < 0 then -left else left) else e.eps := by
      simp only [Entry.projected, Nat.add_sub_cancel_left, left]
      cases e.motion <;> rfl
    rw [hk] at hp
    simp only [Entry.foreseen, hp, a]
  refine exec_reply (r := .next h n) hs ?_
  refine (nextReply_eq h n s).trans ((onEntry_ok ((checkHandle_ok_iff h i).2 ⟨hi, hg, hv⟩) _).trans ?_)
  have he : s.entries[i] = e := rfl
  have hpast : e.pastEnd a = decide (e.state = .ending ∧ ∃ x, e.endAt = some x ∧ (x : Int) < a) := by
    cases hend : e.endAt <;> simp [Entry.pastEnd, hend]
  simp only [State.nextView, hm, he, ha, hk, hpast, State.handleAt, handleOf, okOr, decide_eq_true_eq]

/-- Settles O23: the refusals of CREATE in their order. -/
theorem createIsRefused : Obligations.CreateIsRefused := by
  intro s l t q hs
  refine ⟨fun hb => exec_reply (r := .create q) hs ?_, fun hb hf => exec_reply (r := .create q) hs ?_,
    fun hb hv hq nm j hnm hne hj hjn => exec_reply (r := .create q) hs ?_⟩
  · simp only [reqMeaning, createReply, hb, if_true, refuse_eq]
  · simp only [reqMeaning, createReply, hb, Bool.false_eq_true, if_false, refuse_eq]
    cases hlow : s.lowestVacant with
    | none => rfl
    | some i =>
      have hi := State.lowestVacant_vacant hlow
      have hq : s.quotaUsed l = true := (State.quotaUsed_iff s l).2 (hf.resolve_left fun h => h i hi)
      simp only [hq, if_true]
  · obtain ⟨v, hv⟩ := hv
    obtain ⟨i, hlow⟩ := State.lowestVacant_isSome hv
    have hq' : ¬s.quotaUsed l = true := fun h => by
      obtain ⟨x, hx, ho⟩ := (State.quotaUsed_iff s l).1 h
      exact hq x hx ho
    have hheld : s.nameHeld (CreateReq.toDef q).name = true := by
      simp only [CreateReq.toDef, hnm, Option.bind_some, nameField, hne, if_false, State.nameHeld]
      exact State.nameHolder_isSome hj hjn
    simp only [reqMeaning, createReply, hb, Bool.false_eq_true, if_false, refuse_eq, hlow, hq', hheld, if_true]

end Sys2Proof.Machine

/-! PROOFS. Mark arithmetic, labels and CREATE: O19 to O22 and O60. -/

namespace Sys2Proof.Machine

open Sys2Proof Config

/-! ## The index search (R32, R34) -/

/-- The quotient rounded up lies above exactly what lies below the quotient. -/
theorem lt_ceilDiv_iff {a b x : Nat} (hb : 0 < b) : x < ceilDiv a b ↔ x * b < a := by
  rw [ceilDiv, Nat.lt_iff_add_one_le, Nat.le_div_iff_mul_le hb, Nat.add_mul, Nat.one_mul]
  omega

/-- R34: the search finds the first mark strictly after an instant. -/
theorem firstAfter_le_iff {num den : Nat} (phi eps t : Int) (k : Nat) (hn : 0 < num) (hd : 0 < den) :
    firstAfter num den phi eps t ≤ k ↔ t < nominal num den k + phi + eps := by
  unfold firstAfter indexAt nominal
  by_cases h : t - phi - eps < 0
  · simp only [h, if_true]
    omega
  · obtain ⟨x, hx⟩ := Int.eq_ofNat_of_zero_le (not_lt.1 h)
    have hq : ((x : Int) * num) / (den * (second : Nat)) = ((x * num / (den * second) : Nat) : Int) := by push_cast; rfl
    have hlt : x * num / (den * second) < k ↔ x < ceilDiv (k * den * second) num := by
      rw [lt_ceilDiv_iff hn, Nat.div_lt_iff_lt_mul (by positivity), Nat.mul_assoc]
    rw [if_neg h, hx]
    have ht : t = x + phi + eps := by omega
    rw [hq]
    omega

/-- R34: the search finds the first mark at or after an instant. -/
theorem firstFrom_le_iff {num den : Nat} (phi eps t : Int) (k : Nat) (hn : 0 < num) (hd : 0 < den) :
    firstFrom num den phi eps t ≤ k ↔ t ≤ nominal num den k + phi + eps := by
  rw [firstFrom, firstAfter_le_iff _ _ _ _ hn hd]
  omega

/-- R37: the first mark of an entry that waits to start. -/
theorem startMark_le_iff {num den : Nat} (phi r : Int) (k : Nat) (hn : 0 < num) (hd : 0 < den) :
    startMark num den phi r ≤ k ↔ r + 1000000 ≤ nominal num den k + phi := by
  rw [startMark, firstFrom_le_iff _ _ _ _ hn hd, add_zero]
  rfl

/-- Settles O19: the search, for every phase and carried offset. -/
theorem indexSearchFindsFirstMark : Obligations.IndexSearchFindsFirstMark :=
  fun _ _ phi eps t k hn hd => firstAfter_le_iff phi eps t k hn hd

/-! ## Successive marks (R31, R40) -/

/-- R31, R32: successive nominal instants lie a whole period or more apart. -/
theorem nominal_succ {num den : Nat} (k : Nat) (hn : 0 < num) : nominal num den k + wholePeriod num den ≤ nominal num den (k + 1) := by
  have hsum : (k + 1) * den * second = k * den * second + den * second := by ring
  have hq : den * second / num * num ≤ den * second := Nat.div_mul_le_self ..
  unfold nominal wholePeriod
  rw [hsum, ceilDiv, ceilDiv, Nat.le_div_iff_mul_le hn, Nat.add_mul]
  have hk : (k * den * second + (num - 1)) / num * num ≤ k * den * second + (num - 1) := Nat.div_mul_le_self ..
  omega

theorem Entry.nextMark_started {e : Entry} {k : Nat} (hm : e.motion ≠ .pending) (hk : e.kl = some k) : e.nextMark = k + 1 := by
  unfold Entry.nextMark
  cases h : e.motion with
  | pending => exact absurd h hm
  | running | slewing | held => simp [hk]

/-- R12, R39, R40: what a started entry is after it emits a mark, its label bases and its state apart. -/
theorem Entry.emit_started {e : Entry} (hm : e.motion ≠ .pending) :
    e.emit.kl = some e.nextMark ∧ e.emit.lm = some (e.applied e.nextMark) ∧ e.emit.num = e.num ∧ e.emit.den = e.den
    ∧ e.emit.phi = e.phi ∧ e.emit.eps = (if e.motion = .slewing then slewMove e.eps e.slew else e.eps)
    ∧ e.emit.motion ≠ .pending := by
  obtain ⟨b, n, hsw⟩ := e.switchAt_eq e.nextMark
  simp only [Entry.emit, hsw]
  cases h : e.motion with
  | pending => exact absurd h hm
  | running => simp
  | held => simp
  | slewing =>
    simp only [Entry.withMotion]
    split <;> simp

theorem slewMove_ge (eps : Int) (n : Nat) : eps - n ≤ slewMove eps n := by
  unfold slewMove
  split <;> omega

/-- Settles O20: the nominal instants lie Pf apart, and the carried offset moves by the slew step at most. -/
theorem successiveMarksKeepApart : Obligations.SuccessiveMarksKeepApart := by
  intro e k hn _ hpf hk hm _
  obtain ⟨hkl, hlm, hnum, hden, hphi, heps, hmot⟩ := Entry.emit_started hm
  have hnext : e.nextMark = k + 1 := Entry.nextMark_started hm hk
  rw [hnext] at hkl hlm
  have hnext' : e.emit.nextMark = k + 1 + 1 := Entry.nextMark_started hmot hkl
  refine ⟨hkl, hlm, ?_⟩
  have hgap := nominal_succ (den := e.den) (k + 1) hn
  simp only [Entry.applied, hnext, hnext', hnum, hden, hphi, heps]
  have hmove := slewMove_ge e.eps e.slew
  split <;> omega

/-! ## Snaps (R42) -/

/-- R42 step 2: the mark of a snap is the first that meets both bounds. -/
theorem Entry.snapMark_le_iff {e : Entry} (r : Int) (k : Nat) (hn : 0 < e.num) (hd : 0 < e.den) :
    e.snapMark r ≤ k ↔ r < nominal e.num e.den k + e.phi ∧ ∀ l, e.lm = some l → l + (e.pf / 2 : Nat) ≤ nominal e.num e.den k + e.phi := by
  unfold Entry.snapMark
  cases e.lm with
  | none => simp [firstAfter_le_iff _ _ _ _ hn hd]
  | some l => simp [firstAfter_le_iff _ _ _ _ hn hd, firstFrom_le_iff _ _ _ _ hn hd, and_comm]

/-- Settles O21: the snap's mark is 0 exactly when mark 0 meets the bounds. -/
theorem snapFindsGuardedMark : Obligations.SnapFindsGuardedMark := by
  intro e r hn hd hm e' meets
  have hmark (k : Nat) : e.snapMark r ≤ k ↔ meets k := Entry.snapMark_le_iff r k hn hd
  by_cases h0 : e.snapMark r = 0
  · have he : e' = ({ e with eps := 0, realigns := satAdd 255 e.realigns 1, kl := none, lm := none }.waitFrom r).withMotion .pending := by
      simp only [e', Entry.snapped, h0, if_true]
    have hmeets : meets 0 := (hmark 0).1 (by omega)
    rw [he]
    exact ⟨rfl, rfl, fun _ => ⟨rfl, rfl, rfl, _, rfl, fun j => startMark_le_iff _ _ _ hn hd⟩, fun h => absurd hmeets h⟩
  · have he : e' = { e with eps := 0, realigns := satAdd 255 e.realigns 1, kl := some (e.snapMark r - 1) }.withMotion .running := by
      simp only [e', Entry.snapped, h0, if_false]
    have hmeets : ¬meets 0 := fun h => h0 (Nat.le_zero.1 ((hmark 0).2 h))
    have hsucc : e.snapMark r - 1 + 1 = e.snapMark r := by omega
    rw [he]
    refine ⟨rfl, rfl, fun h => absurd h hmeets, fun _ => ⟨rfl, rfl, rfl, _, rfl, ?_, fun j hj => ?_⟩⟩
    · rw [hsucc]
      exact (hmark _).1 (Nat.le_refl _)
    · rw [hsucc]
      exact (hmark j).2 hj

/-! ## Label bases (R62, R63, R65) -/

theorem Entry.baseAt_belongs {e : Entry} (tj cs : Nat) (hn : 0 < e.num) (hd : 0 < e.den) : (e.baseAt tj cs).belongs e tj cs := by
  refine ⟨fun k => ?_, fun hl => ?_, fun d hl hc => ?_⟩
  · have h : (e.baseAt tj cs).kb = firstFrom e.num e.den 0 0 (tj * second) := rfl
    rw [h, firstFrom_le_iff _ _ _ _ hn hd]
    simp only [second]
    omega
  · simp [Entry.baseAt, jamCount, hl]
  · simp [Entry.baseAt, jamCount, hl, hc]

theorem Civil.offsetAfter_eq (c : Civil) : c.offsetAfter = c.leapOffset := rfl

/-- R62, R63: bases computed anew are those of tB and tn. -/
theorem Entry.withBases_labelled {e : Entry} (c : Civil) (hn : 0 < e.num) (hd : 0 < e.den) : (e.withBases c).labelled c := by
  unfold Entry.withBases
  split
  · next h => simp [Entry.labelled, Entry.nextLabelled, h]
  · next h =>
    simp only [Entry.labelled, Entry.nextLabelled, h, if_false]
    exact ⟨⟨_, rfl, e.baseAt_belongs _ _ hn hd⟩, _, rfl, e.baseAt_belongs _ _ hn hd⟩

theorem Entry.withNextBase_nextLabelled {e : Entry} (c : Civil) (hn : 0 < e.num) (hd : 0 < e.den) : (e.withNextBase c).nextLabelled c := by
  unfold Entry.withNextBase
  split
  · next h => simp [Entry.nextLabelled, h]
  · next h =>
    simp only [Entry.nextLabelled, h, if_false]
    exact ⟨_, rfl, e.baseAt_belongs _ _ hn hd⟩

/-- R62, R63: of an entry new bases change the bases alone. -/
theorem Entry.withBases_eq (e : Entry) (c : Civil) : ∃ b n, e.withBases c = { e with base := b, next := n } := by
  unfold Entry.withBases
  split <;> exact ⟨_, _, rfl⟩

/-! ## CREATE (R10, R11) -/

section

variable {s : State} {l : Link} {i : Idx} {d : EntryDef} {g : BitVec 8} {t : Nat} {c : Civil}

/-- R11: the entry that a definition makes. -/
theorem EntryDef.entry_made (hn : 0 < d.num) (hd : 0 < d.den) : d.made g l t c (d.entry g l t c) := by
  have hlab : (d.entry g l t c).labelled c := Entry.withBases_labelled (e := {
    Entry.vacantAt g with
      state := .pending, motion := .pending, owner := l, name := d.name, num := d.num, den := d.den, pf := wholePeriod d.num d.den,
      phi := clampPhase (wholePeriod d.num d.den) d.phi, policy := d.policy, slew := clampSlew (wholePeriod d.num d.den) d.slew,
      label := degrade d.label d.num d.den }) c hn hd
  obtain ⟨b, n, hb⟩ := Entry.withBases_eq {
    Entry.vacantAt g with
      state := .pending, motion := .pending, owner := l, name := d.name, num := d.num, den := d.den, pf := wholePeriod d.num d.den,
      phi := clampPhase (wholePeriod d.num d.den) d.phi, policy := d.policy, slew := clampSlew (wholePeriod d.num d.den) d.slew,
      label := degrade d.label d.num d.den } c
  simp only [EntryDef.entry, hb] at hlab ⊢
  exact ⟨rfl, rfl, rfl, rfl, rfl, rfl, rfl, rfl, rfl, rfl, rfl, rfl, rfl, rfl, rfl, rfl, rfl, rfl, rfl,
    ⟨_, rfl, fun j => startMark_le_iff _ _ _ hn hd⟩, hlab⟩

theorem State.lowestVacant_eq (hv : s.entries[i].state = .vacant) (hlow : ∀ j : Idx, j < i → s.entries[j].state ≠ .vacant) :
    s.lowestVacant = some i := by
  refine List.find?_eq_some_iff_append.2 ⟨by simpa using hv, (List.finRange 64).take i, (List.finRange 64).drop (i + 1), ?_, ?_⟩
  · have hi : i.val < (List.finRange 64).length := by simp
    conv_lhs => rw [← List.take_append_drop i.val (List.finRange 64), List.drop_eq_getElem_cons hi]
    simp
  · intro j hj
    obtain ⟨n, hlt, rfl⟩ := List.mem_take_iff_getElem.1 hj
    have hn : n < i.val := by omega
    simpa using hlow ⟨n, by omega⟩ hn

theorem badRate_pos {num den : Nat} (h : badRate num den = false) : 0 < num ∧ 0 < den := by
  simp [badRate] at h
  omega

theorem CreateReq.rate_pos {q : CreateReq} (h : CreateReq.bad q = false) : 0 < q.num ∧ 0 < q.den := by
  simp only [CreateReq.bad, Bool.or_eq_false_iff] at h
  exact badRate_pos h.1.1.1

/-- R11: whether the entry made differs from its definition. -/
theorem EntryDef.clamped_iff (d : EntryDef) (g : BitVec 8) (l : Link) (t : Nat) (c : Civil) :
    d.clamped = true ↔ ¬((d.entry g l t c).phi = d.phi ∧ (d.entry g l t c).slew = d.slew ∧ (d.entry g l t c).label = d.label) := by
  simp only [EntryDef.entry, Entry.waitFrom, Entry.withBases]
  split <;> simp [EntryDef.clamped] <;> tauto

end

/-- Settles O22: the lowest VACANT entry, filled from the definition that the request spells. -/
theorem createFillsLowestVacant : Obligations.CreateFillsLowestVacant := by
  intro s l t q i hb hv hlow hq hname hs d
  have hd : d = CreateReq.toDef q := rfl
  obtain ⟨hn, hden⟩ := CreateReq.rate_pos hb
  have hent : (s.fillEntry i l d).entries[i] = d.entry s.entries[i].gen l s.now s.civil := by
    simp [State.fillEntry_entries]
  refine ⟨s.fillEntry i l d, ⟨hent ▸ EntryDef.entry_made hn hden, ?_⟩, fun j hj => ?_, fun x => ?_, s.fillEntry_sameBut i l d⟩
  · have hr : reqMeaning l t (.create q) s = (s.fillEntry i l d, some (okOr d.clamped,
        if d.clamped then .created (s.handleAt i) (s.fillEntry i l d).entries[i].storedView else .handle (s.handleAt i))) := by
      have hheld : s.nameHeld d.name = false := hname
      simp only [reqMeaning, createReply, hb, Bool.false_eq_true, if_false, State.lowestVacant_eq hv hlow, hq, ← hd, hheld]
    refine (exec_reply (r := .create q) hs hr).trans ?_
    have hc := d.clamped_iff s.entries[i].gen l s.now s.civil
    rw [← hent] at hc
    by_cases h : d.clamped = true
    · rw [if_neg (hc.1 h)]
      simp only [h, okOr, if_true]
      rfl
    · rw [if_pos (not_not.1 (mt hc.2 h))]
      simp only [h, okOr]
      rfl
  · have hne : i.val ≠ j.val := fun h => hj (Fin.ext h.symm)
    simp [State.fillEntry_entries, Vector.getElem_set_ne, hne]
  · simpa using s.fillEntry_stations_at i l d x

/-! ## Labels (R64 to R66) -/

theorem labelsPerSecond_pos {num den : Nat} (hn : 0 < num) (hd : 0 < den) : 0 < labelsPerSecond num den :=
  Nat.div_pos (by omega) hd

/-- R64: the two rates that allow DROP. -/
theorem labelsPerSecond_of_dropCount {num den d : Nat} (hd : 0 < den) (h : dropCount num den = some d) :
    labelsPerSecond num den = 30 ∧ d = 2 ∨ labelsPerSecond num den = 60 ∧ d = 4 := by
  unfold dropCount at h
  unfold labelsPerSecond ceilDiv
  split at h
  · exact .inl ⟨by rw [Nat.div_eq_iff hd]; omega, by simpa using h.symm⟩
  · split at h
    · exact .inr ⟨by rw [Nat.div_eq_iff hd]; omega, by simpa using h.symm⟩
    · cases h

/-- R65: the fields of a label, from the frame number. -/
theorem label_fields (nL : Nat) (f : Int) (h : 0 < nL) :
    ((f / (3600 * nL)) % 24).toNat < 24 ∧ ((f / (60 * nL)) % 60).toNat < 60 ∧ ((f / nL) % 60).toNat < 60 ∧ (f % nL).toNat < nL
    ∧ (((f / (3600 * nL)) % 24).toNat : Int) = f / (3600 * nL) % 24 ∧ (((f / (60 * nL)) % 60).toNat : Int) = f / (60 * nL) % 60
    ∧ (((f / nL) % 60).toNat : Int) = f / nL % 60 ∧ ((f % nL).toNat : Int) = f % nL := by
  have h1 := Int.emod_nonneg f (b := nL) (by omega)
  have h2 := Int.emod_lt_of_pos f (b := nL) (by omega)
  omega

/-- R66: the numbers that a frame number leaves out under DROP, at 30 labels a second. -/
theorem frameNumber_thirty (n : Int) :
    let f := frameNumber 30 2 n
    let g := frameNumber 30 2 (n + 1)
    ¬(f / 30 % 60 = 0 ∧ f / 1800 % 60 % 10 ≠ 0 ∧ f % 30 < 2)
    ∧ g = if (f + 1) % 1800 = 0 ∧ (f + 1) / 1800 % 10 ≠ 0 then f + 1 + 2 else f + 1 := by
  simp only [frameNumber]
  norm_num
  split <;> split <;> omega

/-- R66: the numbers that a frame number leaves out under DROP, at 60 labels a second. -/
theorem frameNumber_sixty (n : Int) :
    let f := frameNumber 60 4 n
    let g := frameNumber 60 4 (n + 1)
    ¬(f / 60 % 60 = 0 ∧ f / 3600 % 60 % 10 ≠ 0 ∧ f % 60 < 4)
    ∧ g = if (f + 1) % 3600 = 0 ∧ (f + 1) / 3600 % 10 ≠ 0 then f + 1 + 4 else f + 1 := by
  simp only [frameNumber]
  norm_num
  split <;> split <;> omega

/-- Settles O60: the fields of every label, and the numbers left out at the two rates that allow DROP. -/
theorem dropLabelsSkipNumbers : Obligations.DropLabelsSkipNumbers := by
  refine ⟨fun num den n hn hd => ?_, fun num den d n hd hdrop => ?_⟩
  · obtain ⟨h1, h2, h3, h4, h5, h6, h7, h8⟩ := label_fields (labelsPerSecond num den) n (labelsPerSecond_pos hn hd)
    exact ⟨h1, h2, h3, h4, rfl, h5, h6, h7, h8⟩
  · simp only [labelOf, hdrop, Option.getD_some]
    obtain ⟨hnL, rfl⟩ | ⟨hnL, rfl⟩ := labelsPerSecond_of_dropCount hd hdrop
    · simp only [hnL]
      obtain ⟨h1, h2, h3, h4, h5, h6, h7, h8⟩ := label_fields 30 (frameNumber 30 2 n) (by omega)
      obtain ⟨hskip, hnext⟩ := frameNumber_thirty n
      refine ⟨h1, h2, h3, h4, rfl, fun h => hskip ?_, hnext⟩
      omega
    · simp only [hnL]
      obtain ⟨h1, h2, h3, h4, h5, h6, h7, h8⟩ := label_fields 60 (frameNumber 60 4 n) (by omega)
      obtain ⟨hskip, hnext⟩ := frameNumber_sixty n
      refine ⟨h1, h2, h3, h4, rfl, fun h => hskip ?_, hnext⟩
      omega

end Sys2Proof.Machine

/-! PROOFS. The choice of a report index (R153) and what events leave of a stream (R156): O31 and O32. -/

namespace Sys2Proof.Machine

open Sys2Proof Config

/-! ## Search by halves -/

/-- The search finds the least index in its range at which a property holds that stays once it holds. -/
theorem searchLeast_spec (p : Nat → Bool) (fuel lo hi : Nat) (hle : lo ≤ hi) (hfuel : hi - lo < 2 ^ fuel) (hhi : p hi = true)
    (hmono : ∀ i j, lo ≤ i → i ≤ j → p i = true → p j = true) :
    p (searchLeast p fuel lo hi) = true ∧ lo ≤ searchLeast p fuel lo hi
      ∧ ∀ j, lo ≤ j → p j = true → searchLeast p fuel lo hi ≤ j := by
  induction fuel generalizing lo hi with
  | zero =>
    have h : hi = lo := by simp at hfuel; omega
    exact ⟨hhi, hle, fun j hj _ => by simpa [searchLeast, h] using hj⟩
  | succ fuel ih =>
    rw [searchLeast, pow_succ] at *
    split
    · next h => exact ⟨hhi, hle, fun j hj _ => by omega⟩
    split
    · next hm => exact ih lo ((lo + hi) / 2) (by omega) (by omega) hm hmono
    · next hm =>
      obtain ⟨h1, h2, h3⟩ := ih ((lo + hi) / 2 + 1) hi (by omega) (by omega) hhi fun i j hi' => hmono i j (by omega)
      refine ⟨h1, by omega, fun j hj hpj => ?_⟩
      by_contra hlt
      exact hm (hmono j _ hj (by
        by_contra hgt
        exact hlt (h3 j (by omega) hpj)) hpj)

/-! ## Projected instants (R52) -/

section

variable {e : Entry} {st : Stream} {d : Nat} {t : Int} {above : Option Nat} {counted : Bool}

/-- R37 to R40: what an entry's record keeps of its rate and its slew step. -/
structure Entry.paced (e : Entry) : Prop where
  num : 0 < e.num
  den : 0 < e.den
  pf : e.pf = wholePeriod e.num e.den
  slew : e.slew ≤ max 1 (e.pf / 4)
  period : 1 ≤ e.pf

/-- A projected offset never lies further below 0 than the offset carried. -/
theorem Entry.projected_ge (e : Entry) (k : Nat) : min e.eps 0 ≤ e.projected k := by
  unfold Entry.projected
  cases e.motion with
  | pending | running | held => exact min_le_left _ _
  | slewing =>
    dsimp only
    split <;> omega

theorem Entry.projected_succ {k : Nat} (hk : e.nextMark ≤ k) : e.projected k ≤ e.projected (k + 1) + e.slew := by
  have hmul : (k + 1 - e.nextMark) * e.slew = (k - e.nextMark) * e.slew + e.slew := by
    rw [Nat.sub_add_comm hk, Nat.add_mul, Nat.one_mul]
  unfold Entry.projected
  cases e.motion with
  | pending | running | held => exact le_add_of_nonneg_right (Int.natCast_nonneg _)
  | slewing =>
    dsimp only
    rw [hmul]
    generalize (k - e.nextMark) * e.slew = a
    split <;> omega

/-- R153: the projected instants of the marks to come never go back. -/
theorem Entry.foreseen_succ (h : e.paced) {k : Nat} (hk : e.nextMark ≤ k) : e.foreseen k ≤ e.foreseen (k + 1) := by
  have hgap := nominal_succ (den := e.den) k h.num
  have hproj := Entry.projected_succ hk
  have hpf := h.pf
  have hslew := h.slew
  have hperiod := h.period
  unfold Entry.foreseen
  rw [← hpf] at hgap
  omega

theorem Entry.foreseen_mono (h : e.paced) {i j : Nat} (hi : e.nextMark ≤ i) (hij : i ≤ j) : e.foreseen i ≤ e.foreseen j := by
  induction j, hij using Nat.le_induction with
  | base => exact le_refl _
  | succ j hij ih => exact ih.trans (Entry.foreseen_succ h (hi.trans hij))

theorem ceilDiv_le_iff {a b x : Nat} (hb : 0 < b) : ceilDiv a b ≤ x ↔ a ≤ x * b := by
  rw [← Nat.not_lt, lt_ceilDiv_iff hb, Nat.not_lt]

/-! ## The choice (R153) -/

/-- R153: mark `k` may be reported: a multiple of the step at or above the next mark, above the previous kr, whose S0 lies at or
after the instant of the choice. -/
def Stream.fits (st : Stream) (e : Entry) (d : Nat) (t : Int) (above : Option Nat) (k : Nat) : Prop :=
  k % st.step = 0 ∧ e.nextMark ≤ k ∧ (∀ j, above = some j → j < k) ∧ t ≤ e.foreseen k - d - st.lead

/-- The multiples of the step below which no mark may be reported. -/
def Stream.lowest (st : Stream) (e : Entry) (above : Option Nat) : Nat :=
  match above with
  | some k => max (ceilDiv e.nextMark st.step) (k / st.step + 1)
  | none => ceilDiv e.nextMark st.step

/-- The multiple of the step that the choice finds. -/
def Stream.found (st : Stream) (e : Entry) (d : Nat) (t : Int) (above : Option Nat) : Nat :=
  let hi := max (st.lowest e above) (ceilDiv (firstFrom e.num e.den (e.phi + min e.eps 0) 0 (t + d + st.lead)) st.step)
  searchLeast (fun j => t + d + st.lead ≤ e.foreseen (j * st.step)) ((hi - st.lowest e above).log2 + 1) (st.lowest e above) hi

theorem Stream.choose_some (st : Stream) (e : Entry) (d : Nat) (t : Int) (above : Option Nat) (counted : Bool) :
    st.choose e (some d) t above counted =
      if e.pastEnd (e.foreseen (st.found e d t above * st.step)) then { st with kr := none, s0 := none }
      else { st with kr := some (st.found e d t above * st.step)
                     s0 := some (e.foreseen (st.found e d t above * st.step) - d - st.lead)
                     skipped := if counted then satAdd 255 st.skipped (st.found e d t above - ceilDiv e.nextMark st.step)
                       else st.skipped } := by
  cases above <;> rfl

theorem Stream.lowest_le_iff (hs : 1 ≤ st.step) (m : Nat) :
    st.lowest e above ≤ m ↔ e.nextMark ≤ m * st.step ∧ ∀ j, above = some j → j < m * st.step := by
  cases above with
  | none => simp [Stream.lowest, ceilDiv_le_iff hs]
  | some k => simp [Stream.lowest, ceilDiv_le_iff hs, Nat.div_lt_iff_lt_mul hs]

theorem Stream.fits_iff (hs : 1 ≤ st.step) (m : Nat) :
    st.fits e d t above (m * st.step) ↔ st.lowest e above ≤ m ∧ t + d + st.lead ≤ e.foreseen (m * st.step) := by
  rw [Stream.lowest_le_iff hs, Stream.fits]
  simp only [Nat.mul_mod_left, true_and, and_assoc]
  constructor <;> rintro ⟨h1, h2, h3⟩ <;> exact ⟨h1, h2, by omega⟩

/-- R153: the choice finds the least mark that may be reported. -/
theorem Stream.found_least (h : e.paced) (hs : 1 ≤ st.step) (d : Nat) (t : Int) (above : Option Nat) :
    st.fits e d t above (st.found e d t above * st.step)
      ∧ ∀ j, st.fits e d t above j → st.found e d t above * st.step ≤ j := by
  have hmono : ∀ i j, st.lowest e above ≤ i → i ≤ j → decide (t + d + st.lead ≤ e.foreseen (i * st.step)) = true →
      decide (t + d + st.lead ≤ e.foreseen (j * st.step)) = true := fun i j hi hij hp => by
    have hstep : i * st.step ≤ j * st.step := Nat.mul_le_mul_right _ hij
    have hf := Entry.foreseen_mono h ((Stream.lowest_le_iff hs i).1 hi).1 hstep
    simp only [decide_eq_true_eq] at hp ⊢
    omega
  obtain ⟨hi, hhi⟩ : ∃ hi, hi = max (st.lowest e above)
      (ceilDiv (firstFrom e.num e.den (e.phi + min e.eps 0) 0 (t + d + st.lead)) st.step) := ⟨_, rfl⟩
  have hle : st.lowest e above ≤ hi := hhi ▸ Nat.le_max_left ..
  have hreach : decide (t + d + st.lead ≤ e.foreseen (hi * st.step)) = true := by
    have hfirst := (ceilDiv_le_iff hs).1 (hhi ▸ Nat.le_max_right .. :
      ceilDiv (firstFrom e.num e.den (e.phi + min e.eps 0) 0 (t + d + st.lead)) st.step ≤ hi)
    rw [firstFrom_le_iff _ _ _ _ h.num h.den] at hfirst
    have hproj := e.projected_ge (hi * st.step)
    refine decide_eq_true ?_
    unfold Entry.foreseen
    omega
  have hfound := searchLeast_spec _ _ _ _ hle Nat.lt_log2_self hreach hmono
  have heq : st.found e d t above
      = searchLeast (fun j => t + d + st.lead ≤ e.foreseen (j * st.step)) ((hi - st.lowest e above).log2 + 1)
          (st.lowest e above) hi := by rw [hhi]; rfl
  rw [← heq] at hfound
  obtain ⟨hp, hlow, hleast⟩ := hfound
  refine ⟨(Stream.fits_iff hs _).2 ⟨hlow, by simpa using hp⟩, fun j hj => ?_⟩
  have hj' : j = j / st.step * st.step := (Nat.div_mul_cancel (Nat.dvd_of_mod_eq_zero hj.1)).symm
  rw [hj'] at hj ⊢
  obtain ⟨h1, h2⟩ := (Stream.fits_iff hs _).1 hj
  exact Nat.mul_le_mul_right _ (hleast _ h1 (by simpa using h2))

theorem Entry.pastEnd_iff (e : Entry) (a : Int) :
    e.pastEnd a = true ↔ e.state = .ending ∧ ∃ x, e.endAt = some x ∧ (x : Int) < a := by
  cases h : e.endAt <;> simp [Entry.pastEnd, h]

/-- R153: what a choice leaves of the stream: kr and S0 of the least mark that may be reported, or neither past the end. -/
theorem Stream.choose_least (h : e.paced) (hs : 1 ≤ st.step) (d : Nat) (t : Int) (above : Option Nat) (counted : Bool) :
    ∃ k, st.fits e d t above k ∧ (∀ j, st.fits e d t above j → k ≤ j)
      ∧ if e.state = .ending ∧ ∃ x, e.endAt = some x ∧ (x : Int) < e.foreseen k then
          st.choose e (some d) t above counted = { st with kr := none, s0 := none }
        else
          st.choose e (some d) t above counted = { st with
            kr := some k, s0 := some (e.foreseen k - d - st.lead)
            skipped := if counted then min 255 (st.skipped + (k / st.step - ceilDiv e.nextMark st.step)) else st.skipped } := by
  obtain ⟨hfits, hleast⟩ := Stream.found_least h hs d t above
  refine ⟨_, hfits, hleast, ?_⟩
  rw [Stream.choose_some]
  simp only [← Entry.pastEnd_iff, Nat.mul_div_cancel _ hs, satAdd]
  split
  · rfl
  · rfl

end

/-- Settles O32: the choice, and each event that reaches a stream. -/
theorem reportIndexIsLeast : Obligations.ReportIndexIsLeast := by
  intro st e d t above counted hn hd hs hpf hslew hperiod fits st'
  obtain ⟨k, hfits, hleast, hval⟩ := Stream.choose_least ⟨hn, hd, hpf, hslew, hperiod⟩ hs d t above counted
  refine ⟨k, hfits, hleast, hval, rfl, fun delta => ⟨rfl, rfl, fun old h => Stream.replan_absent h⟩, ?_⟩
  intro old j hj v past late
  have hv : v = if j < e.nextMark then
        if j < old.nextMark ∧ e.reportInstant j = old.reportInstant j then st else st.choose e (some d) t none false
      else if e.pastEnd (e.foreseen j) then { st with kr := none, s0 := none }
      else if e.foreseen j = old.foreseen j then st
      else { st with s0 := some (e.foreseen j - d - st.lead) } := by
    simp only [v, Stream.replan, hj]
  have hpast : e.pastEnd (e.foreseen j) = true ↔ past := e.pastEnd_iff _
  refine ⟨fun hk hp => ?_, fun hk hp he => ?_, fun hk hp he => ?_, fun hk hl => ?_, fun hk hl => ?_⟩
  · rw [hv, if_neg (Nat.not_lt.2 hk), if_pos (hpast.2 hp)]
  · rw [hv, if_neg (Nat.not_lt.2 hk), if_neg (mt hpast.1 hp), if_pos he]
  · rw [hv, if_neg (Nat.not_lt.2 hk), if_neg (mt hpast.1 hp), if_neg he]
  · rw [hv, if_pos hk, if_pos hl]
  · rw [hv, if_pos hk, if_neg hl]

/-! ## STREAM, UNSTREAM (R151, R152) -/

/-- A stream before its first kr is chosen. -/
def Stream.fresh (ref : EntryRef) (d lead : Nat) : Stream :=
  { entry := ref, step := d, lead := lead, kr := none, s0 := none, last := none, skipped := 0, state := .active, holdStart := none }

theorem openStream_eq (ref : EntryRef) (e : Entry) (d lead : Nat) (delta : Option Nat) (t : Nat) :
    openStream ref e d lead delta t = (Stream.fresh ref d lead).choose e delta t none false := rfl

section

variable {s : State} {x : Addr} {i : Idx} {t : Tag} {h : Handle} {d lead : Nat}

theorem State.closeStream_at (s : State) (x : Addr) : (s.closeStream x).stations[x.val] = { s.stations[x] with stream := none } := by
  simp [State.closeStream]

theorem State.closeStream_ne (s : State) {x y : Addr} (hy : y ≠ x) : (s.closeStream x).stations[y] = s.stations[y] :=
  State.setStation_ne s x y _ hy

/-- The stream that STREAM opens for station `x` on entry `i`. -/
def State.opened (s : State) (x : Addr) (i : Idx) (d lead : Nat) : Stream :=
  openStream ⟨i, s.entries[i].gen⟩ s.entries[i] d lead s.stations[x].delta s.now

theorem State.opened_of_delta {delta : Option Nat} (h : s.stations[x].delta = delta) :
    s.opened x i d lead = (Stream.fresh ⟨i, s.entries[i].gen⟩ d lead).choose s.entries[i] delta s.now none false := by
  subst h
  rfl

/-- R151: what STREAM leaves, its step and lead within their ranges. -/
def State.withStream (s : State) (x : Addr) (i : Idx) (d lead : Nat) : State :=
  (s.closeStream x).setStation x { s.stations[x] with stream := some (s.opened x i d lead) }

theorem streamEntry_eq (x : Addr) (i : Idx) (d lead : Nat) (s : State) :
    streamEntry x i d lead s =
      let d' := max (clampNat 1 65535 d) (leastStep s.entries[i].pf)
      let lead' := clampNat 10000 10000000 lead
      (s.withStream x i d' lead',
       some (okOr (decide (d' ≠ d ∨ lead' ≠ lead)), if d' ≠ d ∨ lead' ≠ lead then .storedStream d' lead' else .empty)) := by
  simp only [streamEntry, Fin.getElem_fin, State.closeStream_at, State.withStream, State.opened]

theorem State.withStream_sameBut (s : State) (x : Addr) (i : Idx) (d lead : Nat) :
    s.sameBut [.stations, .chain] (s.withStream x i d lead) :=
  ((s.closeStream_sameBut x).trans (State.setStation_sameBut _ x _)).mono (by decide)

/-- R151: the stream opened, kr and S0 apart. -/
theorem State.opened_fields (s : State) (x : Addr) (i : Idx) (d lead : Nat) :
    let st := s.opened x i d lead
    st.entry = ⟨i, s.entries[i].gen⟩ ∧ st.step = d ∧ st.lead = lead ∧ st.last = none ∧ st.skipped = 0 ∧ st.state = .active
      ∧ st.holdStart = none := by
  obtain ⟨k, a, n, hk⟩ := (Stream.fresh ⟨i, s.entries[i].gen⟩ d lead).choose_keeps s.entries[i] s.stations[x].delta s.now none false
  have hskip : ((Stream.fresh ⟨i, s.entries[i].gen⟩ d lead).choose s.entries[i] s.stations[x].delta s.now none false).skipped = 0 := by
    cases s.stations[x].delta with
    | none => rfl
    | some c =>
      rw [Stream.choose_some]
      split <;> rfl
  have ho : s.opened x i d lead = { Stream.fresh ⟨i, s.entries[i].gen⟩ d lead with kr := k, s0 := a, skipped := n } :=
    (openStream_eq _ _ _ _ _ _).trans hk
  have hn : n = 0 := by rw [hk] at hskip; exact hskip
  rw [ho, hn]
  exact ⟨rfl, rfl, rfl, rfl, rfl, rfl, rfl⟩

end

/-- Settles O31: the stream is opened in place of the one before, and chosen as R153 says. -/
theorem streamOpensAndCloses : Obligations.StreamOpensAndCloses := by
  intro s x t
  refine ⟨?_, fun hs => ?_⟩
  · intro h d lead i hi hg hv hs d' lead'
    have hc : checkHandle s h = .ok i := (checkHandle_ok_iff h i).2 ⟨hi, hg, hv⟩
    have hd' : 1 ≤ d' := le_trans (by simpa using (clampNat_mem (by norm_num) d).1) (le_max_left _ _)
    obtain ⟨h1, h2, h3, h4, h5, h6, h7⟩ := s.opened_fields x i d' lead'
    refine ⟨s.withStream x i d' lead', s.opened x i d' lead', ?_, by simp [State.withStream], hg ▸ h1, h2, h3, h4, h5, h6, h7,
      fun hn => ?_, ?_, fun y hy => ?_, s.withStream_sameBut x i d' lead'⟩
    · have hr : reqMeaning (.station x) t (.stream h d lead) s = (s.withStream x i d' lead', some (okOr (decide (d' ≠ d ∨ lead' ≠ lead)),
          if d' ≠ d ∨ lead' ≠ lead then .storedStream d' lead' else .empty)) := by
        exact (onEntry_ok hc fun i s => streamEntry x i d lead s).trans (streamEntry_eq x i d lead s)
      refine (exec_reply (r := .stream h d lead) hs hr).trans ?_
      by_cases hm : d' = d ∧ lead' = lead
      · have hm' : ¬(d' ≠ d ∨ lead' ≠ lead) := by simpa [not_or] using hm
        rw [if_pos hm, if_neg hm', decide_eq_false hm']
        rfl
      · have hm' : d' ≠ d ∨ lead' ≠ lead := not_and_or.1 hm
        rw [if_neg hm, if_pos hm', decide_eq_true hm']
        rfl
    · have ho : s.opened x i d' lead' = (Stream.fresh ⟨i, s.entries[i].gen⟩ d' lead').choose s.entries[i] none s.now none false :=
        State.opened_of_delta hn
      rw [ho]
      exact ⟨rfl, rfl⟩
    · intro delay hdel e fits hn hden hpf hslew hperiod
      have ho : s.opened x i d' lead' = (Stream.fresh ⟨i, s.entries[i].gen⟩ d' lead').choose e (some delay) s.now none false :=
        State.opened_of_delta hdel
      obtain ⟨k, hfits, hleast, hval⟩ := Stream.choose_least (st := Stream.fresh ⟨i, s.entries[i].gen⟩ d' lead')
        ⟨hn, hden, hpf, hslew, hperiod⟩ hd' delay s.now none false
      rw [ho]
      refine ⟨k, ⟨hfits.1, hfits.2.1, hfits.2.2.2⟩, fun j hj => hleast j ⟨hj.1, hj.2.1, nofun, hj.2.2⟩, ?_⟩
      split
      · next he => rw [if_pos he] at hval; rw [hval]; exact ⟨rfl, rfl⟩
      · next he => rw [if_neg he] at hval; rw [hval]; exact ⟨rfl, rfl⟩
    · exact (State.setStation_ne _ x y _ hy).trans (s.closeStream_ne hy)
  · exact ⟨s.closeStream x, exec_reply (r := .unstream) hs rfl, s.closeStream_at x, fun y hy => s.closeStream_ne hy,
      s.closeStream_sameBut x⟩

end Sys2Proof.Machine

/-! PROOFS. Request bodies read back as the request they spell (R165, R178): O10. -/

namespace Sys2Proof.Machine

open Sys2Proof Config

/-! ## Numbers (R178) -/

theorem leOctets_length (w x : Nat) : (leOctets w x).length = w := by
  induction w generalizing x with
  | zero => rfl
  | succ w ih => simp [leOctets, ih]

theorem leValue_leOctets (w x : Nat) : leValue (leOctets w x) = x % 256 ^ w := by
  induction w generalizing x with
  | zero => simp [leOctets, leValue, Nat.mod_one]
  | succ w ih =>
    have hsplit : x % 256 ^ (w + 1) = x % 256 + 256 * (x / 256 % 256 ^ w) := by rw [pow_succ', Nat.mod_mul]
    rw [leOctets, leValue, ih, hsplit, BitVec.toNat_ofNat]

theorem lowValue_lt (bs : List Bool) : lowValue bs < 2 ^ bs.length := by
  induction bs with
  | nil => simp [lowValue]
  | cons b bs ih =>
    rw [lowValue, List.length_cons, pow_succ]
    split <;> omega

theorem lowValue_testBit (bs : List Bool) (i : Nat) : (lowValue bs).testBit i = bs.getD i false := by
  induction bs generalizing i with
  | nil => simp [lowValue]
  | cons b bs ih =>
    cases i with
    | zero => cases b <;> simp [lowValue, Nat.testBit_zero]
    | succ i =>
      have hdiv : ((if b = true then 1 else 0) + 2 * lowValue bs) / 2 = lowValue bs := by split <;> omega
      rw [lowValue, Nat.testBit_succ, hdiv, ih, List.getD_cons_succ]

theorem signedOf_mod {w : Nat} {x : Int} (hw : 0 < w) (h : fitsSigned w x = true) :
    signedOf w (x % (2 ^ (8 * w) : Nat)).toNat = x := by
  simp only [fitsSigned, Bool.and_eq_true, decide_eq_true_eq] at h
  obtain ⟨hlo, hhi⟩ := h
  have hpow : (2 : Nat) ^ (8 * w) = 2 * 2 ^ (8 * w - 1) := by rw [← pow_succ']; congr 1; omega
  unfold signedOf
  rw [hpow]
  generalize (2 : Nat) ^ (8 * w - 1) = p at *
  rcases lt_or_ge x 0 with hx | hx
  · have hm : x % ((2 * p : Nat) : Int) = x + (2 * p : Nat) := by
      rw [← Int.add_emod_right]
      exact Int.emod_eq_of_lt (by omega) (by omega)
    rw [hm, if_neg (by omega)]
    omega
  · rw [Int.emod_eq_of_lt hx (by omega), if_pos (by omega)]
    omega

/-! ## Readers -/

/-- Reader `rd` takes `x` off the octets `o`, whatever follows them. -/
def Reads {α : Type} (rd : List Byte → Option (α × List Byte)) (o : List Byte) (x : α) : Prop :=
  ∀ rest, rd (o ++ rest) = some (x, rest)

section

variable {w x : Nat} {v : Int}

theorem reads_nat (h : fits w x = true) : Reads (rdNat w) (leOctets w x) x := by
  intro rest
  have hx : x < 256 ^ w := by simpa [fits] using h
  have hlen : ¬(leOctets w x ++ rest).length < w := by simp [leOctets_length]
  rw [rdNat, if_neg hlen, List.take_append_of_le_length (leOctets_length w x).ge, List.drop_append_of_le_length (leOctets_length w x).ge,
    List.take_of_length_le (leOctets_length w x).le, List.drop_of_length_le (leOctets_length w x).le, leValue_leOctets,
    Nat.mod_eq_of_lt hx, List.nil_append]

theorem reads_int (hw : 0 < w) (h : fitsSigned w v = true) : Reads (rdInt w) (leSigned w v) v := by
  intro rest
  have hmod : fits w (v % (2 ^ (8 * w) : Nat)).toNat = true := by
    have hpos : (0 : Int) < (2 ^ (8 * w) : Nat) := by positivity
    have hlt := Int.emod_lt_of_pos v hpos
    have hnn := Int.emod_nonneg v hpos.ne'
    have hpow : (256 : Nat) ^ w = 2 ^ (8 * w) := by rw [pow_mul]; norm_num
    simp only [fits, decide_eq_true_eq, hpow]
    omega
  simp only [rdInt, leSigned, reads_nat hmod rest, Option.map_some, signedOf_mod hw h]

theorem reads_flag (b : Bool) : Reads rdFlag [flagOctet b] b := by
  intro rest
  cases b <;> simp [rdFlag, flagOctet]

theorem reads_byte (b : Byte) : Reads rdByte [b] b := fun _ => rfl

theorem reads_handle {h : Handle} (hw : h.wellFormed = true) : Reads rdHandle (handleOctets h) h := by
  intro rest
  have hi : h.index < 256 := by simpa [Handle.wellFormed, fits] using hw
  simp [rdHandle, handleOctets, Nat.mod_eq_of_lt hi]

theorem reads_name {n : List Byte} (h : fitsName n = true) : Reads rdName (charOctets n) n := by
  intro rest
  have hn : n.length < 256 := by simpa [fitsName, fits] using h
  simp [rdName, charOctets, Nat.mod_eq_of_lt hn]

theorem reads_rate {r : Nat × Nat} (h : fitsRate r = true) : Reads rdRate (rateOctets r) r := by
  intro rest
  obtain ⟨h1, h2⟩ := (Bool.and_eq_true _ _).mp h
  simp only [rdRate, rateOctets, List.append_assoc, reads_nat h1 _, reads_nat h2 _, Option.bind_eq_bind, Option.bind_some]

/-- A masked field is read when its mask bit is set, and passed by when it is clear. -/
theorem reads_opt {α : Type} {rd : List Byte → Option (α × List Byte)} {f : α → List Byte} (q : Option α)
    (h : ∀ x, q = some x → Reads rd (f x) x) : Reads (rdOpt q.isSome rd) (maskedOctets f q) q := by
  intro rest
  cases q with
  | none => rfl
  | some x => simp only [rdOpt, maskedOctets, Option.isSome_some, if_true, h x rfl rest, Option.map_some]

theorem reads_optNat {q : Option Nat} (h : fitsOpt w q = true) : Reads (rdOpt q.isSome (rdNat w)) (maskedOctets (leOctets w) q) q :=
  reads_opt q fun x hx => reads_nat (by simpa [fitsOpt, hx] using h)

theorem reads_optInt {q : Option Int} (hw : 0 < w) (h : q.all (fitsSigned w) = true) :
    Reads (rdOpt q.isSome (rdInt w)) (maskedOctets (leSigned w) q) q :=
  reads_opt q fun x hx => reads_int hw (by simpa [hx] using h)

theorem reads_optName {q : Option (List Byte)} (h : q.all fitsName = true) :
    Reads (rdOpt q.isSome rdName) (maskedOctets charOctets q) q :=
  reads_opt q fun x hx => reads_name (by simpa [hx] using h)

theorem reads_optRate {q : Option (Nat × Nat)} (h : q.all fitsRate = true) :
    Reads (rdOpt q.isSome rdRate) (maskedOctets rateOctets q) q :=
  reads_opt q fun x hx => reads_rate (by simpa [hx] using h)

theorem reads_optFlag (q : Option Bool) : Reads (rdOpt q.isSome rdFlag) (maskedOctets (fun b => [flagOctet b]) q) q :=
  reads_opt q fun x _ => reads_flag x

theorem rdNat_mask {bs : List Bool} (h : bs.length ≤ 8 * w) (rest : List Byte) :
    rdNat w (maskOctets w bs ++ rest) = some (lowValue bs, rest) := by
  refine reads_nat ?_ rest
  have hpow : (256 : Nat) ^ w = 2 ^ (8 * w) := by rw [pow_mul]; norm_num
  simp only [fits, decide_eq_true_eq, hpow]
  exact (lowValue_lt bs).trans_le (Nat.pow_le_pow_right (by norm_num) h)

end

/-! ## Requests (R165) -/

theorem rdCreate_octets {q : CreateReq} (h : q.wellFormed = true) : rdCreate (createOctets q) = some (.create q) := by
  simp only [CreateReq.wellFormed, Bool.and_eq_true] at h
  obtain ⟨⟨⟨⟨⟨hrate, hname⟩, hphi⟩, hpol⟩, hslew⟩, hlab⟩ := h
  rw [← List.append_nil (createOctets q)]
  simp (disch := simp) only [rdCreate, createOctets, List.append_assoc, reads_rate hrate _, rdNat_mask, lowValue_testBit,
    Option.bind_eq_bind, Option.bind_some, List.getD_cons_zero, List.getD_cons_succ, reads_optName hname _,
    reads_optInt (by norm_num) hphi _, reads_optNat hpol _, reads_optNat hslew _, reads_optNat hlab _]
  rfl

theorem rdSet_octets {q : SetReq} (h : q.wellFormed = true) : rdSet (setOctets q) = some (.set q) := by
  simp only [SetReq.wellFormed, Bool.and_eq_true] at h
  obtain ⟨⟨⟨⟨⟨⟨hh, hrate⟩, hphi⟩, hpol⟩, hslew⟩, hlab⟩, hname⟩ := h
  rw [← List.append_nil (setOctets q)]
  simp (disch := simp) only [rdSet, setOctets, List.append_assoc, reads_handle hh _, reads_optRate hrate _, rdNat_mask,
    lowValue_testBit, Option.bind_eq_bind, Option.bind_some, List.getD_cons_zero, List.getD_cons_succ, reads_optName hname _,
    reads_optInt (by norm_num) hphi _, reads_optNat hpol _, reads_optNat hslew _, reads_optNat hlab _]
  rfl

theorem rdRetire_octets {h : Handle} (hh : h.wellFormed = true) : rdRetire (handleOctets h ++ [0]) = some (.retire h) := by
  have hf := reads_flag false []
  simp only [flagOctet, List.append_nil, Bool.false_eq_true, if_false] at hf
  simp only [rdRetire, reads_handle hh _, hf, Option.bind_eq_bind, Option.bind_some, Bool.false_eq_true, if_false]
  rfl

theorem rdRetire_end_octets {h : Handle} {e : Instant} (hh : h.wellFormed = true) (hs : fits 6 e.sec = true) (hn : fits 4 e.ns = true) :
    rdRetire (handleOctets h ++ 1 :: leOctets 6 e.sec ++ leOctets 4 e.ns) = some (.retireWithEnd h e) := by
  have hf (rest : List Byte) : rdFlag (1 :: rest) = some (true, rest) := reads_flag true rest
  rw [← List.append_nil (leOctets 4 e.ns)]
  simp only [rdRetire, List.append_assoc, List.cons_append, reads_handle hh _, hf, reads_nat hs _, reads_nat hn _, Option.bind_eq_bind,
    Option.bind_some, if_true]
  rfl

theorem rdStream_octets {h : Handle} {d lead : Nat} (hh : h.wellFormed = true) (hd : fits 2 d = true) (hl : fits 4 lead = true) :
    rdStream (handleOctets h ++ leOctets 2 d ++ leOctets 4 lead) = some (.stream h d lead) := by
  rw [← List.append_nil (leOctets 4 lead)]
  simp only [rdStream, List.append_assoc, reads_handle hh _, reads_nat hd _, reads_nat hl _, Option.bind_eq_bind, Option.bind_some]
  rfl

theorem rdSample_octets {q : SampleReq} (h : q.wellFormed = true) :
    rdSample (q.seq :: leOctets 6 q.sec ++ leOctets 4 q.ns ++ leOctets 1 q.grade) = some (.sample q) := by
  simp only [SampleReq.wellFormed, Bool.and_eq_true] at h
  obtain ⟨⟨hs, hn⟩, hg⟩ := h
  have hb (rest : List Byte) : rdByte (q.seq :: rest) = some (q.seq, rest) := rfl
  rw [← List.append_nil (leOctets 1 q.grade)]
  simp only [rdSample, List.append_assoc, List.cons_append, hb, reads_nat hs _, reads_nat hn _, reads_nat hg _, Option.bind_eq_bind,
    Option.bind_some]
  rfl

theorem reads_masked {w m i : Nat} {q : Option Nat} (hb : m.testBit i = q.isSome) (h : fitsOpt w q = true) (rest : List Byte) :
    rdOpt (m.testBit i) (rdNat w) (maskedOctets (leOctets w) q ++ rest) = some (q, rest) := by
  rw [hb]
  exact reads_optNat h rest

theorem bind_read {α β : Type} {o : Option α} {a : α} {k : α → Option β} {b : β} (h : o = some a) (hk : k a = some b) :
    (o >>= k) = some b := by
  rw [h]
  exact hk

theorem rdServo_octets {q : ServoReq} (h : q.wellFormed = true) : rdServo (servoOctets q) = some (.servo q) := by
  simp only [ServoReq.wellFormed, Bool.and_eq_true] at h
  obtain ⟨⟨⟨⟨⟨⟨⟨⟨⟨⟨⟨h1, h2⟩, h3⟩, h4⟩, h5⟩, h6⟩, h7⟩, h8⟩, h9⟩, h10⟩, h11⟩, h12⟩ := h
  obtain ⟨m, hm, hbit⟩ : ∃ m, (∀ rest, rdNat 2 (maskOctets 2 [q.sth.isSome, q.lockWin.isSome, q.lockCount.isSome,
      q.unlockWin.isSome, q.persist.isSome, q.kp.isSome, q.ki.isSome, q.limit.isSome, q.timeout.isSome, q.ageLimit.isSome,
      q.minGrade.isSome, q.slewRange.isSome] ++ rest) = some (m, rest))
      ∧ ∀ i, m.testBit i = [q.sth.isSome, q.lockWin.isSome, q.lockCount.isSome, q.unlockWin.isSome, q.persist.isSome, q.kp.isSome,
        q.ki.isSome, q.limit.isSome, q.timeout.isSome, q.ageLimit.isSome, q.minGrade.isSome, q.slewRange.isSome].getD i false :=
    ⟨_, rdNat_mask (by simp), lowValue_testBit _⟩
  rw [← List.append_nil (servoOctets q)]
  simp only [servoOctets, List.append_assoc]
  unfold rdServo
  exact bind_read (hm _) <| bind_read (reads_masked (hbit 0) h1 _) <| bind_read (reads_masked (hbit 1) h2 _) <|
    bind_read (reads_masked (hbit 2) h3 _) <| bind_read (reads_masked (hbit 3) h4 _) <| bind_read (reads_masked (hbit 4) h5 _) <|
    bind_read (reads_masked (hbit 5) h6 _) <| bind_read (reads_masked (hbit 6) h7 _) <| bind_read (reads_masked (hbit 7) h8 _) <|
    bind_read (reads_masked (hbit 8) h9 _) <| bind_read (reads_masked (hbit 9) h10 _) <|
    bind_read (reads_masked (hbit 10) h11 _) <| bind_read (reads_masked (hbit 11) h12 _) rfl

theorem rdNat_octet (b : Byte) (rest : List Byte) : rdNat 1 (b :: rest) = some (b.toNat, rest) := by
  simp [rdNat, leValue]

theorem otherCode_fits {n c : Nat} (h : otherCode n c = true) : fits 1 c = true ∧ ∃ k, c = k + n := by
  simp only [otherCode, Bool.and_eq_true, decide_eq_true_eq] at h
  exact ⟨h.2, Nat.exists_eq_add_of_le' h.1⟩

theorem rdCivil_octets {q : CivilReq} (h : q.wellFormed = true) : rdCivil (requestFields (.civil q)) = some (.civil q) := by
  obtain ⟨off, jam, act⟩ := q
  simp only [CivilReq.wellFormed, Bool.and_eq_true] at h
  obtain ⟨⟨hoff, hjam⟩, hact⟩ := h
  rw [← List.append_nil (requestFields _)]
  simp (disch := simp) only [rdCivil, requestFields, List.append_assoc, rdNat_mask, lowValue_testBit, Option.bind_eq_bind,
    Option.bind_some, List.getD_cons_zero, List.getD_cons_succ, reads_optInt (by norm_num) hoff _, reads_optNat hjam _]
  cases act with
  | keep => rfl
  | cancel => rfl
  | set o' eo =>
    obtain ⟨ho, he⟩ := (Bool.and_eq_true _ _).mp hact
    simp only [pendingOctets, List.cons_append, List.append_assoc, rdNat_octet, Option.bind_some]
    simp only [BitVec.toNat_ofNat, reads_int (by norm_num : 0 < 4) ho _, reads_nat he _, Option.bind_some, BitVec.ofNat_eq_ofNat,
      Nat.one_mod]
    rfl
  | other c =>
    obtain ⟨hc, k, rfl⟩ := otherCode_fits hact
    simp only [pendingOctets, reads_nat hc _, Option.bind_some]

theorem rdBindTail_octets {o : Nat} {a : BindAction} {q : BindReq} (hdv : fitsOpt 2 q.divider = true)
    (hdl : fitsOpt 6 q.delay = true) (hw : fitsOpt 6 q.width = true) (hp : fitsOpt 1 q.polarity = true) :
    rdBindTail o a (maskOctets 1 [q.enabled.isSome, q.divider.isSome, q.delay.isSome, q.width.isSome, q.polarity.isSome]
        ++ (maskedOctets (fun b => [flagOctet b]) q.enabled ++ (maskedOctets (leOctets 2) q.divider
        ++ (maskedOctets (leOctets 6) q.delay ++ (maskedOctets (leOctets 6) q.width ++ (maskedOctets (leOctets 1) q.polarity
        ++ ([flagOctet q.clear] ++ [])))))))
      = some (.bind { q with output := o, action := a }) := by
  simp (disch := simp) only [rdBindTail, rdNat_mask, lowValue_testBit, Option.bind_eq_bind, Option.bind_some, List.getD_cons_zero,
    List.getD_cons_succ, reads_optFlag _ _, reads_optNat hdv _, reads_optNat hdl _, reads_optNat hw _, reads_optNat hp _,
    reads_flag _ _]
  rfl

theorem rdBind_octets {q : BindReq} (h : q.wellFormed = true) : rdBind (bindOctets q) = some (.bind q) := by
  simp only [BindReq.wellFormed, Bool.and_eq_true] at h
  obtain ⟨⟨⟨⟨⟨ho, hdv⟩, hdl⟩, hw⟩, hp⟩, hact⟩ := h
  have htail (a : BindAction) := rdBindTail_octets (o := q.output) (a := a) hdv hdl hw hp
  rw [← List.append_nil (bindOctets q)]
  simp only [rdBind, bindOctets, List.append_assoc, reads_nat ho _, Option.bind_eq_bind, Option.bind_some]
  cases ha : q.action with
  | keep =>
    refine (htail .keep).trans ?_
    rw [← ha]
  | unbind =>
    refine (htail .unbind).trans ?_
    rw [← ha]
  | bind hd =>
    rw [ha] at hact
    simp only [bindingOctets, List.cons_append, rdNat_octet, Option.bind_some]
    simp only [BitVec.toNat_ofNat, BitVec.ofNat_eq_ofNat, Nat.one_mod, reads_handle hact _, Option.bind_some]
    refine (htail (.bind hd)).trans ?_
    rw [← ha]
  | other c =>
    rw [ha] at hact
    simp only [Bool.and_eq_true, decide_eq_true_eq] at hact
    obtain ⟨hc, hq⟩ := hact
    obtain ⟨hfit, k, rfl⟩ := otherCode_fits hc
    simp only [bindingOctets, reads_nat hfit _, Option.bind_some]
    rw [hq]

/-- The request that CHAIN spells by its action octet. -/
def chainRequest (act : Nat) (q : ChainReq) : Req :=
  match act with
  | 0 => .chain .keep q
  | 1 => .chainHold q
  | 2 => .chainRelease q
  | c => .chain (.other c) q

/-- The settings of CHAIN are read the same behind every action. -/
theorem rdChain_octets {q : ChainReq} (h : q.wellFormed = true) {o : List Byte} {act : Nat} (ha : Reads (rdNat 1) o act) :
    rdChain (o ++ chainOctets q) = some (chainRequest act q) := by
  obtain ⟨ht, ho⟩ := (Bool.and_eq_true _ _).mp h
  rw [← List.append_nil (chainOctets q)]
  simp (disch := simp) only [rdChain, chainOctets, List.append_assoc, ha _, rdNat_mask, lowValue_testBit, Option.bind_eq_bind,
    Option.bind_some, List.getD_cons_zero, List.getD_cons_succ, reads_optNat ht _, reads_optNat ho _, reads_optFlag _ _]
  rcases act with _ | _ | _ | k <;> rfl

theorem reads_octet (b : Byte) : Reads (rdNat 1) [b] b.toNat := rdNat_octet b

theorem rdStatus_octets {clear : Bool} {act : AttnAction} (h : act.wellFormed = true) :
    rdStatus (flagOctet clear :: attnOctets act) = some (.status clear act) := by
  have hf (rest : List Byte) : rdFlag (flagOctet clear :: rest) = some (clear, rest) := reads_flag clear rest
  rw [← List.append_nil (attnOctets act)]
  simp only [rdStatus, hf, Option.bind_eq_bind, Option.bind_some]
  cases act with
  | keep => rfl
  | set mask mode =>
    have hb (rest : List Byte) : rdByte (mask :: rest) = some (mask, rest) := rfl
    simp only [attnOctets, List.cons_append, rdNat_octet, Option.bind_some]
    simp only [BitVec.toNat_ofNat, BitVec.ofNat_eq_ofNat, Nat.one_mod, hb, reads_nat h _, Option.bind_some]
    rfl
  | other c =>
    obtain ⟨hc, k, rfl⟩ := otherCode_fits h
    simp only [attnOctets, reads_nat hc _, Option.bind_some]

/-- R165, R178: the fields of every request are read back as the request. -/
theorem rdFields_requestFields (r : Req) (h : r.wellFormed = true) : rdFields (requestCode r) (requestFields r) = some r := by
  have hone (f : Handle → Req) (a : Handle) (ha : a.wellFormed = true) : rdOneHandle f (handleOctets a) = some (f a) := by
    rw [← List.append_nil (handleOctets a)]
    simp only [rdOneHandle, reads_handle ha _, Option.bind_eq_bind, Option.bind_some]
    rfl
  have hnum {n : Nat} (f : Nat → Req) (hn : fits 1 n = true) : ((rdNat 1 (leOctets 1 n)).bind fun p => rdEnd (f p.1) p.2) = some (f n) := by
    rw [← List.append_nil (leOctets 1 n), reads_nat hn _]
    rfl
  cases r with
  | find n =>
    show ((rdName (charOctets n)).bind fun p => rdEnd (Req.find p.1) p.2) = _
    rw [← List.append_nil (charOctets n), reads_name h _]
    rfl
  | read a => exact hone .read a h
  | list n => exact hnum .list h
  | next a n =>
    obtain ⟨ha, hn⟩ := (Bool.and_eq_true _ _).mp h
    show ((rdHandle (handleOctets a ++ leOctets 4 n)).bind fun p => (rdNat 4 p.2).bind fun p' => rdEnd (Req.next p.1 p'.1) p'.2) = _
    rw [reads_handle ha _, Option.bind_some, ← List.append_nil (leOctets 4 n), reads_nat hn _]
    rfl
  | stations n => exact hnum .stations h
  | notices => rfl
  | create q => exact rdCreate_octets h
  | set q => exact rdSet_octets h
  | realign a => exact hone .realign a h
  | retire a => exact rdRetire_octets h
  | retireWithEnd a e =>
    simp only [Req.wellFormed, Bool.and_eq_true] at h
    obtain ⟨⟨ha, hs⟩, hn⟩ := h
    exact rdRetire_end_octets ha hs hn
  | watch a => exact hone .watch a h
  | unwatch a => exact hone .unwatch a h
  | stream a d lead =>
    simp only [Req.wellFormed, Bool.and_eq_true] at h
    obtain ⟨⟨ha, hd⟩, hl⟩ := h
    exact rdStream_octets ha hd hl
  | unstream => rfl
  | sample q => exact rdSample_octets h
  | servo q => exact rdServo_octets h
  | civil q => exact rdCivil_octets h
  | bind q => exact rdBind_octets h
  | chain act q =>
    obtain ⟨ha, hq⟩ := (Bool.and_eq_true _ _).mp h
    cases act with
    | keep => exact rdChain_octets hq (reads_octet 0)
    | other c =>
      obtain ⟨hc, k, rfl⟩ := otherCode_fits ha
      exact rdChain_octets hq (reads_nat hc)
  | chainHold q => exact rdChain_octets h (reads_octet 1)
  | chainRelease q => exact rdChain_octets h (reads_octet 2)
  | save n => exact hnum .save h
  | load n => exact hnum .load h
  | reset => rfl
  | status c a => exact rdStatus_octets h

theorem knownCode_requestCode (r : Req) : knownCode (requestCode r) = true := by cases r <;> rfl

/-- Settles O10: the code is known, and its fields are read back. -/
theorem requestBodiesReadBack : Obligations.RequestBodiesReadBack := by
  intro t r h
  simp only [requestOctets, parseBody, knownCode_requestCode, rdFields_requestFields r h, if_true]

end Sys2Proof.Machine

/-! PROOFS. Return frames read back bit by bit at the receiver (R123 to R127, R179): O11. -/

namespace Sys2Proof.Machine

open Sys2Proof Config

/-! ## Octets and their bits (R125) -/

theorem bitsLow_length (b : Byte) : (bitsLow b).length = 8 := by simp [bitsLow]

/-- An octet is read back from its bits. -/
theorem ofNat_lowValue_bitsLow (b : Byte) : BitVec.ofNat 8 (lowValue (bitsLow b)) = b := by
  refine BitVec.eq_of_getLsbD_eq fun i hi => ?_
  rw [BitVec.getLsbD_ofNat, lowValue_testBit]
  simp [bitsLow, hi]

/-- Octets are read back from their bits. -/
theorem octetsOf_bitsLow (bs : List Byte) : octetsOf bs.length (bs.map bitsLow).flatten = bs := by
  induction bs with
  | nil => rfl
  | cons b bs ih =>
    have hlen := bitsLow_length b
    rw [List.length_cons, octetsOf, List.map_cons, List.flatten_cons, List.take_left' hlen, List.drop_left' hlen, ih,
      ofNat_lowValue_bitsLow]

theorem flatten_bitsLow_length (bs : List Byte) : (bs.map bitsLow).flatten.length = 8 * bs.length := by
  induction bs with
  | nil => rfl
  | cons b bs ih => simp [bitsLow_length] at ih ⊢; omega

theorem checkBits_length (c : BitVec 16) : (checkBits c).length = 16 := by simp [checkBits]

theorem contentBits_length (a k : Byte) (body : List Byte) : (contentBits a k body).length = 8 * (body.length + 4) := by
  simp only [contentBits, List.length_append, flatten_bitsLow_length, checkBits_length, List.length_cons]
  omega

/-! ## What stands between two delimiters (R126, R127) -/

/-- The content of a whole frame is judged by its octets. -/
theorem judgeBits_contentBits (a k : Byte) (body : List Byte) : judgeBits (contentBits a k body) = judgeOctets (a :: k :: body) := by
  obtain ⟨data, hdata⟩ : ∃ data, data = ((a :: k :: body).map bitsLow).flatten := ⟨_, rfl⟩
  have hlen := contentBits_length a k body
  have hdlen : data.length = 8 * (body.length + 2) := by rw [hdata, flatten_bitsLow_length]; rfl
  have hbits : contentBits a k body = data ++ checkBits (checkOf data) := by rw [contentBits, hdata]
  have hn : 8 * (body.length + 4) - 16 = data.length := by omega
  have hcount : 8 * (body.length + 4) / 8 - 2 = (a :: k :: body).length := by simp
  have h0 : ¬8 * (body.length + 4) = 0 := by omega
  have h32 : ¬8 * (body.length + 4) < 32 := by omega
  have h8 : ¬8 * (body.length + 4) % 8 ≠ 0 := by omega
  simp only [judgeBits, hlen, h0, h32, h8, if_false, hn, hcount]
  rw [hbits, List.take_left, List.drop_left, if_pos rfl, hdata, octetsOf_bitsLow]

/-- R179: the return frames. -/
theorem judgeOctets_return (x : Addr) {k : Byte} {kind : ReturnKind} {body : List Byte}
    (h : (k = 0x61#8 ∧ kind = .request ∧ 2 ≤ body.length ∧ body.length ≤ 48)
      ∨ (k = 0x62#8 ∧ kind = .empty ∧ body = []) ∨ (k = 0x63#8 ∧ kind = .echo ∧ body = [])) :
    judgeOctets (addrByte x :: k :: body) = .valid x kind body := by
  have hx : (addrByte x).toNat = x.val + 1 := by simp [addrByte]; omega
  have hin : 1 ≤ (addrByte x).toNat ∧ (addrByte x).toNat ≤ 30 := by omega
  have haddr : (⟨(addrByte x).toNat - 1, by omega⟩ : Addr) = x := Fin.ext (by simp [hx])
  rw [judgeOctets, dif_pos hin]
  simp only [haddr]
  obtain ⟨rfl, rfl, hlen⟩ | ⟨rfl, rfl, rfl⟩ | ⟨rfl, rfl, rfl⟩ := h
  · simp [hlen]
  · simp
  · simp

/-! ## Bits at the receiver (R124) -/

/-- No bit of `line` brings anything about at receiver `r`. -/
def Receiver.quiet : Receiver → List Bool → Prop
  | _, [] => True
  | r, b :: bs => (r.bit b).2 = .none ∧ Receiver.quiet (r.bit b).1 bs

/-- The receiver after a line. -/
def Receiver.after (r : Receiver) (line : List Bool) : Receiver := line.foldl (fun v c => (Receiver.bit v c).1) r

section

variable {r : Receiver}

theorem Receiver.quiet_append {p q : List Bool} (hp : r.quiet p) (hq : (r.after p).quiet q) : r.quiet (p ++ q) := by
  induction p generalizing r with
  | nil => exact hq
  | cons b p ih => exact ⟨hp.1, ih hp.2 hq⟩

theorem Receiver.after_append (r : Receiver) (p q : List Bool) : r.after (p ++ q) = (r.after p).after q := List.foldl_append

theorem Receiver.quiet_at {p q : List Bool} {b : Bool} (h : r.quiet (p ++ b :: q)) : ((r.after p).bit b).2 = .none := by
  induction p generalizing r with
  | nil => exact h.1
  | cons c p ih => exact ih h.2

theorem Receiver.bound_eq (h : r.overlong = false) : r.bound = (r, .none) := by simp [Receiver.bound, h]

/-- A content bit that is taken. -/
theorem Receiver.bit_one (hm : r.mode = .content) (h : r.ones < 7) (hl : r.bits.length < 423 ∨ r.ones = 6) :
    r.bit true = ({ r with ones := r.ones + 1, bits := true :: r.bits }, .none) := by
  have h9 : ¬(r.mode = .content ∧ r.ones + 1 = 9) := by omega
  have h8 : r.mode = .content ∧ r.ones + 1 < 8 := ⟨hm, by omega⟩
  have hover : Receiver.overlong { r with ones := r.ones + 1, bits := true :: r.bits } = false := by
    simp only [Receiver.overlong, hm, List.length_cons]
    rcases hl with hl | hl
    · simp; omega
    · simp [hl]
  unfold Receiver.bit
  rw [if_pos rfl]
  dsimp only
  rw [if_neg h9, if_pos h8, Receiver.bound_eq hover]

theorem Receiver.bit_zero (hm : r.mode = .content) (h : r.ones < 7) (hl : r.bits.length < 423) :
    r.bit false = ({ r with ones := 0, bits := false :: r.bits }, .none) := by
  have h8 : ¬r.ones = 8 := by omega
  have h7 : ¬r.ones = 7 := by omega
  have hover : Receiver.overlong { r with ones := 0, bits := false :: r.bits } = false := by
    simp only [Receiver.overlong, List.length_cons]
    simp; omega
  unfold Receiver.bit
  rw [if_neg Bool.false_ne_true, if_neg h8, if_pos hm, if_neg h7, Receiver.bound_eq hover]

/-- The bit inserted after seven 1s. -/
theorem Receiver.bit_inserted (hm : r.mode = .content) (h : r.ones = 7) (hl : r.bits.length < 424) :
    r.bit false = ({ r with ones := 0 }, .none) := by
  have hover : Receiver.overlong { r with ones := 0 } = false := by
    simp only [Receiver.overlong]
    simp; omega
  have h8 : ¬r.ones = 8 := by omega
  unfold Receiver.bit
  rw [if_neg Bool.false_ne_true, if_neg h8, if_pos hm, if_pos h, Receiver.bound_eq hover]

/-- R124: content sent with transparency is taken bit by bit, its inserted bits removed. -/
theorem Receiver.after_stuff (cs : List Bool) (hm : r.mode = .content) (h : r.ones < 7) (hl : r.bits.length + cs.length ≤ 416) :
    r.quiet (stuff r.ones cs) ∧ ∃ n, n < 7 ∧ r.after (stuff r.ones cs) = { r with ones := n, bits := cs.reverse ++ r.bits } := by
  induction cs generalizing r with
  | nil => exact ⟨trivial, r.ones, h, rfl⟩
  | cons b bs ih =>
    rw [List.length_cons] at hl
    cases b with
    | false =>
      have hbit := Receiver.bit_zero hm h (by omega)
      obtain ⟨hq, n, hn, ha⟩ := ih (r := { r with ones := 0, bits := false :: r.bits }) hm (by norm_num) (by simp only [List.length_cons]; omega)
      refine ⟨⟨by rw [hbit], by rw [hbit]; exact hq⟩, n, hn, ?_⟩
      rw [List.reverse_cons, List.append_assoc]
      refine Eq.trans ?_ ha
      simp only [stuff, Receiver.after, List.foldl_cons, hbit, Bool.false_eq_true, if_false]
    | true =>
      have hbit := Receiver.bit_one hm h (.inl (by omega))
      by_cases h6 : r.ones = 6
      · have hins : ({ r with ones := r.ones + 1, bits := true :: r.bits } : Receiver).bit false
            = ({ r with ones := 0, bits := true :: r.bits }, .none) :=
          Receiver.bit_inserted hm (by simp [h6]) (by simp only [List.length_cons]; omega)
        obtain ⟨hq, n, hn, ha⟩ := ih (r := { r with ones := 0, bits := true :: r.bits }) hm (by norm_num) (by simp only [List.length_cons]; omega)
        have hs : stuff r.ones (true :: bs) = true :: false :: stuff 0 bs := by simp [stuff, h6]
        rw [hs]
        refine ⟨⟨by rw [hbit], by rw [hbit, hins], by rw [hbit, hins]; exact hq⟩, n, hn, ?_⟩
        rw [List.reverse_cons, List.append_assoc]
        refine Eq.trans ?_ ha
        simp only [Receiver.after, List.foldl_cons, hbit, hins]
      · obtain ⟨hq, n, hn, ha⟩ := ih (r := { r with ones := r.ones + 1, bits := true :: r.bits }) hm
          (show r.ones + 1 < 7 by omega) (by simp only [List.length_cons]; omega)
        have hs : stuff r.ones (true :: bs) = true :: stuff (r.ones + 1) bs := by simp [stuff, h6]
        rw [hs]
        refine ⟨⟨by rw [hbit], by rw [hbit]; exact hq⟩, n, hn, ?_⟩
        rw [List.reverse_cons, List.append_assoc]
        refine Eq.trans ?_ ha
        simp only [Receiver.after, List.foldl_cons, hbit]

/-- Up to seven 1s are taken as content. -/
theorem Receiver.after_ones (n : Nat) (hm : r.mode = .content) (h : r.ones + n ≤ 7) (hl : r.bits.length + n ≤ 424)
    (hl' : r.bits.length + 7 ≤ 424 + r.ones) :
    r.quiet (List.replicate n true)
      ∧ r.after (List.replicate n true) = { r with ones := r.ones + n, bits := List.replicate n true ++ r.bits } := by
  induction n generalizing r with
  | zero => exact ⟨trivial, rfl⟩
  | succ n ih =>
    have hbit := Receiver.bit_one hm (by omega) (by omega)
    obtain ⟨hq, ha⟩ := ih (r := { r with ones := r.ones + 1, bits := true :: r.bits }) hm (show r.ones + 1 + n ≤ 7 by omega)
      (by simp only [List.length_cons]; omega) (by simp only [List.length_cons]; omega)
    refine ⟨⟨by rw [hbit], by rw [hbit]; exact hq⟩, ?_⟩
    have hones : r.ones + 1 + n = r.ones + (n + 1) := by omega
    have hrep : List.replicate n true ++ true :: r.bits = List.replicate (n + 1) true ++ r.bits := by
      rw [List.replicate_succ', List.append_assoc]; rfl
    rw [List.replicate_succ]
    simp only [hones, hrep] at ha
    rw [← List.replicate_succ, ← ha]
    simp only [Receiver.after, List.replicate_succ, List.foldl_cons, hbit]

theorem Receiver.bit_eighth (h : r.ones = 7) : r.bit true = ({ r with ones := 8 }, .none) := by
  simp [Receiver.bit, h]

/-- R123: a delimiter but its last 0, behind content. -/
theorem Receiver.after_delimiter (hm : r.mode = .content) (h : r.ones < 7) (hl : r.bits.length ≤ 416) :
    r.quiet [false, true, true, true, true, true, true, true, true]
      ∧ r.after [false, true, true, true, true, true, true, true, true]
        = { r with ones := 8, bits := List.replicate 7 true ++ false :: r.bits } := by
  have hbit := Receiver.bit_zero hm h (by omega)
  obtain ⟨hq, ha⟩ := Receiver.after_ones (r := { r with ones := 0, bits := false :: r.bits }) 7 hm (by norm_num)
    (by simp only [List.length_cons]; omega) (by simp only [List.length_cons]; omega)
  have h8 := Receiver.bit_eighth (r := { r with ones := 7, bits := List.replicate 7 true ++ false :: r.bits }) rfl
  have hsplit : ([false, true, true, true, true, true, true, true, true] : List Bool) = [false] ++ List.replicate 7 true ++ [true] := rfl
  have hone : r.after [false] = { r with ones := 0, bits := false :: r.bits } := by simp only [Receiver.after, List.foldl_cons, List.foldl_nil, hbit]
  have hseven : r.after ([false] ++ List.replicate 7 true) = { r with ones := 7, bits := List.replicate 7 true ++ false :: r.bits } := by
    rw [Receiver.after_append, hone, ha]
  rw [hsplit]
  refine ⟨Receiver.quiet_append (Receiver.quiet_append ⟨by rw [hbit], trivial⟩ (by rw [hone]; exact hq)) ⟨by rw [hseven, h8], trivial⟩, ?_⟩
  rw [Receiver.after_append, hseven]
  simp only [Receiver.after, List.foldl_cons, List.foldl_nil, h8]

end

/-- Settles O11: the content is taken bit by bit, and the closing delimiter finds it whole. -/
theorem returnFramesReadBack : Obligations.ReturnFramesReadBack := by
  intro x k kind body r hk hm h0 hb line
  have hlen : (contentBits (addrByte x) k body).length ≤ 416 := by
    have : body.length ≤ 48 := by
      obtain ⟨-, -, -, h⟩ | ⟨-, -, rfl⟩ | ⟨-, -, rfl⟩ := hk
      · exact h
      · simp
      · simp
    rw [contentBits_length]
    omega
  obtain ⟨hq, n, hn, ha⟩ := Receiver.after_stuff (contentBits (addrByte x) k body) hm (by omega) (by simp only [hb, List.length_nil]; omega)
  rw [h0] at hq ha
  rw [hb, List.append_nil] at ha
  obtain ⟨hq', ha'⟩ := Receiver.after_delimiter (r := { r with ones := n, bits := (contentBits (addrByte x) k body).reverse }) hm hn
    (by simpa using hlen)
  have hquiet : r.quiet line := Receiver.quiet_append hq (by rw [ha]; exact hq')
  refine ⟨fun p q b hline => Receiver.quiet_at (hline ▸ hquiet), ?_⟩
  have hafter : r.after line = { r with ones := 8, bits := List.replicate 7 true ++ false :: (contentBits (addrByte x) k body).reverse } := by
    rw [Receiver.after_append, ha, ha']
  have hclosed : Receiver.closed { r with ones := 8, bits := List.replicate 7 true ++ false :: (contentBits (addrByte x) k body).reverse }
      = .valid x kind body := by
    rw [← judgeOctets_return x hk, ← judgeBits_contentBits]
    simp [Receiver.closed, hm]
  show ((r.after line).bit false).2 = _
  rw [hafter, ← hclosed]
  simp [Receiver.bit]

end Sys2Proof.Machine

/-! PROOFS. Bank words read back as the content they spell (R173, R181): O12. -/

namespace Sys2Proof.Machine

open Sys2Proof Config

/-! ## Words -/

theorem clampNat_of_mem {lo hi x : Nat} (h1 : lo ≤ x) (h2 : x ≤ hi) : clampNat lo hi x = x := by
  unfold clampNat
  rw [if_neg (by omega), if_neg (by omega)]

theorem clampInt_of_mem {lo hi x : Int} (h1 : lo ≤ x) (h2 : x ≤ hi) : clampInt lo hi x = x := by
  unfold clampInt
  rw [if_neg (by omega), if_neg (by omega)]

theorem toNat_wordOf {x : Nat} (h : x < 4294967296) : (wordOf x).toNat = x := by
  simp only [wordOf, BitVec.toNat_ofNat]
  omega

theorem toInt_ofInt_word {x : Int} (h1 : -2147483648 ≤ x) (h2 : x ≤ 2147483647) : (BitVec.ofInt 32 x).toInt = x := by
  rw [BitVec.toInt_ofInt]
  simp only [Int.bmod]
  omega

theorem leOctets_leValue (bs : List Byte) : leOctets bs.length (leValue bs) = bs := by
  induction bs with
  | nil => rfl
  | cons b bs ih =>
    have hdiv : (b.toNat + 256 * leValue bs) / 256 = leValue bs := by have := b.isLt; omega
    have hlow : BitVec.ofNat 8 (b.toNat + 256 * leValue bs) = b := by
      refine BitVec.eq_of_toNat_eq ?_
      rw [BitVec.toNat_ofNat]
      have := b.isLt
      omega
    rw [List.length_cons, leValue, leOctets, hdiv, ih, hlow]

theorem leValue_lt (bs : List Byte) : leValue bs < 256 ^ bs.length := by
  induction bs with
  | nil => simp [leValue]
  | cons b bs ih =>
    have := b.isLt
    rw [leValue, List.length_cons, pow_succ']
    omega

/-- Four characters are read back from their word. -/
theorem leOctets_word {bs : List Byte} (h : bs.length = 4) : leOctets 4 (wordOf (leValue bs)).toNat = bs := by
  have hlt := leValue_lt bs
  rw [h] at hlt
  rw [toNat_wordOf (by simpa using hlt), ← h, leOctets_leValue]

theorem sumWords_append (ws : List Word32) (w : Word32) : sumWords (ws ++ [w]) = sumWords ws + w := by
  simp [sumWords, List.foldl_append]

/-- Word `k` of the `j`-th of many records of `m` words. -/
theorem getD_flatten {m j k : Nat} {ls : List (List Word32)} {l : List Word32} (hm : ∀ l ∈ ls, l.length = m) (hk : k < m)
    (hj : ls[j]? = some l) (rest : List Word32) : (ls.flatten ++ rest).getD (m * j + k) 0 = l.getD k 0 := by
  induction ls generalizing j with
  | nil => simp at hj
  | cons a ls ih =>
    have ha : a.length = m := hm a (by simp)
    rw [List.flatten_cons, List.append_assoc]
    cases j with
    | zero =>
      obtain rfl : a = l := by simpa using hj
      rw [Nat.mul_zero, Nat.zero_add, List.getD_append _ _ _ _ (by omega)]
    | succ j =>
      have hle : a.length ≤ m * (j + 1) + k := by rw [ha, Nat.mul_succ]; omega
      have hsub : m * (j + 1) + k - a.length = m * j + k := by rw [ha, Nat.mul_succ]; omega
      rw [List.getD_append_right _ _ _ _ hle, hsub]
      exact ih (fun l hl => hm l (by simp [hl])) (by simpa using hj)

/-! ## Definitions (R181) -/

section

variable {ws : List Word32} {i : Nat} {d : EntryDef} {o : OutputDef} {c : BankContent}

/-- A name that a definition may hold. -/
def goodName (n : Option (List Byte)) : Prop := ∀ cs, n = some cs → badName cs = false ∧ cs ≠ []

theorem clampChar_of_good {x : Byte} (h : ¬(x < 0x20#8 ∨ 0x7E#8 < x)) : clampChar x = x := by
  have h1 : 0x20 ≤ x.toNat := by simpa [BitVec.lt_def] using fun hlt => h (.inl hlt)
  have h2 : x.toNat ≤ 0x7E := by simpa [BitVec.lt_def] using fun hlt => h (.inr hlt)
  rw [clampChar, clampNat_of_mem h1 h2]
  simp

theorem nameAt_of_words {n : Option (List Byte)} (hg : goodName n) (hw : ∀ k < 4, ws.getD (i + k) 0 = (nameWords n).getD k 0) :
    nameAt ws i = n := by
  obtain ⟨cs, hcs⟩ : ∃ cs, cs = n.getD [] := ⟨_, rfl⟩
  have hgood : cs.length ≤ 12 ∧ ∀ x ∈ cs, ¬(x < 0x20#8 ∨ 0x7E#8 < x) := by
    cases n with
    | none => simp [hcs]
    | some m =>
      obtain ⟨hb, -⟩ := hg m rfl
      have hneg : ¬badName m = true := by simp [hb]
      rw [badName_iff, not_or, not_exists] at hneg
      have : cs = m := hcs
      exact this ▸ ⟨Nat.not_lt.1 hneg.1, fun x hx h => hneg.2 x ⟨hx, h⟩⟩
  obtain ⟨hlen, hchars⟩ := hgood
  obtain ⟨padded, hpad⟩ : ∃ p, p = cs ++ List.replicate (12 - cs.length) (0 : Byte) := ⟨_, rfl⟩
  have hplen : padded.length = 12 := by rw [hpad, List.length_append, List.length_replicate]; omega
  have hwords : nameWords n = [wordOf cs.length, wordOf (leValue (padded.take 4)), wordOf (leValue ((padded.drop 4).take 4)),
      wordOf (leValue ((padded.drop 8).take 4))] := by rw [nameWords, ← hcs, ← hpad]
  rw [hwords] at hw
  have h0 : wordAt ws i = cs.length := by
    have := hw 0 (by norm_num)
    rw [Nat.add_zero] at this
    rw [wordAt, this, List.getD_cons_zero, toNat_wordOf (by omega)]
  have h1 : leOctets 4 (wordAt ws (i + 1)) = padded.take 4 := by
    rw [wordAt, hw 1 (by norm_num)]
    exact leOctets_word (by rw [List.length_take]; omega)
  have h2 : leOctets 4 (wordAt ws (i + 2)) = (padded.drop 4).take 4 := by
    rw [wordAt, hw 2 (by norm_num)]
    exact leOctets_word (by rw [List.length_take, List.length_drop]; omega)
  have h3 : leOctets 4 (wordAt ws (i + 3)) = padded.drop 8 := by
    rw [wordAt, hw 3 (by norm_num)]
    have hall : (padded.drop 8).take 4 = padded.drop 8 := List.take_of_length_le (by rw [List.length_drop]; omega)
    rw [hall]
    exact leOctets_word (by rw [List.length_drop]; omega)
  have hjoin : padded.take 4 ++ (padded.drop 4).take 4 ++ padded.drop 8 = padded := by
    rw [List.append_assoc, ← List.drop_drop (i := 4) (j := 4), List.take_append_drop, List.take_append_drop]
  have hmin : min 12 cs.length = cs.length := Nat.min_eq_right hlen
  have hmap : cs.map clampChar = cs :=
    (List.map_congr_left fun x hx => clampChar_of_good (hchars x hx)).trans (List.map_id' cs)
  simp only [nameAt, h0, h1, h2, h3, hjoin, hmin]
  rw [hpad, List.take_left, hmap]
  cases n with
  | none => rw [hcs]; rfl
  | some m =>
    have hm : cs = m := hcs
    rw [nameField, if_neg (hm ▸ (hg m rfl).2), hm]

/-- A definition whose fields lie in their ranges. -/
structure EntryDef.inRange (d : EntryDef) : Prop where
  rate : badRate d.num d.den = false
  name : goodName d.name
  phase : -(2147483648 : Int) ≤ d.phi ∧ d.phi ≤ 2147483647
  slew : d.slew < 4294967296

theorem EntryDef.words_length (d : EntryDef) : d.words.length = 10 := rfl

theorem defAt_of_words (hd : d.inRange) (hw : ∀ k < 10, ws.getD (i + k) 0 = d.words.getD k 0) : defAt ws i = d := by
  have hname : nameAt ws i = d.name := nameAt_of_words hd.name fun k hk => by
    rw [hw k (by omega), EntryDef.words, List.getD_append _ _ _ _ hk]
  have hrate := hd.rate
  simp only [badRate, Bool.or_eq_false_iff, decide_eq_false_iff_not] at hrate
  obtain ⟨⟨⟨hr1, hr2⟩, hr3⟩, hr4⟩ := hrate
  have hnum : wordAt ws (i + 4) = d.num := by rw [wordAt, hw 4 (by norm_num)]; exact toNat_wordOf (by omega)
  have hden : wordAt ws (i + 5) = d.den := by rw [wordAt, hw 5 (by norm_num)]; exact toNat_wordOf (by omega)
  have hphi : intAt ws (i + 6) = d.phi := by rw [intAt, hw 6 (by norm_num)]; exact toInt_ofInt_word hd.phase.1 hd.phase.2
  have hpol : wordAt ws (i + 7) = d.policy.code.toNat := by
    rw [wordAt, hw 7 (by norm_num)]; exact toNat_wordOf (d.policy.code.isLt.trans (by norm_num))
  have hslew : wordAt ws (i + 8) = d.slew := by rw [wordAt, hw 8 (by norm_num)]; exact toNat_wordOf hd.slew
  have hlab : wordAt ws (i + 9) = d.label.code.toNat := by
    rw [wordAt, hw 9 (by norm_num)]; exact toNat_wordOf (d.label.code.isLt.trans (by norm_num))
  have hden' : clampNat 1 1001 d.den = d.den := clampNat_of_mem (by omega) (by omega)
  have hnum' : clampNat d.den (240000 * d.den) d.num = d.num := clampNat_of_mem (by omega) (by omega)
  have hpol' : (policyOf (min 2 d.policy.code.toNat)).getD .hold = d.policy := by cases d.policy <;> rfl
  have hlab' : (labelModeOf (min 2 d.label.code.toNat)).getD .drop = d.label := by cases d.label <;> rfl
  simp only [defAt, hname, hnum, hden, hphi, hpol, hslew, hlab, hden', hnum', hpol', hlab']

/-! ## Output records (R181) -/

/-- An output record whose fields lie in their ranges. -/
structure OutputDef.inRange (o : OutputDef) : Prop where
  divider : 1 ≤ o.divider ∧ o.divider ≤ 65535
  delay : o.delay < 18446744073709551616
  width : o.width < 18446744073709551616
  binding : ∀ p, o.binding = some p → p < 64

theorem OutputDef.words_length (o : OutputDef) : o.words.length = 8 := rfl

theorem wideAt_of_words {x : Nat} (hx : x < 18446744073709551616) (h0 : ws.getD i 0 = wordOf x)
    (h1 : ws.getD (i + 1) 0 = wordOf (x / 4294967296)) : wideAt ws i = x := by
  have hlow : (wordOf x).toNat = x % 4294967296 := by simp [wordOf]
  rw [wideAt, wordAt, wordAt, h0, h1, hlow, toNat_wordOf (by omega)]
  omega

theorem outAt_of_words (ho : o.inRange) (hw : ∀ k < 8, ws.getD (i + k) 0 = o.words.getD k 0) : outAt ws i = o := by
  have hen : wordAt ws i = if o.enabled then 1 else 0 := by
    have h := hw 0 (by norm_num)
    rw [Nat.add_zero] at h
    rw [wordAt, h]
    exact toNat_wordOf (by split <;> norm_num)
  have hdv : wordAt ws (i + 1) = o.divider := by
    rw [wordAt, hw 1 (by norm_num)]; exact toNat_wordOf (by have := ho.divider.2; omega)
  have hdl : wideAt ws (i + 2) = o.delay := wideAt_of_words ho.delay (hw 2 (by norm_num)) (hw 3 (by norm_num))
  have hwd : wideAt ws (i + 4) = o.width := wideAt_of_words ho.width (hw 4 (by norm_num)) (hw 5 (by norm_num))
  have hpol : wordAt ws (i + 6) = o.polarity.code.toNat := by
    rw [wordAt, hw 6 (by norm_num)]; exact toNat_wordOf (o.polarity.code.isLt.trans (by norm_num))
  have hbind : (if wordAt ws (i + 7) = 4294967295 then none else some (wordAt ws (i + 7))) = o.binding := by
    have h7 : ws.getD (i + 7) 0 = (o.binding.map wordOf).getD 0xFFFFFFFF#32 := hw 7 (by norm_num)
    rw [wordAt, h7]
    cases hb : o.binding with
    | none => rfl
    | some p =>
      have hp := ho.binding p hb
      have hval : (wordOf p).toNat = p := toNat_wordOf (by omega)
      rw [Option.map_some, Option.getD_some, hval, if_neg (by omega)]
  have hdv' : clampNat 1 65535 o.divider = o.divider := clampNat_of_mem ho.divider.1 ho.divider.2
  have hpol' : (polarityOf (min 1 o.polarity.code.toNat)).getD .activeLow = o.polarity := by cases o.polarity <;> rfl
  have hen' : decide ((if o.enabled = true then 1 else 0) ≠ 0) = o.enabled := by cases o.enabled <;> rfl
  simp only [outAt, hen, hdv, hdl, hwd, hpol, hbind, hdv', hpol', hen']

/-! ## The content of a bank (R173) -/

/-- The words before the definitions. -/
def BankContent.headWords (c : BankContent) : List Word32 :=
  [bankMarker, wordOf c.params.sth, wordOf c.params.lockWin, wordOf c.params.lockCount, wordOf c.params.unlockWin,
   wordOf c.params.persist, wordOf c.params.kp, wordOf c.params.ki, wordOf c.params.limit, wordOf c.params.timeout,
   wordOf c.params.ageLimit, wordOf c.params.minGrade, wordOf c.params.slewRange, BitVec.ofInt 32 c.offset, wordOf c.jam,
   wordOf c.timeout, wordOf c.orphan, wordOf (if c.autoRelease then 1 else 0), wordOf c.mode.code.toNat,
   wordOf c.mask.toByte.toNat, wordOf c.defs.length]

/-- The words of the definitions. -/
def BankContent.defWords (c : BankContent) : List Word32 := (c.defs.map EntryDef.words).flatten

/-- The words of the output records. -/
def BankContent.outWords (c : BankContent) : List Word32 := (c.outs.toList.map OutputDef.words).flatten

theorem BankContent.bank_eq (c : BankContent) :
    c.bank = c.headWords ++ (c.defWords ++ (c.outWords ++ [-(sumWords c.words)])) := by
  have h : c.words = c.headWords ++ c.defWords ++ c.outWords := rfl
  rw [BankContent.bank, h, List.append_assoc, List.append_assoc]

theorem flatten_words_length {m : Nat} {ls : List (List Word32)} (h : ∀ l ∈ ls, l.length = m) : ls.flatten.length = m * ls.length := by
  induction ls with
  | nil => rfl
  | cons a ls ih =>
    rw [List.flatten_cons, List.length_append, h a (by simp), ih fun l hl => h l (by simp [hl]), List.length_cons, Nat.mul_succ,
      Nat.add_comm]

theorem BankContent.defWords_length (c : BankContent) : c.defWords.length = 10 * c.defs.length := by
  rw [BankContent.defWords, flatten_words_length (m := 10) fun l hl => ?_, List.length_map]
  obtain ⟨d, -, rfl⟩ := List.mem_map.1 hl
  exact d.words_length

theorem BankContent.outWords_length (c : BankContent) : c.outWords.length = 128 := by
  rw [BankContent.outWords, flatten_words_length (m := 8) fun l hl => ?_, List.length_map, Vector.length_toList]
  obtain ⟨d, -, rfl⟩ := List.mem_map.1 hl
  exact d.words_length

theorem BankContent.getD_head (c : BankContent) {k : Nat} (hk : k < 21) : c.bank.getD k 0 = c.headWords.getD k 0 := by
  rw [c.bank_eq]
  exact List.getD_append _ _ _ _ hk

theorem BankContent.getD_def (c : BankContent) {j k : Nat} (hk : k < 10) (hj : c.defs[j]? = some d) :
    c.bank.getD (21 + 10 * j + k) 0 = d.words.getD k 0 := by
  have hlen : c.headWords.length = 21 := rfl
  rw [c.bank_eq, List.getD_append_right _ _ _ _ (by omega), hlen, show 21 + 10 * j + k - 21 = 10 * j + k by omega]
  refine getD_flatten (fun l hl => ?_) hk (by simp [hj]) _
  obtain ⟨d, -, rfl⟩ := List.mem_map.1 hl
  exact d.words_length

theorem BankContent.getD_out (c : BankContent) (j : Fin 16) {k : Nat} (hk : k < 8) :
    c.bank.getD (21 + 10 * c.defs.length + 8 * j.val + k) 0 = c.outs[j].words.getD k 0 := by
  have hlen : c.headWords.length = 21 := rfl
  have hdef := c.defWords_length
  rw [c.bank_eq, List.getD_append_right _ _ _ _ (by omega), List.getD_append_right _ _ _ _ (by omega), hlen, hdef,
    show 21 + 10 * c.defs.length + 8 * j.val + k - 21 - 10 * c.defs.length = 8 * j.val + k by omega]
  refine getD_flatten (fun l hl => ?_) hk (by simp) _
  obtain ⟨d, -, rfl⟩ := List.mem_map.1 hl
  exact d.words_length

theorem pick_some_of_mem {lo hi x : Nat} (old : Nat) (h1 : lo ≤ x) (h2 : x ≤ hi) : pick lo hi (some x) old = x :=
  clampNat_of_mem h1 h2

/-- R104: parameters in their ranges are taken as they are. -/
theorem ServoParams.fit_of_inRange {p : ServoParams} (h : p.inRange) : p.fit = p := by
  obtain ⟨⟨h1, h1'⟩, ⟨h2, h2'⟩, ⟨h3, h3'⟩, ⟨h4, h4'⟩, ⟨h5, h5'⟩, h6, h7, h8, ⟨h9, h9'⟩, ⟨h10, h10'⟩, h11, h12⟩ := h
  simp only [ServoParams.fit, ServoParams.asReq, ServoReq.params, pick_some_of_mem _ h1 h1', pick_some_of_mem _ h2 h2',
    pick_some_of_mem _ h3 h3', Option.getD_some, clampNat_of_mem h4 h4', pick_some_of_mem _ h5 h5',
    pick_some_of_mem _ (Nat.zero_le _) h6, pick_some_of_mem _ (Nat.zero_le _) h7, pick_some_of_mem _ (Nat.zero_le _) h8,
    pick_some_of_mem _ h9 h9', pick_some_of_mem _ h10 h10', pick_some_of_mem _ (Nat.zero_le _) h11,
    pick_some_of_mem _ (Nat.zero_le _) h12]

theorem CauseSet.ofByte_toByte (m : CauseSet) : CauseSet.ofByte (BitVec.ofNat 8 m.toByte.toNat) = m := by
  rw [BitVec.ofNat_toNat, BitVec.setWidth_eq]
  obtain ⟨a, b, c, d, e⟩ := m
  cases a <;> cases b <;> cases c <;> cases d <;> cases e <;> rfl

theorem BankContent.defCount_bank (c : BankContent) (h : c.defs.length ≤ 64) : defCount c.bank = c.defs.length := by
  rw [defCount, wordAt, c.getD_head (by norm_num)]
  exact toNat_wordOf (by omega)

theorem BankContent.bankPasses_bank (c : BankContent) (h : c.defs.length ≤ 64) : bankPasses c.bank = true := by
  have hlen : c.bank.length = 150 + 10 * c.defs.length := by
    rw [c.bank_eq, List.length_append, List.length_append, List.length_append, c.defWords_length, c.outWords_length,
      show c.headWords.length = 21 from rfl, List.length_singleton]
    omega
  have hmark : c.bank.getD 0 0 = bankMarker := c.getD_head (by norm_num)
  have hsum : sumWords c.bank = 0 := by rw [BankContent.bank, sumWords_append]; exact BitVec.add_right_neg _
  simp only [bankPasses, hlen, hmark, hsum, c.defCount_bank h, decide_eq_true h, decide_true, Bool.and_true]

theorem BankContent.paramsAt_bank (c : BankContent) (h : c.params.inRange) : paramsAt c.bank = c.params := by
  obtain ⟨⟨-, h1⟩, ⟨-, h2⟩, ⟨-, h3⟩, ⟨-, h4⟩, ⟨-, h5⟩, h6, h7, h8, ⟨-, h9⟩, ⟨-, h10⟩, h11, h12⟩ := h
  have hw {k x : Nat} (hk : k < 21) (hx : c.headWords.getD k 0 = wordOf x) (hlt : x < 4294967296) : wordAt c.bank k = x := by
    rw [wordAt, c.getD_head hk, hx, toNat_wordOf hlt]
  simp only [paramsAt, hw (k := 1) (by norm_num) rfl (by omega : c.params.sth < _), hw (k := 2) (by norm_num) rfl (by omega : c.params.lockWin < _),
    hw (k := 3) (by norm_num) rfl (by omega : c.params.lockCount < _), hw (k := 4) (by norm_num) rfl (by omega : c.params.unlockWin < _),
    hw (k := 5) (by norm_num) rfl (by omega : c.params.persist < _), hw (k := 6) (by norm_num) rfl (by omega : c.params.kp < _),
    hw (k := 7) (by norm_num) rfl (by omega : c.params.ki < _), hw (k := 8) (by norm_num) rfl (by omega : c.params.limit < _),
    hw (k := 9) (by norm_num) rfl (by omega : c.params.timeout < _), hw (k := 10) (by norm_num) rfl (by omega : c.params.ageLimit < _),
    hw (k := 11) (by norm_num) rfl (by omega : c.params.minGrade < _), hw (k := 12) (by norm_num) rfl (by omega : c.params.slewRange < _)]

end

/-- Settles O12: word by word, the settings, the definitions and the output records. -/
theorem bankContentReadsBack : Obligations.BankContentReadsBack := by
  intro c hp hoff hjam ht1 ht2 ho1 ho2 hdefs hd ho
  refine ⟨c.bankPasses_bank hdefs, ?_⟩
  have hw {k x : Nat} (hk : k < 21) (hx : c.headWords.getD k 0 = wordOf x) (hlt : x < 4294967296) : wordAt c.bank k = x := by
    rw [wordAt, c.getD_head hk, hx, toNat_wordOf hlt]
  have hparams : (paramsAt c.bank).fit = c.params := by rw [c.paramsAt_bank hp, ServoParams.fit_of_inRange hp]
  have hoffset : clampOffset (intAt c.bank 13) = c.offset := by
    have : intAt c.bank 13 = c.offset := by
      rw [intAt, c.getD_head (by norm_num)]
      exact toInt_ofInt_word (by omega) (by omega)
    rw [this]
    exact clampInt_of_mem (by omega) (by omega)
  have hjam' : clampJam (wordAt c.bank 14) = c.jam := by
    rw [hw (by norm_num) rfl (by omega : c.jam < _)]
    exact clampNat_of_mem (Nat.zero_le _) (by omega)
  have htime : clampTimeout (wordAt c.bank 15) = c.timeout := by
    rw [hw (by norm_num) rfl (by omega : c.timeout < _)]
    exact clampNat_of_mem ht1 ht2
  have horph : clampOrphan (wordAt c.bank 16) = c.orphan := by
    rw [hw (by norm_num) rfl (by omega : c.orphan < _)]
    exact clampNat_of_mem ho1 ho2
  have hauto : decide (wordAt c.bank 17 ≠ 0) = c.autoRelease := by
    rw [hw (by norm_num) rfl (by split <;> norm_num : (if c.autoRelease then 1 else 0) < 4294967296)]
    cases c.autoRelease <;> rfl
  have hmode : (attnModeOf (min 1 (wordAt c.bank 18))).getD .pulse = c.mode := by
    rw [hw (by norm_num) rfl (c.mode.code.isLt.trans (by norm_num))]
    cases c.mode <;> rfl
  have hmask : CauseSet.ofByte (BitVec.ofNat 8 (wordAt c.bank 19)) = c.mask := by
    rw [hw (by norm_num) rfl (c.mask.toByte.isLt.trans (by norm_num)), CauseSet.ofByte_toByte]
  have hdefs' : (List.range c.defs.length).map (fun j => defAt c.bank (21 + 10 * j)) = c.defs := by
    refine List.ext_getElem (by simp) fun j h1 h2 => ?_
    obtain ⟨hrate, hname, hlo, hhi, hslew⟩ := hd c.defs[j] (List.getElem_mem h2)
    simp only [List.getElem_map, List.getElem_range]
    exact defAt_of_words ⟨hrate, hname, ⟨hlo, hhi⟩, hslew⟩ fun k hk => c.getD_def hk (List.getElem?_eq_getElem h2)
  have houts : (Vector.ofFn fun o : Fin 16 => outAt c.bank (21 + 10 * c.defs.length + 8 * o.val)) = c.outs := by
    refine Vector.ext fun j hj => ?_
    obtain ⟨h1, h2, h3, h4, h5⟩ := ho ⟨j, hj⟩
    simp only [Vector.getElem_ofFn]
    exact outAt_of_words ⟨⟨h1, h2⟩, h3, h4, h5⟩ fun k hk => c.getD_out ⟨j, hj⟩ hk
  simp only [readBank, c.defCount_bank hdefs, hparams, hoffset, hjam', htime, horph, hauto, hmode, hmask, hdefs', houts]

end Sys2Proof.Machine

/-! PROOFS. Holdover, STATUS, SAVE, SAMPLE, the pulses and hard reset (R79 to R84, R98, R99, R109, R111, R172, R174, R176). -/

namespace Sys2Proof.Machine

open Sys2Proof Config

/-! ## Causes -/

theorem State.raise_shows (s : State) (c : Cause) : (s.raise c).shows c := by
  obtain ⟨a, ha, hs⟩ := s.raise_eq c
  rw [hs]
  exact ha

theorem State.noteClass_shows (s : State) (h : s.quality ≠ s.servo.noted) : s.noteClass.shows .servo := by
  rw [State.noteClass, if_neg h]
  exact State.raise_shows _ _

theorem State.noteClass_sameBut (s : State) : s.sameBut [.servo, .attn] s.noteClass := by
  unfold State.noteClass
  split
  · exact .refl _ _
  · have h : s.sameBut [.servo] { s with servo := { s.servo with noted := s.quality } } := by
      intro p hp
      cases p <;> simp [State.samePart] at hp ⊢
    exact h.trans (State.raise_sameBut _ _)

/-! ## Holdover (R98, R99) -/

theorem State.holdoverDue_iff (s : State) :
    s.holdoverDue = true ↔ (s.servo.state = .acquire ∨ s.servo.state = .locked)
      ∧ ∃ c, s.servo.timer = some c ∧ s.servo.params.timeout * cyclesPerSecond ≤ s.cycle - c := by
  simp [State.holdoverDue, Option.any_eq_true]

/-- The servo as HOLDOVER leaves it, but for the class it has noted (R98). -/
def State.heldOver (s : State) : State :=
  { s with servo := { s.servo with
    correction := s.servo.integral, good := 0, outliers := 0, timer := none, ageStart := some s.cycle, state := .holdover } }

theorem State.enterHoldover_eq (s : State) : s.enterHoldover = s.heldOver.noteClass := rfl

theorem State.heldOver_quality (s : State) : s.heldOver.quality = 2 := by
  simp [State.quality, State.heldOver, State.ageCycles]

theorem State.enterHoldover_servo (s : State) :
    s.enterHoldover.servo = { s.servo with state := .holdover, correction := s.servo.integral, good := 0, outliers := 0,
                                           timer := none, ageStart := some s.cycle, noted := 2 } := by
  rw [State.enterHoldover_eq, State.noteClass_servo, State.heldOver_quality]
  rfl

theorem State.enterHoldover_sameBut (s : State) : s.sameBut [.servo, .attn] s.enterHoldover := by
  have h : s.sameBut [.servo] s.heldOver := by
    intro p hp
    cases p <;> simp [State.samePart, State.heldOver] at hp ⊢
  exact (h.trans s.heldOver.noteClass_sameBut).mono (by decide)

/-- Settles O39: the two expiries change the state only where they are due, and the class that they bring is a new one. -/
theorem holdoverKeepsIntegral : Obligations.HoldoverKeepsIntegral := by
  intro s hr ⟨⟨_, _, _, _, _, _, _, _, htimeout, _⟩, _, ⟨hlocked, hacquire, _, _⟩, _, _⟩
  have hexpiry : exec .holdoverTimerExpiry s = .next (if s.holdoverDue then s.enterHoldover else s) :=
    congrArg Host.Outcome.next (State.whenReleased_deasserted hr _)
  have hpassed : exec .holdoverAgeLimitPassed s = .next (if s.ageLimitDue then s.noteClass else s) :=
    congrArg Host.Outcome.next (State.whenReleased_deasserted hr _)
  refine ⟨fun c hc hst hle => ?_, fun c hc hlt => ?_, fun c hst hc hlt hn => ?_, fun c hc hle => ?_⟩
  · have hdue : s.holdoverDue = true := s.holdoverDue_iff.2 ⟨hst, c, hc, by simp only [cyclesPerSecond]; omega⟩
    have hnew : s.heldOver.quality ≠ s.heldOver.servo.noted := by
      rw [State.heldOver_quality]
      change 2 ≠ s.servo.noted
      rcases hst with h | h
      · rw [hacquire h]; decide
      · rw [hlocked h]; decide
    refine ⟨_, by rw [hexpiry, if_pos hdue], s.enterHoldover_servo, s.heldOver.noteClass_shows hnew, ?_⟩
    exact s.enterHoldover_sameBut
  · have hdue : ¬s.holdoverDue = true := fun h => by
      obtain ⟨_, c', hc', hle⟩ := s.holdoverDue_iff.1 h
      obtain rfl : c = c' := Option.some.inj (hc.symm.trans hc')
      simp only [cyclesPerSecond] at hle
      omega
    rw [hexpiry, if_neg hdue]
  · have hq : s.quality = 3 := by
      simp only [State.quality, hst, State.ageCycles, hc, cyclesPerSecond]
      rw [if_neg (by omega)]
    have hdue : s.ageLimitDue = true := by simp [State.ageLimitDue, hst, hq, hn]
    refine ⟨_, by rw [hpassed, if_pos hdue], ?_, ?_, s.noteClass_shows (by rw [hq, hn]; decide), s.noteClass_sameBut⟩
    · rw [State.noteClass_servo, hq]
    · rw [State.quality, State.noteClass_servo]
      simp only [hst, State.ageCycles, State.noteClass_servo, State.noteClass_cycle, hc, cyclesPerSecond]
      rw [if_neg (by omega)]
  · have hdue : ¬s.ageLimitDue = true := fun h => by
      simp only [State.ageLimitDue, State.quality, State.ageCycles, hc, cyclesPerSecond, Bool.and_eq_true, decide_eq_true_eq] at h
      obtain ⟨⟨hst, hq⟩, _⟩ := h
      rw [hst] at hq
      simp only [if_pos (show s.cycle - c ≤ s.servo.params.ageLimit * 125000000 by omega)] at hq
      omega
    rw [hpassed, if_neg hdue]

/-! ## Pulses (R109, R111) -/

theorem Output.skip_one (o : Output) : o.skip 1 = { o with skipped := min 65535 (o.skipped + 1) } := rfl

theorem Output.mayBegin_iff (o : Output) (p : Pulse) (inhibit : Bool) :
    o.mayBegin p inhibit = true ↔ inhibit = false ∧ o.inProgress = none ∧ ∀ x, o.lastInactive = some x → x + 8 ≤ p.active := by
  simp [Output.mayBegin, Option.all_eq_true, and_assoc]

theorem Output.inhibited_idle {o : Output} (h : o.inProgress = none) (t : Int) : o.inhibited t = o := by
  rw [Output.inhibited, h]

theorem Output.inhibited_pulse {o : Output} (h : o.inProgress = some p) (t : Int) :
    o.inhibited t = { o with
      inProgress := none, lastInactive := some t, polarity := o.pendingPol.getD o.polarity, pendingPol := none
      skipped := if p.active = t then min 65535 (o.skipped + 1) else o.skipped } := by
  by_cases hp : p.active = t <;> simp [Output.inhibited, h, hp, Output.endPulse, Output.skip, satAdd]

theorem Output.inhibited_waiting (o : Output) (t : Int) : (o.inhibited t).waiting = o.waiting := by
  cases h : o.inProgress with
  | none => rw [Output.inhibited_idle h]
  | some p => rw [Output.inhibited_pulse h]

theorem State.pinRests_of_quiet {s : State} {o : OutNo} (h : s.outs[o].inProgress = none) : s.pinRests o := by
  simp only [State.pinRests, State.pinHigh, h]
  cases s.outs[o].polarity <;> rfl

/-- The outputs at the assertion of INHIBIT, and the level of the pin (R111). -/
def State.inhibitNow (s : State) : State := { s.mapOutputs (fun o => o.inhibited s.now) with inhibit := true }

theorem exec_inhibitAssertion {s : State} (hr : s.resetPin = false) : exec .inhibitAssertion s = .next s.inhibitNow := by
  have h := State.whenReleased_deasserted hr fun s => s.mapOutputs fun o => o.inhibited s.now
  change Host.Outcome.next { s.whenReleased (fun s => s.mapOutputs fun o => o.inhibited s.now) with inhibit := true } = _
  rw [h, State.inhibitNow]

theorem State.inhibitNow_at (s : State) (o : OutNo) : s.inhibitNow.outs[o] = s.outs[o].inhibited s.now := by
  have h : s.inhibitNow.outs = (s.mapOutputs fun o => o.inhibited s.now).outs := rfl
  rw [h]
  simp only [Fin.getElem_fin, State.mapOutputs_at]

theorem State.inhibitNow_sameBut (s : State) : s.sameBut [.inhibit, .outs] s.inhibitNow :=
  ((s.mapOutputs_sameBut _).trans (State.setInhibit_sameBut _ _)).mono (by decide)

/-- Settles O43: each edge acts on the first waiting pulse or on the pulse in progress, once it is due. -/
theorem pulsesFollowEdgesAndInhibit : Obligations.PulsesFollowEdgesAndInhibit := by
  intro s hr
  have hactive (o : OutNo) : exec (.activeEdge o) s
      = .next (if s.activeIsDue o then s.setOutput o (s.outs[o].activeEdge s.inhibit) else s) :=
    congrArg Host.Outcome.next (State.whenReleased_deasserted hr _)
  have hinactive (o : OutNo) : exec (.inactiveEdge o) s
      = .next (if s.inactiveIsDue o then s.setOutput o s.outs[o].inactiveEdge else s) :=
    congrArg Host.Outcome.next (State.whenReleased_deasserted hr _)
  refine ⟨?_, fun o h => ?_, fun o p hp hle => ?_, fun o h => ?_, ?_, rfl⟩
  · intro o p ps hw hle a
    have hdue : s.activeIsDue o = true := by rw [State.activeIsDue, hw]; simpa using hle
    rw [hactive, if_pos hdue, Output.activeEdge, hw]
    simp only [Output.mayBegin_iff]
    rfl
  · have hdue : ¬s.activeIsDue o = true := by
      simp only [State.activeIsDue, Option.any_eq_true, decide_eq_true_eq, not_exists, not_and, not_le]
      exact fun p hp => h p hp
    rw [hactive, if_neg hdue]
  · have hdue : s.inactiveIsDue o = true := by rw [State.inactiveIsDue, hp]; simpa using hle
    rw [hinactive, if_pos hdue]
    simp only [Output.inactiveEdge, Output.endPulse, hp]
  · have hdue : ¬s.inactiveIsDue o = true := by
      simp only [State.inactiveIsDue, Option.any_eq_true, decide_eq_true_eq, not_exists, not_and, not_le]
      exact fun p hp => h p hp
    rw [hinactive, if_neg hdue]
  · refine ⟨_, exec_inhibitAssertion hr, rfl, fun o => ⟨?_, ?_, ?_, fun h => ?_, fun p hp => ?_⟩, s.inhibitNow_sameBut⟩
    · rw [s.inhibitNow_at, Output.inhibited_inProgress]
    · rw [s.inhibitNow_at, Output.inhibited_waiting]
    · exact State.pinRests_of_quiet (by rw [s.inhibitNow_at, Output.inhibited_inProgress])
    · rw [s.inhibitNow_at, Output.inhibited_idle h]
    · rw [s.inhibitNow_at, Output.inhibited_pulse hp]

/-! ## STATUS (R172) -/

theorem attnModeOf_none {c : Nat} (h : 1 < c) : attnModeOf c = none := by
  match c, h with
  | c + 2, _ => rfl

theorem State.attnAction_refused {a : AttnAction} (s : State)
    (h : (∃ c, a = .other c) ∨ ∃ m c, a = .set m c ∧ 1 < c) : s.attnAction a = none := by
  obtain ⟨c, rfl⟩ | ⟨m, c, rfl, hc⟩ := h
  · rfl
  · rw [State.attnAction, attnModeOf_none hc]
    rfl

/-- The state in which the attention takes mode `mode` and mask `mask`. -/
theorem State.attnAction_taken {a : AttnAction} {mode : AttnMode} {mask : CauseSet} (s : State)
    (h : a = .keep ∧ mode = s.attn.mode ∧ mask = s.attn.mask
      ∨ ∃ m c, a = .set m c ∧ attnModeOf c = some mode ∧ mask = CauseSet.ofByte m) :
    s.attnAction a = some (s.setAttention mode mask) := by
  obtain ⟨rfl, rfl, rfl⟩ | ⟨m, c, rfl, hc, rfl⟩ := h
  · simp only [State.attnAction, State.setAttention, if_pos]
  · rw [State.attnAction, hc]
    rfl

/-- Settles O48: the action is refused, or taken before the figures are read and cleared. -/
theorem statusReadsAndClears : Obligations.StatusReadsAndClears := by
  intro s t clear act hs
  have hans {s2 : State} {st : Status} {b : Body} (h : statusReply clear act s = (s2, some (st, b))) :
      exec (.status .mgmt t clear act) s = .next (s2.reply .mgmt t (.status clear act) st b) :=
    exec_reply (r := .status clear act) hs h
  refine ⟨fun hbad => hans ?_, ?_⟩
  · rw [statusReply, s.attnAction_refused hbad]
    rfl
  · intro mode mask htaken view s1
    refine hans ?_
    rw [statusReply, s.attnAction_taken htaken]
    cases clear <;> rfl

/-! ## SAVE completes (R161, R174) -/

theorem State.completeOp_deliversTo (s : State) (r : Result) : s.deliversTo (s.completeOp r) r := by
  unfold State.deliversTo State.completeOp
  cases h : s.port.slot <;> simp [h, State.countLoss, satAdd]

theorem State.deliversTo.of_port {s s0 s' : State} {r : Result} (h : s0.deliversTo s' r) (hp : s0.port = s.port) :
    s.deliversTo s' r := by
  rw [State.deliversTo, hp] at h
  exact h

/-- The state at the end of a store operation before its result is formed. -/
def State.opEnded (s : State) : State := State.raise .store { s with store := { s.store with op := none } }

theorem State.opEnded_store (s : State) : s.opEnded.store = { s.store with op := none } := by
  rw [State.opEnded, State.raise_eq_withAttn]

theorem State.opEnded_port (s : State) : s.opEnded.port = s.port := by
  rw [State.opEnded, State.raise_eq_withAttn]

theorem State.endOp_eq (s : State) (code : Byte) (t : Tag) (st : Status) (b : Body) :
    s.endOp code t st b = s.opEnded.completeOp ⟨code, t, st, b⟩ := rfl

theorem State.completeOp_eq (s : State) (r : Result) : s.completeOp r = { s with port := (s.completeOp r).port } := by
  unfold State.completeOp
  dsimp only
  split <;> rfl

theorem State.endOp_store (s : State) (code : Byte) (t : Tag) (st : Status) (b : Body) :
    (s.endOp code t st b).store = { s.store with op := none } := by
  rw [State.endOp_eq, State.completeOp_eq]
  exact s.opEnded_store

theorem State.endOp_shows (s : State) (code : Byte) (t : Tag) (st : Status) (b : Body) :
    (s.endOp code t st b).shows .store := by
  rw [State.endOp_eq, State.completeOp_eq]
  exact State.raise_shows _ _

theorem State.endOp_deliversTo (s : State) (code : Byte) (t : Tag) (st : Status) (b : Body) :
    s.deliversTo (s.endOp code t st b) ⟨code, t, st, b⟩ :=
  (s.opEnded.completeOp_deliversTo _).of_port s.opEnded_port

theorem badMarker_ne (b : Fin 4) : badMarker b ≠ bankMarker := by
  unfold badMarker
  split
  · decide
  · assumption

/-- The marker that a failed verify leaves fails the check of a bank. -/
theorem bankPasses_badMarker (b : Fin 4) (ws : List Word32) : bankPasses (badMarker b :: ws) = false := by
  have h : decide ((badMarker b :: ws).getD 0 0 = bankMarker) = false := decide_eq_false (badMarker_ne b)
  simp only [bankPasses, h, Bool.false_and]

/-- The words of the bank after SAVE operation `x` has read back `stored`, and the status of its result. -/
def StoreOp.verified (x : StoreOp) (stored : List Word32) : List Word32 × Status :=
  if stored = x.snapshot then (x.snapshot, .ok) else (badMarker x.bank :: stored.drop 1, .storeFault)

theorem State.finishSave_eq (x : StoreOp) (stored : List Word32) (s : State) :
    s.finishSave x stored
      = (s.setBank x.bank (x.verified stored).1).endOp 0x25#8 (x.tag.getD 0) (x.verified stored).2 .empty := by
  by_cases h : stored = x.snapshot
  · rw [State.finishSave, StoreOp.verified, if_pos h, if_pos h]
    rfl
  · rw [State.finishSave, StoreOp.verified, if_neg h, if_neg h]
    rfl

/-- Settles O50: both endings set the bank and then end the operation. -/
theorem saveVerifies : Obligations.SaveVerifies := by
  intro s b t snapshot stored hr hop
  have hexec : exec (.saveCompletion stored) s = .next (s.finishSave ⟨.save, b, some t, snapshot⟩ stored) := by
    refine congrArg Host.Outcome.next ((State.whenReleased_deasserted hr _).trans ?_)
    rw [hop]
    rfl
  set x : StoreOp := ⟨.save, b, some t, snapshot⟩ with hx
  set s0 := s.setBank b (x.verified stored).1 with hs0
  have hfin : s.finishSave x stored = s0.endOp 0x25#8 t (x.verified stored).2 .empty := s.finishSave_eq x stored
  have hbanks : (s.finishSave x stored).store.banks = s.store.banks.set b (x.verified stored).1 := by
    rw [hfin, State.endOp_store]
    rfl
  have hbank : (s.finishSave x stored).store.banks[b] = (x.verified stored).1 := by
    simp [hbanks]
  refine ⟨_, hexec, ?_, ?_, fun he => ?_, fun hne => ?_, fun c hc => ?_, ?_, ?_⟩
  · rw [hfin, State.endOp_store]
  · rw [hfin]
    exact State.endOp_shows _ _ _ _ _
  · rw [hbank, StoreOp.verified, if_pos he]
  · rw [hbank, StoreOp.verified, if_neg hne]
    exact bankPasses_badMarker _ _
  · have hne : b.val ≠ c.val := fun h => hc (Fin.ext h.symm)
    simp [hbanks, Vector.getElem_set_ne, hne]
  · have hst : (if stored = snapshot then Status.ok else .storeFault) = (x.verified stored).2 := by
      rw [StoreOp.verified]
      split <;> rfl
    rw [hst, hfin]
    exact (s0.endOp_deliversTo _ _ _ _).of_port rfl
  · rw [hfin]
    exact ((State.setStore_sameBut s _).trans (s0.endOp_sameBut _ _ _ _)).mono (by decide)

/-! ## SAMPLE paired by age (R82, R83) -/

theorem SampleReq.bad_iff (q : SampleReq) :
    SampleReq.bad q = true ↔ 281474976710656 ≤ q.sec ∨ 1000000000 ≤ q.ns ∨ 15 < q.grade := by
  simp [SampleReq.bad, secondsWrap, second, or_assoc]

/-- The age of a report that bears sequence number `seq` when the latest capture bears `sc`. -/
theorem sampleAge (sc seq : BitVec 8) : (sc - seq).toNat = (sc.toNat + 256 - seq.toNat) % 256 := by
  have h := seq.isLt
  rw [BitVec.toNat_sub]
  congr 1
  omega

/-- Settles O33: the pairing reads the age first, then the slot, then the grade. -/
theorem sampleIsPairedByAge : Obligations.SampleIsPairedByAge := by
  intro s t q hs slot answers
  have hans {s2 : State} {st : Status} {b : Body} (h : sampleReply q s = (s2, some (st, b))) :
      exec (.sample .mgmt t q) s = .next (s2.reply .mgmt t (.sample q) st b) :=
    exec_reply (r := .sample q) hs h
  refine ⟨fun hbad => hans ?_, fun hsec hns hgrade => ?_⟩
  · rw [sampleReply, if_pos ((Machine.SampleReq.bad_iff q).2 hbad)]
    rfl
  have hgood : sampleReply q s = pairSample q s := by
    rw [sampleReply, if_neg fun h => by have := (Machine.SampleReq.bad_iff q).1 h; omega]
  refine ⟨fun hl => hans ?_, fun sc hl => ?_⟩
  · rw [hgood, pairSample, hl]
  intro age
  have hage : (sc - q.seq).toNat = age := sampleAge sc q.seq
  refine ⟨fun h => hans ?_, fun h h' => hans ?_, fun h hst => hans ?_, fun h hst => hans ?_, fun h hst => hans ?_,
    fun h hst hg => hans ?_⟩
  · simp only [hgood, pairSample, hl]
    rw [if_pos (by omega)]
  · simp only [hgood, pairSample, hl]
    rw [if_neg (by omega), if_pos (by omega)]
  · simp only [hgood, pairSample, hl]
    rw [if_neg (by omega), if_neg (by omega), hst]
  · simp only [hgood, pairSample, hl]
    rw [if_neg (by omega), if_neg (by omega), hst]
  · simp only [hgood, pairSample, hl]
    rw [if_neg (by omega), if_neg (by omega), hst]
  · have hignored : pairSample q s = ((s.markSlot q.seq .consumed).countServo fun c =>
        { c with ignored := satAdd counterTop c.ignored 1 }, some (.ignored, .seq q.seq)) := by
      simp only [pairSample, hl]
      rw [if_neg (by omega), if_neg (by omega), hst]
      exact if_pos hg
    rw [hgood, hignored]
    rfl

/-! ## Hard reset (R176) -/

/-- Settles O53: the values of the reset state, and the release of a pin that is asserted or not. -/
theorem hardResetSetsDefaults : Obligations.HardResetSetsDefaults := by
  intro s b
  refine ⟨⟨s.hardReset, rfl, ?_⟩, fun hr => ?_, fun hr => ?_⟩
  · have hslot (k : Fin 4) : s.hardReset.slots[k].state = .empty := by simp [State.hardReset, State.reset]
    have hentry (i : Idx) : s.hardReset.entries[i] = Entry.vacantAt 0 := by simp [State.hardReset, State.reset]
    have hout (o : OutNo) : s.hardReset.outs[o] = Output.builtIn := by simp [State.hardReset, State.reset]
    have hstation (x : Addr) : s.hardReset.stations[x] = Station.cleared := by simp [State.hardReset, State.reset]
    refine ⟨rfl, rfl, rfl, rfl, hslot, rfl, rfl, rfl, rfl, rfl, rfl, rfl, rfl, rfl, rfl, rfl, rfl, rfl, rfl, rfl, rfl, rfl,
      fun i => ?_, rfl, hout, rfl, rfl, rfl, rfl, rfl, rfl, rfl, rfl, rfl, rfl, rfl, hstation, rfl, rfl, rfl, rfl, rfl, rfl, rfl,
      rfl, rfl, rfl, rfl, rfl, rfl, fun o => ?_⟩
    · rw [hentry]
      exact ⟨rfl, rfl⟩
    · rw [State.pinHigh, hout]
      rfl
  · exact congrArg Host.Outcome.next (if_pos hr)
  · exact congrArg Host.Outcome.next (if_neg (by rw [hr]; decide))

end Sys2Proof.Machine

/-! PROOFS. The civil schedule and the label bases: CIVIL and the jam event (R56 to R63): O41, O45. -/

namespace Sys2Proof.Machine

open Sys2Proof Config

/-! ## The schedule (R58, R59) -/

/-- R59: tn computed from the other settings is as R59 gives it. -/
theorem Civil.withNextJam_scheduled (c : Civil) : ({ c with tn := c.nextJam } : Civil).scheduled := by
  refine ⟨c.tB + 1 + (((c.jam : Int) - c.offset - c.tB - 1) % 86400).toNat, ?_, ?_, ?_, ?_⟩
  · dsimp only
    omega
  · dsimp only
    omega
  · dsimp only
    omega
  · show c.nextJam = _
    unfold Civil.nextJam
    cases c.pending <;> rfl

theorem Civil.rebased_scheduled (c : Civil) (t : Nat) : (c.rebased t).scheduled :=
  Civil.withNextJam_scheduled _

/-- R58: tB and tn after a re-base. -/
theorem Civil.rebased_basedAt (c : Civil) (t : Nat) : (c.rebased t).basedAt t := by
  have hdaily : ((recentDaily c.offset c.jam t : Nat) : Int)
      = max 0 ((t : Int) / 1000000000 - ((t : Int) / 1000000000 + c.offset - c.jam) % 86400) := by
    simp only [recentDaily, second]
    push_cast
    rw [max_comm, Int.toNat_eq_max]
  refine ⟨?_, c.rebased_scheduled t⟩
  have htB : (c.rebased t).tB = match c.tL with
    | some l => max (recentDaily c.offset c.jam t) l
    | none => recentDaily c.offset c.jam t := rfl
  simp only [Civil.rebased_offset, Civil.rebased_jam, Civil.rebased_tL]
  rw [htB]
  cases c.tL with
  | none => exact hdaily
  | some l =>
    dsimp only
    rw [Nat.cast_max, hdaily]

theorem Civil.keepsBases_iff (old c : Civil) :
    old.keepsBases c = true ↔ c.tB = old.tB ∧ c.offset = old.offset ∧ c.jam = old.jam := by
  simp [Civil.keepsBases, and_assoc]

/-! ## The settings and the entries after a re-base or a new schedule -/

/-- The label bases of an entry apart. -/
def Entry.unbased (e : Entry) : Entry := { e with base := none, next := none }

theorem Entry.withBases_unbased (e : Entry) (c : Civil) : (e.withBases c).unbased = e.unbased := by
  unfold Entry.withBases
  split <;> rfl

theorem Entry.withNextBase_unbased (e : Entry) (c : Civil) : (e.withNextBase c).unbased = e.unbased := by
  unfold Entry.withNextBase
  split <;> rfl

theorem Entry.withNextBase_base (e : Entry) (c : Civil) : (e.withNextBase c).base = e.base := by
  unfold Entry.withNextBase
  split <;> rfl

theorem Entry.withNextBase_eq (e : Entry) (c : Civil) : ∃ n, e.withNextBase c = { e with next := n } := by
  unfold Entry.withNextBase
  split <;> exact ⟨_, rfl⟩

theorem State.rebase_civil (s : State) (old : Civil) (r : Nat) : (s.rebase old r).civil = s.civil.rebased r := by
  cases h : old.keepsBases (s.civil.rebased r)
  · rw [State.rebase_moved h, State.mapEntries_civil]
  · rw [State.rebase_kept h]

theorem State.rebase_kept_at (s : State) (old : Civil) (r : Nat) (h : old.keepsBases (s.civil.rebased r) = true) (i : Idx) :
    (s.rebase old r).entries[i] = s.entries[i] := by
  rw [State.rebase_kept h]

theorem State.rebase_moved_at (s : State) (old : Civil) (r : Nat) (h : old.keepsBases (s.civil.rebased r) = false) (i : Idx) :
    (s.rebase old r).entries[i] =
      if s.entries[i].state = .vacant then s.entries[i] else s.entries[i].withBases (s.civil.rebased r) := by
  rw [State.rebase_moved h]
  simp only [Fin.getElem_fin, State.mapEntries_at]

theorem State.rebase_unbased (s : State) (old : Civil) (r : Nat) (i : Idx) :
    (s.rebase old r).entries[i].unbased = s.entries[i].unbased := by
  cases h : old.keepsBases (s.civil.rebased r)
  · rw [s.rebase_moved_at old r h]
    split
    · rfl
    · exact Entry.withBases_unbased _ _
  · rw [s.rebase_kept_at old r h]

theorem State.reschedule_civil (s : State) : s.reschedule.civil = { s.civil with tn := s.civil.nextJam } := by
  rw [State.reschedule, State.mapEntries_civil]

theorem State.reschedule_at (s : State) (i : Idx) :
    s.reschedule.entries[i] =
      if s.entries[i].state = .vacant then s.entries[i] else s.entries[i].withNextBase s.reschedule.civil := by
  rw [s.reschedule_civil, State.reschedule]
  simp only [Fin.getElem_fin, State.mapEntries_at]

theorem State.reschedule_unbased (s : State) (i : Idx) : s.reschedule.entries[i].unbased = s.entries[i].unbased := by
  rw [s.reschedule_at]
  split
  · rfl
  · exact Entry.withNextBase_unbased _ _

theorem State.reschedule_base (s : State) (i : Idx) : s.reschedule.entries[i].base = s.entries[i].base := by
  rw [s.reschedule_at]
  split
  · rfl
  · exact Entry.withNextBase_base _ _

theorem Entry.unbased_eq_iff {e e' : Entry} : e'.unbased = e.unbased ↔ e' = { e with base := e'.base, next := e'.next } := by
  constructor
  · intro h
    have h1 : e' = { e'.unbased with base := e'.base, next := e'.next } := rfl
    rw [h1, h]
    rfl
  · intro h
    rw [h]
    rfl

/-- A field of an entry that its bases do not hold. -/
theorem Entry.unbased_congr {α : Type} {e e' : Entry} (f : Entry → α) (hf : ∀ e : Entry, f e.unbased = f e) (h : e'.unbased = e.unbased) :
    f e' = f e := by
  rw [← hf, h, hf]

/-! ## The jam event (R60) -/

/-- The state at a jam before tn and the next bases are computed again. -/
def State.atJam (s : State) : State := { s with civil := s.civil.jammed }.mapEntries fun _ e => e.switch

theorem State.jam_eq (s : State) : s.jam = s.atJam.reschedule := rfl

theorem State.atJam_civil (s : State) : s.atJam.civil = s.civil.jammed := by rw [State.atJam, State.mapEntries_civil]

theorem State.atJam_at (s : State) (i : Idx) : s.atJam.entries[i] = s.entries[i].switch := by
  rw [State.atJam]
  simp only [Fin.getElem_fin, State.mapEntries_at]

theorem Entry.switch_base (e : Entry) : e.switch.base = if e.next = none then e.base else e.next := by
  unfold Entry.switch
  cases h : e.next <;> simp

theorem Entry.switch_unbased (e : Entry) : e.switch.unbased = e.unbased := by
  unfold Entry.switch
  split <;> rfl

theorem Civil.jammed_leap {c : Civil} {o : Int} {e : Nat} (h : c.pending = some (o, e)) :
    if e = c.tn then c.jammed.offset = o ∧ c.jammed.pending = none ∧ c.jammed.tL = some e
    else c.jammed.offset = c.offset ∧ c.jammed.pending = some (o, e) ∧ c.jammed.tL = c.tL := by
  by_cases he : e = c.tn <;> simp [Civil.jammed, h, he]

theorem Civil.jammed_daily {c : Civil} (h : c.pending = none) : c.jammed = { c with tB := c.tn } := by
  simp only [Civil.jammed, h]

theorem Civil.jammed_tB (c : Civil) : c.jammed.tB = c.tn := by
  unfold Civil.jammed
  (repeat' split) <;> rfl

theorem Civil.jammed_jam (c : Civil) : c.jammed.jam = c.jam := by
  unfold Civil.jammed
  (repeat' split) <;> rfl

/-- Settles O45: the switch of the bases, and the schedule computed from it. -/
theorem jamSwitchesBases : Obligations.JamSwitchesBases := by
  intro s hr
  have hexec : exec .jamEvent s = .next (if s.jamIsDue then s.jam else s) :=
    congrArg Host.Outcome.next (State.whenReleased_deasserted hr _)
  refine ⟨fun hlt => ?_, fun hle => ?_⟩
  · have hdue : ¬s.jamIsDue = true := by simpa [State.jamIsDue, second] using hlt
    rw [hexec, if_neg hdue]
  have hdue : s.jamIsDue = true := by simpa [State.jamIsDue, second] using hle
  have hc : s.jam.civil = { s.civil.jammed with tn := s.civil.jammed.nextJam } := by
    rw [s.jam_eq, State.reschedule_civil, s.atJam_civil]
  refine ⟨s.jam, by rw [hexec, if_pos hdue], ?_, ?_, fun o e hp => ?_, fun hp => ?_, ?_, fun i => ?_, s.jam_sameBut⟩
  · rw [hc]
    exact s.civil.jammed_tB
  · rw [hc]
    exact s.civil.jammed_jam
  · rw [hc]
    exact Civil.jammed_leap hp
  · rw [hc, Civil.jammed_daily hp]
    exact ⟨rfl, hp, rfl⟩
  · rw [hc]
    exact Civil.withNextJam_scheduled _
  · have hun : s.jam.entries[i].unbased = s.entries[i].unbased := by
      rw [s.jam_eq, State.reschedule_unbased, s.atJam_at, Entry.switch_unbased]
    refine ⟨?_, fun hst hl hn hd => ?_, hun⟩
    · rw [s.jam_eq, State.reschedule_base, s.atJam_at, Entry.switch_base]
    · have hun' : s.atJam.entries[i].unbased = s.entries[i].unbased := by rw [s.atJam_at, Entry.switch_unbased]
      have hst' : ¬s.atJam.entries[i].state = .vacant := by
        rwa [Entry.unbased_congr Entry.state (fun _ => rfl) hun']
      rw [s.jam_eq, State.reschedule_at, if_neg hst']
      refine Entry.withNextBase_nextLabelled _ ?_ ?_
      · rwa [Entry.unbased_congr Entry.num (fun _ => rfl) hun']
      · rwa [Entry.unbased_congr Entry.den (fun _ => rfl) hun']

/-! ## CIVIL (R56, R57) -/

section

variable {s : State} {o : Int} {j : Nat} {p : Option (Int × Nat)} {i : Idx}

theorem State.setCivil_same (ho : o = s.civil.offset) (hj : j = s.civil.jam) : s.setCivil o j = s := by
  rw [State.setCivil, if_pos ⟨ho, hj⟩]

/-- The state with O and J set and the leap instant gone, before the re-base. -/
def State.withCivil (s : State) (o : Int) (j : Nat) : State :=
  { s with civil := { s.civil with offset := o, jam := j, tL := none } }

theorem State.setCivil_new (h : ¬(o = s.civil.offset ∧ j = s.civil.jam)) :
    s.setCivil o j = (s.withCivil o j).rebase s.civil s.now := by
  rw [State.setCivil, if_neg h]
  rfl

theorem State.withCivil_moved (h : ¬(o = s.civil.offset ∧ j = s.civil.jam)) :
    s.civil.keepsBases ((s.withCivil o j).civil.rebased s.now) = false := by
  rw [Bool.eq_false_iff]
  intro hk
  obtain ⟨-, ho, hj⟩ := (Civil.keepsBases_iff _ _).1 hk
  exact h ⟨ho, hj⟩

theorem State.setCivil_offset : (s.setCivil o j).civil.offset = o := by
  by_cases h : o = s.civil.offset ∧ j = s.civil.jam
  · rw [State.setCivil_same h.1 h.2, h.1]
  · rw [State.setCivil_new h, State.rebase_civil]
    rfl

theorem State.setCivil_jam : (s.setCivil o j).civil.jam = j := by
  by_cases h : o = s.civil.offset ∧ j = s.civil.jam
  · rw [State.setCivil_same h.1 h.2, h.2]
  · rw [State.setCivil_new h, State.rebase_civil]
    rfl

theorem State.setCivil_change : (s.setCivil o j).civil.pending = s.civil.pending := by
  by_cases h : o = s.civil.offset ∧ j = s.civil.jam
  · rw [State.setCivil_same h.1 h.2]
  · rw [State.setCivil_new h, State.rebase_civil]
    rfl

theorem State.setCivil_now : (s.setCivil o j).now = s.now := by
  by_cases h : o = s.civil.offset ∧ j = s.civil.jam
  · rw [State.setCivil_same h.1 h.2]
  · rw [State.setCivil_new h, State.now, State.rebase_tb]
    rfl

/-- R57 step 1, R58: a new O or J drops the leap instant and re-bases. -/
theorem State.setCivil_based (h : ¬(o = s.civil.offset ∧ j = s.civil.jam)) :
    (s.setCivil o j).civil.tL = none ∧ (s.setCivil o j).civil.basedAt s.now := by
  rw [State.setCivil_new h, State.rebase_civil]
  exact ⟨rfl, Civil.rebased_basedAt _ _⟩

theorem State.setCivil_unbased : (s.setCivil o j).entries[i].unbased = s.entries[i].unbased := by
  by_cases h : o = s.civil.offset ∧ j = s.civil.jam
  · rw [State.setCivil_same h.1 h.2]
  · rw [State.setCivil_new h, State.rebase_unbased]
    rfl

theorem State.setCivil_labelled (h : ¬(o = s.civil.offset ∧ j = s.civil.jam)) (hst : s.entries[i].state ≠ .vacant)
    (hn : 0 < s.entries[i].num) (hd : 0 < s.entries[i].den) : (s.setCivil o j).entries[i].labelled (s.setCivil o j).civil := by
  rw [State.setCivil_new h, State.rebase_moved_at _ _ _ (State.withCivil_moved h), State.rebase_civil]
  have hat : (s.withCivil o j).entries[i] = s.entries[i] := rfl
  rw [hat, if_neg hst]
  exact Entry.withBases_labelled _ hn hd

theorem State.setPending_same (h : p = s.civil.pending) : s.setPending p = s := by
  rw [State.setPending, if_pos h]

theorem State.setPending_civil (h : p ≠ s.civil.pending) :
    (s.setPending p).civil = { s.civil with pending := p, tn := ({ s.civil with pending := p } : Civil).nextJam } := by
  rw [State.setPending, if_neg h, State.reschedule_civil]

theorem State.setPending_unbased : (s.setPending p).entries[i].unbased = s.entries[i].unbased := by
  by_cases h : p = s.civil.pending
  · rw [State.setPending_same h]
  · rw [State.setPending, if_neg h, State.reschedule_unbased]

theorem State.setPending_base : (s.setPending p).entries[i].base = s.entries[i].base := by
  by_cases h : p = s.civil.pending
  · rw [State.setPending_same h]
  · rw [State.setPending, if_neg h, State.reschedule_base]

theorem State.setPending_change : (s.setPending p).civil.pending = p := by
  by_cases h : p = s.civil.pending
  · rw [State.setPending_same h, h]
  · rw [State.setPending_civil h]

/-- A pending change moves of the settings itself and tn alone. -/
theorem State.setPending_civil_kept :
    (s.setPending p).civil = { s.civil with pending := p, tn := (s.setPending p).civil.tn } := by
  by_cases h : p = s.civil.pending
  · rw [State.setPending_same h, h]
  · rw [State.setPending_civil h]

theorem State.setPending_scheduled (h : p ≠ s.civil.pending) : (s.setPending p).civil.scheduled := by
  rw [State.setPending_civil h]
  exact Civil.withNextJam_scheduled { s.civil with pending := p }

theorem State.setPending_nextLabelled (h : p ≠ s.civil.pending) (hst : s.entries[i].state ≠ .vacant)
    (hn : 0 < s.entries[i].num) (hd : 0 < s.entries[i].den) :
    (s.setPending p).entries[i].nextLabelled (s.setPending p).civil := by
  rw [State.setPending, if_neg h, State.reschedule_at]
  rw [if_neg hst]
  exact Entry.withNextBase_nextLabelled _ hn hd

/-- R57 step 3: a re-base that a new pending change follows stands as a re-base. -/
theorem State.setPending_basedAt {r : Int} (h : s.civil.basedAt r) : (s.setPending p).civil.basedAt r := by
  by_cases hp : p = s.civil.pending
  · rw [State.setPending_same hp]
    exact h
  · refine ⟨?_, State.setPending_scheduled hp⟩
    rw [State.setPending_civil_kept]
    exact h.1

/-- R63: a labelled entry is labelled by the schedule computed anew. -/
theorem State.setPending_labelled (h : s.entries[i].labelled s.civil) (hst : s.entries[i].state ≠ .vacant)
    (hn : 0 < s.entries[i].num) (hd : 0 < s.entries[i].den) : (s.setPending p).entries[i].labelled (s.setPending p).civil := by
  by_cases hp : p = s.civil.pending
  · rw [State.setPending_same hp]
    exact h
  · refine ⟨?_, State.setPending_nextLabelled hp hst hn hd⟩
    obtain ⟨m, hm⟩ := Entry.withNextBase_eq s.entries[i] (s.setPending p).civil
    have hat : (s.setPending p).entries[i] = { s.entries[i] with next := m } := by
      rw [← hm, State.setPending, if_neg hp, State.reschedule_at]
      exact if_neg hst
    rw [hat, State.setPending_civil_kept]
    exact h.1

end

/-- The change that CIVIL leaves pending where `old` was. -/
theorem PendingAction.apply_eq (a : PendingAction) (old : Option (Int × Nat)) :
    PendingAction.apply a old = match a with
      | .set o e => some (clampInt (-86400) 86400 o, e)
      | .cancel => none
      | _ => old := by
  cases a <;> rfl

theorem CivilReq.bad_iff (q : CivilReq) (t : Nat) : CivilReq.bad q t = true ↔
    (∃ c, q.action = .other c) ∨ ∃ o e, q.action = .set o e ∧ (281474976710656 ≤ e ∨ e * 1000000000 ≤ t) := by
  cases h : q.action <;> simp [CivilReq.bad, h, secondsWrap, second]

/-- A value present in a request is not moved by `f` exactly when the value taken, `old` where none is present, is it. -/
theorem option_any_ne_false {α : Type} [DecidableEq α] (q : Option α) (f : α → α) (old : α) :
    q.any (fun x => f x ≠ x) = false ↔ ∀ x, q = some x → (q.map f).getD old = x := by
  cases q with
  | none => simp
  | some y =>
    change decide (f y ≠ y) = false ↔ _
    rw [decide_eq_false_iff_not, not_not]
    exact ⟨fun h x hx => Option.some.inj hx ▸ h, fun h => h y rfl⟩

/-- The offset of a new pending change was clamped. -/
def PendingAction.clamped : PendingAction → Bool
  | .set o' _ => decide (clampOffset o' ≠ o')
  | _ => false

theorem CivilReq.clamped_eq (q : CivilReq) : CivilReq.clamped q =
    (q.offset.any (fun x => clampOffset x ≠ x) || q.jam.any (fun x => clampJam x ≠ x) || PendingAction.clamped q.action) := rfl

theorem PendingAction.clamped_iff (a : PendingAction) (old : Option (Int × Nat)) :
    PendingAction.clamped a = false ↔ ∀ x e, a = .set x e → PendingAction.apply a old = some (x, e) := by
  cases a with
  | set x e =>
    change decide (clampOffset x ≠ x) = false ↔ _
    rw [decide_eq_false_iff_not, not_not]
    exact ⟨fun h y f hy => by obtain ⟨rfl, rfl⟩ := PendingAction.set.inj hy; rw [PendingAction.apply, h],
      fun h => (Prod.mk.inj (Option.some.inj (h x e rfl))).1⟩
  | keep => simp [PendingAction.clamped]
  | cancel => simp [PendingAction.clamped]
  | other c => simp [PendingAction.clamped]

theorem CivilReq.clamped_iff (q : CivilReq) (o : Int) (j : Nat) (old : Option (Int × Nat)) :
    CivilReq.clamped q = false ↔
      (∀ x, q.offset = some x → (q.offset.map (clampInt (-86400) 86400)).getD o = x)
      ∧ (∀ x, q.jam = some x → (q.jam.map (clampNat 0 86399)).getD j = x)
      ∧ ∀ x e, q.action = .set x e → PendingAction.apply q.action old = some (x, e) := by
  rw [Machine.CivilReq.clamped_eq, Bool.or_eq_false_iff, Bool.or_eq_false_iff, and_assoc,
    Machine.PendingAction.clamped_iff q.action old]
  exact and_congr (option_any_ne_false q.offset _ o) (and_congr (option_any_ne_false q.jam _ j) Iff.rfl)

/-- Settles O41: the settings are taken in two steps, O and J with a re-base and the pending change with a new schedule. -/
theorem civilTakesSettings : Obligations.CivilTakesSettings := by
  intro s t q hs
  have hans {s2 : State} {st : Status} {b : Body} (h : civilReply q s = (s2, some (st, b))) :
      exec (.civil .mgmt t q) s = .next (s2.reply .mgmt t (.civil q) st b) :=
    exec_reply (r := .civil q) hs h
  refine ⟨fun hbad => hans ?_, fun hother hahead => ?_⟩
  · rw [civilReply, if_pos ((Machine.CivilReq.bad_iff q s.now).2 hbad)]
    rfl
  intro o' j' p'
  have hgood : ¬CivilReq.bad q s.now = true := fun h => by
    obtain ⟨c, hc⟩ | ⟨o, e, ha, h⟩ := (Machine.CivilReq.bad_iff q s.now).1 h
    · exact hother c hc
    · have := hahead o e ha
      omega
  have hp : PendingAction.apply q.action s.civil.pending = p' := PendingAction.apply_eq _ _
  have happly : s.applyCivil q = (s.setCivil o' j').setPending p' := by
    rw [← hp, State.applyCivil, State.setCivil_change]
    rfl
  have hreply : civilReply q s
      = (s.applyCivil q, some (okOr (CivilReq.clamped q), .civil (s.applyCivil q).civilView)) := by
    rw [civilReply, if_neg hgood]
  rw [happly] at hreply
  have hkept := State.setPending_civil_kept (s := s.setCivil o' j') (p := p')
  have hun (i : Idx) : ((s.setCivil o' j').setPending p').entries[i].unbased = s.entries[i].unbased :=
    State.setPending_unbased.trans State.setCivil_unbased
  set s1 := s.setCivil o' j' with hs1
  set s' := s1.setPending p' with hs'
  have hoff : s'.civil.offset = o' := by
    rw [hkept]
    exact State.setCivil_offset
  have hjam : s'.civil.jam = j' := by
    rw [hkept]
    exact State.setCivil_jam
  have hpen : s'.civil.pending = p' := State.setPending_change
  have htB : s'.civil.tB = s1.civil.tB := by rw [hkept]
  have htL : s'.civil.tL = s1.civil.tL := by rw [hkept]
  have hview : s'.civilView = { offset := o', jam := j', pending := p', tB := s'.civil.tB, tn := s'.civil.tn } := by
    rw [State.civilView, hoff, hjam, hpen]
  rw [hview] at hreply
  have hst : (okOr (CivilReq.clamped q) = .ok ∨ okOr (CivilReq.clamped q) = .clamped) ∧
      (okOr (CivilReq.clamped q) = .ok ↔ CivilReq.clamped q = false) := by
    cases CivilReq.clamped q <;> decide
  have hclamped := Machine.CivilReq.clamped_iff q s.civil.offset s.civil.jam s.civil.pending
  rw [hp] at hclamped
  refine ⟨s', _, hans hreply, hst.1, hst.2.trans hclamped, hoff, hjam, hpen, fun ho hj => ?_, fun hnew => ?_, fun hnew => ?_,
    hun, fun i hlive hn hd => ⟨fun hnew => ?_, fun ho hj => ⟨?_, fun hpnew => ?_⟩⟩, ?_⟩
  · have h1 : s1 = s := State.setCivil_same ho hj
    refine ⟨by rw [htB, h1], by rw [htL, h1], fun hsame => ?_⟩
    rw [hs', h1]
    exact State.setPending_same hsame
  · obtain ⟨hgone, hbased⟩ := State.setCivil_based hnew
    exact ⟨htL.trans hgone, State.setPending_basedAt hbased⟩
  · by_cases hpnew : p' = s1.civil.pending
    · have hsame : s' = s1 := State.setPending_same hpnew
      have hoj : ¬(o' = s.civil.offset ∧ j' = s.civil.jam) := fun h =>
        hnew ⟨h.1, h.2, hpnew.trans State.setCivil_change⟩
      rw [hsame]
      exact (State.setCivil_based hoj).2.2
    · exact State.setPending_scheduled hpnew
  · have hs1un : s1.entries[i].unbased = s.entries[i].unbased := State.setCivil_unbased
    refine State.setPending_labelled (State.setCivil_labelled hnew hlive hn hd) ?_ ?_ ?_
    · rwa [Entry.unbased_congr Entry.state (fun _ => rfl) hs1un]
    · rwa [Entry.unbased_congr Entry.num (fun _ => rfl) hs1un]
    · rwa [Entry.unbased_congr Entry.den (fun _ => rfl) hs1un]
  · have h1 : s1 = s := State.setCivil_same ho hj
    rw [hs', State.setPending_base, h1]
  · have h1 : s1 = s := State.setCivil_same ho hj
    rw [hs', h1]
    exact State.setPending_nextLabelled hpnew hlive hn hd
  · have h1 : s1.sameBut [.civil, .entries] s' := s1.setPending_sameBut p'
    exact ((s.setCivil_sameBut o' j').trans h1).mono (by decide)

end Sys2Proof.Machine

/-! PROOFS. What an event at one entry leaves of the table, the stations and the outputs (R17, R20, R42 to R51, R113, R156):
O28, O29. -/

namespace Sys2Proof.Machine

open Sys2Proof Config

/-! ## An event at entry `i`, before its notice and its end check -/

/-- R7: no notice has left a notice set. -/
def State.noticesGrow (s u : State) : Prop :=
  (∀ (x : Addr) (j : Idx), j ∈ s.stations[x].notices → j ∈ u.stations[x].notices) ∧ ∀ j : Idx, j ∈ s.mgmtNotices → j ∈ u.mgmtNotices

theorem State.noticesGrow.refl (s : State) : s.noticesGrow s := ⟨fun _ _ h => h, fun _ h => h⟩

theorem State.noticesGrow.trans {s u v : State} (h : s.noticesGrow u) (h' : u.noticesGrow v) : s.noticesGrow v :=
  ⟨fun x j hj => h'.1 x j (h.1 x j hj), fun j hj => h'.2 j (h.2 j hj)⟩

theorem State.noticesGrow.of_eq {s u : State} (hs : ∀ x : Addr, u.stations[x].notices = s.stations[x].notices)
    (hm : u.mgmtNotices = s.mgmtNotices) : s.noticesGrow u :=
  ⟨fun x _ h => (hs x).symm ▸ h, fun _ h => hm.symm ▸ h⟩

theorem State.notify_noticesGrow (s : State) (i : Idx) : s.noticesGrow (s.notify i) := by
  refine ⟨fun x j hj => ?_, fun j hj => ?_⟩
  · have h1 : (s.notify i).stations[x] = _ := s.notify_at i x
    rw [h1]
    dsimp only
    split
    · exact (mem_insertIdx _ _ _).2 (.inr hj)
    · exact hj
  · rw [s.notify_mgmtNotices]
    split
    · exact (mem_insertIdx _ _ _).2 (.inr hj)
    · exact hj

theorem State.retire_noticesGrow (s : State) (i : Idx) : s.noticesGrow (s.retire i) := by
  by_cases hv : s.entries[i].state = .vacant
  · rw [State.retire_vacant hv]
    exact .refl s
  refine ⟨fun x j hj => ?_, fun j hj => ?_⟩
  · have h1 : (s.retire i).stations[x] = _ := State.retire_stations_at hv x
    rw [h1]
    dsimp only
    split
    · exact (mem_insertIdx _ _ _).2 (.inr hj)
    · exact hj
  · rw [State.retire_mgmtNotices hv]
    split
    · exact (mem_insertIdx _ _ _).2 (.inr hj)
    · exact hj

/-- State `u` is `s` with entry `i` become `m`, the streams on it what `f` makes of them under their stations' path delays, and
the outputs bound to it what `g` makes of them. -/
structure State.Drafted (s u : State) (i : Idx) (m : Entry) (f : Stream → Option Nat → Stream) (g : Output → Output) : Prop where
  streamKept : ∀ st delta, (f st delta).entry = st.entry
  boundKept : ∀ o, (g o).binding = o.binding
  entry : u.entries[i] = m
  others : ∀ j : Idx, j ≠ i → u.entries[j] = s.entries[j]
  stations : ∀ x : Addr, u.stations[x] = { s.stations[x] with
    notices := u.stations[x].notices
    stream := s.stations[x].stream.map fun st => if st.entry.index = i then f st s.stations[x].delta else st }
  bound : ∀ o : OutNo, s.outs[o].boundTo i = true → u.outs[o] = g s.outs[o]
  free : ∀ o : OutNo, s.outs[o].boundTo i = false → u.outs[o] = s.outs[o]
  notices : s.noticesGrow u
  same : s.sameBut [.entries, .stations, .outs, .mgmtNotices, .attn] u

theorem Output.boundTo_congr {a b : Output} (h : a.binding = b.binding) (i : Idx) : a.boundTo i = b.boundTo i := by
  rw [Output.boundTo, Output.boundTo, h]

theorem Stream.choose_entry (st : Stream) (e : Entry) (delta : Option Nat) (t : Int) (above : Option Nat) (counted : Bool) :
    (st.choose e delta t above counted).entry = st.entry := by
  obtain ⟨k, a, n, h⟩ := st.choose_keeps e delta t above counted
  rw [h]

theorem Stream.replan_entry (st : Stream) (how : Replan) (e : Entry) (delta : Option Nat) (t : Int) :
    (st.replan how e delta t).entry = st.entry := by
  cases how with
  | snapped => exact st.choose_entry e delta t none false
  | restarted => exact Stream.choose_entry _ e delta t none true
  | recompute old =>
    simp only [Stream.replan]
    (repeat' split) <;> simp only [Stream.choose_entry]

section

variable {s u v : State} {i : Idx} {m m' : Entry} {f f' : Stream → Option Nat → Stream} {g g' : Output → Output}

theorem Station.stream_map_kept (r : Station) : r.stream.map (fun st => if st.entry.index = i then st else st) = r.stream := by
  cases r.stream <;> simp

theorem State.Drafted.of_entry (s : State) (i : Idx) (m : Entry) : s.Drafted (s.setEntry i m) i m (fun st _ => st) id where
  streamKept _ _ := rfl
  boundKept _ := rfl
  entry := s.setEntry_at i m
  others j hj := s.setEntry_ne i j m hj
  stations x := by
    simp only [State.setEntry_stations, Station.stream_map_kept]
  bound _ _ := rfl
  free _ _ := rfl
  notices := .refl s
  same := (s.setEntry_sameBut i m).mono (by decide)

theorem State.Drafted.refl (s : State) (i : Idx) : s.Drafted s i s.entries[i] (fun st _ => st) id where
  streamKept _ _ := rfl
  boundKept _ := rfl
  entry := rfl
  others _ _ := rfl
  stations x := by
    simp only [Station.stream_map_kept]
  bound _ _ := rfl
  free _ _ := rfl
  notices := .refl s
  same := .refl s _

theorem State.Drafted.boundTo (h : s.Drafted u i m f g) (o : OutNo) : u.outs[o].boundTo i = s.outs[o].boundTo i := by
  cases hb : s.outs[o].boundTo i with
  | false => rw [h.free o hb, hb]
  | true => rw [h.bound o hb, Output.boundTo_congr (h.boundKept _), hb]

theorem State.Drafted.delta (h : s.Drafted u i m f g) (x : Addr) : u.stations[x].delta = s.stations[x].delta := by
  rw [h.stations x]

theorem State.Drafted.trans (h : s.Drafted u i m f g) (h' : u.Drafted v i m' f' g') :
    s.Drafted v i m' (fun st delta => f' (f st delta) delta) (g' ∘ g) where
  streamKept st delta := (h'.streamKept _ _).trans (h.streamKept _ _)
  boundKept o := (h'.boundKept _).trans (h.boundKept _)
  entry := h'.entry
  others j hj := (h'.others j hj).trans (h.others j hj)
  stations x := by
    have h1 := h.stations x
    rw [h'.stations x, h.delta x, h1]
    cases s.stations[x].stream with
    | none => rfl
    | some st =>
      by_cases hst : st.entry.index = i
      · simp [hst, h.streamKept]
      · simp [hst]
  bound o ho := by rw [h'.bound o ((h.boundTo o).trans ho), h.bound o ho, Function.comp]
  free o ho := by rw [h'.free o ((h.boundTo o).trans ho), h.free o ho]
  notices := h.notices.trans h'.notices
  same := (h.same.trans h'.same).mono (by decide)

theorem State.Drafted.setEntry (h : s.Drafted u i m f g) (m' : Entry) : s.Drafted (u.setEntry i m') i m' f g :=
  h.trans (.of_entry u i m')

/-- R156: a replanning of the streams on the entry. -/
theorem State.Drafted.of_replan (s : State) (i : Idx) (how : Replan) (t : Int) :
    s.Drafted (s.replan i how t) i s.entries[i] (fun st delta => st.replan how s.entries[i] delta t) id where
  streamKept st delta := st.replan_entry how _ delta t
  boundKept _ := rfl
  entry := by rw [State.replan_entries]
  others j _ := by rw [State.replan_entries]
  stations x := by
    simp only [Fin.getElem_fin, State.replan_at]
  bound o _ := by rw [State.replan_outs, id]
  free o _ := by rw [State.replan_outs]
  notices := .of_eq (fun x => by simp only [Fin.getElem_fin, State.replan_at])
    (s.replan_sameBut i how t .mgmtNotices (by decide))
  same := (s.replan_sameBut i how t).mono (by decide)

theorem State.Drafted.replan (h : s.Drafted u i m f g) (how : Replan) (t : Int) :
    s.Drafted (u.replan i how t) i m (fun st delta => (f st delta).replan how m delta t) g := by
  have h1 := State.Drafted.of_replan u i how t
  rw [h.entry] at h1
  exact h.trans h1

/-- A change of every output bound to the entry. -/
theorem State.Drafted.of_bound (s : State) (i : Idx) (hg : ∀ o, (g o).binding = o.binding) :
    s.Drafted (s.mapOutputs fun o => if o.boundTo i then g o else o) i s.entries[i] (fun st _ => st) g where
  streamKept _ _ := rfl
  boundKept := hg
  entry := by rw [State.mapOutputs_entries]
  others j _ := by rw [State.mapOutputs_entries]
  stations x := by
    simp only [State.mapOutputs_stations, Station.stream_map_kept]
  bound o ho := by
    simp only [Fin.getElem_fin, State.mapOutputs_at]
    exact if_pos ho
  free o ho := by
    simp only [Fin.getElem_fin, State.mapOutputs_at]
    exact if_neg (by simpa using ho)
  notices := .of_eq (fun x => by rw [State.mapOutputs_stations]) (State.mapOutputs_mgmtNotices _ _)
  same := (s.mapOutputs_sameBut _).mono (by decide)

theorem State.Drafted.shiftPulses (h : s.Drafted u i m f g) (delta t : Int) :
    s.Drafted (u.shiftPulses i delta t) i m f (fun o => (g o).shift delta t) := by
  have h1 := State.Drafted.of_bound (g := fun o => o.shift delta t) u i fun _ => rfl
  rw [h.entry] at h1
  exact h.trans h1

theorem State.Drafted.stopPulses (h : s.Drafted u i m f g) :
    s.Drafted (u.stopPulses i) i m f (fun o => (g o).discard) := by
  have h1 := State.Drafted.of_bound (g := Output.discard) u i fun _ => rfl
  rw [h.entry] at h1
  exact h.trans h1

theorem State.Drafted.notify (h : s.Drafted u i m f g) : s.Drafted (u.notify i) i m f g where
  streamKept := h.streamKept
  boundKept := h.boundKept
  entry := by rw [State.notify_entries, h.entry]
  others j hj := by rw [State.notify_entries, h.others j hj]
  stations x := by
    have h1 := h.stations x
    have h2 : (u.notify i).stations[x] = { u.stations[x] with notices := (u.notify i).stations[x].notices } := by
      simp only [Fin.getElem_fin, State.notify_at]
    rw [h2, h1]
  bound o ho := by rw [State.notify_outs, h.bound o ho]
  free o ho := by rw [State.notify_outs, h.free o ho]
  notices := h.notices.trans (u.notify_noticesGrow i)
  same := (h.same.trans (u.notify_sameBut i)).mono (by decide)

/-! ### A snap, and an offset that the policy absorbs (R42, R44, R45) -/

/-- R112, R113: an output bound to an entry that snaps to `m` at `r`, its φ + ε moved by `delta`. -/
def Output.atSnap (o : Output) (m : Entry) (delta r : Int) : Output :=
  if m.motion = .pending then (o.shift delta r).discard else o.shift delta r

theorem State.Drafted.snap (h : s.Drafted u i m f g) (delta r : Int) :
    s.Drafted (u.snap i delta r) i (m.snapped r) (fun st d => (f st d).replan .snapped (m.snapped r) d r)
      (fun o => (g o).atSnap (m.snapped r) delta r) := by
  have h1 := (h.shiftPulses delta r).setEntry (m.snapped r)
  unfold State.snap
  dsimp only
  rw [h.entry]
  by_cases hp : (m.snapped r).motion = .pending
  · simp only [if_pos hp, Output.atSnap]
    exact h1.stopPulses.replan .snapped r
  · simp only [if_neg hp, Output.atSnap]
    exact h1.replan .snapped r

/-- R44, R45, R48: a change `d` of the carried offset of entry `e` makes it snap. -/
def Entry.snapsBy (e : Entry) (d : Int) : Prop := e.policy = .snap ∨ inOffsetRange (e.eps + d) = false

theorem Entry.snapsBy_iff (e : Entry) (d : Int) :
    e.snapsBy d ↔ e.policy = .snap ∨ e.eps + d < -9223372036854775808 ∨ 9223372036854775807 < e.eps + d := by
  have h : inOffsetRange (e.eps + d) = false ↔ e.eps + d < -9223372036854775808 ∨ 9223372036854775807 < e.eps + d := by
    simp only [inOffsetRange, Bool.and_eq_false_iff, decide_eq_false_iff_not, not_le]
    norm_num
  rw [Entry.snapsBy, h]

/-- R44, R45: the entry with its offset changed by `d`, its motion that which its policy gives. -/
def Entry.carrying (e : Entry) (range : Nat) (d : Int) : Entry :=
  { e with eps := e.eps + d }.withMotion
    (if e.policy = Policy.slew then slewMotion range (e.eps + d) else holdMotion (e.eps + d))

theorem State.Drafted.moveOffset_snaps (h : s.Drafted u i m f g) (old : Entry) {d : Int} (moved snapDelta r : Int)
    (hs : m.snapsBy d) :
    s.Drafted (u.moveOffset i old d moved snapDelta r) i (m.snapped r)
      (fun st x => (f st x).replan .snapped (m.snapped r) x r) (fun o => (g o).atSnap (m.snapped r) snapDelta r) := by
  have hs' : u.entries[i].policy = .snap ∨ inOffsetRange (u.entries[i].eps + d) = false := by rwa [h.entry]
  rw [State.moveOffset, if_pos hs']
  exact h.snap snapDelta r

theorem State.Drafted.moveOffset_absorbs (h : s.Drafted u i m f g) (old : Entry) {d : Int} (moved snapDelta r : Int)
    (hs : ¬m.snapsBy d) :
    s.Drafted (u.moveOffset i old d moved snapDelta r) i (m.carrying u.servo.params.slewRange d)
      (fun st x => (f st x).replan (.recompute old) (m.carrying u.servo.params.slewRange d) x r)
      (fun o => (g o).shift moved r) := by
  have hs' : ¬(u.entries[i].policy = .snap ∨ inOffsetRange (u.entries[i].eps + d) = false) := by rwa [h.entry]
  rw [State.moveOffset, if_neg hs']
  have h1 := ((h.shiftPulses moved r).setEntry (m.carrying u.servo.params.slewRange d)).replan (.recompute old) r
  dsimp only
  rw [h.entry]
  exact h1

/-! ## The end check, and what the event leaves (R17, R20) -/

/-- What an event at entry `i` has left in `s'` of `s`: the entry retired where `gone` holds and is `m` elsewhere, with the
streams and the outputs as in `Drafted`. -/
structure State.Settled (s s' : State) (i : Idx) (m : Entry) (f : Stream → Option Nat → Stream) (g : Output → Output)
    (gone : Prop) : Prop where
  entryGone : gone → s'.entries[i] = Entry.vacantAt (s.entries[i].gen + 1)
  entryKept : ¬gone → s'.entries[i] = m
  others : ∀ j : Idx, j ≠ i → s'.entries[j] = s.entries[j]
  stations : s.leftStations s' i gone f
  boundGone : gone → ∀ o : OutNo, s.outs[o].boundTo i = true → s'.outs[o] = (g s.outs[o]).unbind
  boundKept : ¬gone → ∀ o : OutNo, s.outs[o].boundTo i = true → s'.outs[o] = g s.outs[o]
  free : ∀ o : OutNo, s.outs[o].boundTo i = false → s'.outs[o] = s.outs[o]
  chainKept : ¬gone → s'.chain = s.chain
  notices : s.noticesGrow s'
  same : s.sameBut [.entries, .stations, .outs, .chain, .mgmtNotices, .attn] s'

/-- Entry `m` has the ties that `e` had. -/
def Entry.tiedAs (m e : Entry) : Prop := m.gen = e.gen ∧ m.owner = e.owner ∧ m.watchers = e.watchers ∧ m.mgmtWatch = e.mgmtWatch

theorem State.Drafted.settled (h : s.Drafted u i m f g) {gone : Prop} (hg : ¬gone) : s.Settled u i m f g gone where
  entryGone hc := absurd hc hg
  entryKept _ := h.entry
  others := h.others
  stations x := ⟨fun hc => absurd hc hg, fun _ => h.stations x⟩
  boundGone hc := absurd hc hg
  boundKept _ := h.bound
  free := h.free
  chainKept _ := h.same .chain (by decide)
  notices := h.notices
  same := h.same.mono (by decide)

theorem State.Drafted.streams (h : s.Drafted u i m f g) (x : Addr) : u.stations[x].streams i = s.stations[x].streams i := by
  rw [h.stations x]
  simp only [Station.streams]
  cases s.stations[x].stream with
  | none => rfl
  | some st => by_cases hst : st.entry.index = i <;> simp [hst, h.streamKept]

theorem Station.streams_false {r : Station} (h : ¬r.streams i = true) (k : Stream → Stream) :
    r.stream.map (fun st => if st.entry.index = i then k st else st) = r.stream := by
  cases hr : r.stream with
  | none => rfl
  | some st =>
    have hst : ¬st.entry.index = i := by simpa [Station.streams, hr] using h
    simp [hst]

theorem State.Drafted.retire (h : s.Drafted u i m f g) (hm : m.state ≠ .vacant) (ht : m.tiedAs s.entries[i]) {gone : Prop}
    (hg : gone) : s.Settled (u.retire i) i m f g gone := by
  obtain ⟨hgen, howner, hwatchers, -⟩ := ht
  have hlive : u.entries[i].state ≠ .vacant := by rwa [h.entry]
  refine ⟨fun _ => ?_, fun hc => absurd hg hc, fun j hj => ?_, fun x => ⟨fun _ => ?_, fun hc => absurd hg hc⟩, fun _ o ho => ?_,
    fun hc => absurd hg hc, fun o ho => ?_, fun hc => absurd hg hc, h.notices.trans (u.retire_noticesGrow i), ?_⟩
  · have hgen' : u.entries[i].gen = s.entries[i].gen := by rw [h.entry, hgen]
    exact (State.retire_same hlive).trans (by rw [hgen'])
  · exact (State.retire_ne hj).trans (h.others j hj)
  · have h1 : (u.retire i).stations[x] = _ := State.retire_stations_at hlive x
    obtain ⟨n, hn⟩ : ∃ n, u.stations[x] = { s.stations[x] with
        notices := n
        stream := s.stations[x].stream.map fun st => if st.entry.index = i then f st s.stations[x].delta else st } :=
      ⟨_, h.stations x⟩
    rw [h.streams x, h.entry, hwatchers, howner] at h1
    rw [h1, hn]
    by_cases hst : s.stations[x].streams i = true
    · simp only [if_pos hst]
    · simp only [if_neg hst, Station.streams_false hst]
  · have h1 := State.retire_outs_at hlive o
    rw [h.boundTo o, if_pos ho, h.bound o ho] at h1
    exact h1
  · have h1 := State.retire_outs_at hlive o
    rw [h.boundTo o, ho, h.free o ho] at h1
    exact h1
  · exact (h.same.trans (u.retire_sameBut i)).mono (by decide)

/-- R20: the entry after an end check that has not retired it. -/
def Entry.checked (m : Entry) : Entry :=
  match m.state, m.endAt with
  | .ending, some _ => { m with endTaken := false }
  | _, _ => m

theorem Entry.checked_ending {x : Nat} (hs : m.state = .ending) (hx : m.endAt = some x) :
    m.checked = { m with endTaken := false } := by
  rw [Entry.checked, hs, hx]

theorem Entry.checked_free (h : ¬(m.state = .ending ∧ ∃ x, m.endAt = some x)) : m.checked = m := by
  unfold Entry.checked
  split
  · next x hs hx => exact absurd ⟨hs, _, hx⟩ h
  · rfl

/-- The end check moves of the entry the flag of the model alone. -/
theorem Entry.checked_eq (m : Entry) : m.checked = { m with endTaken := m.checked.endTaken } := by
  by_cases h : m.state = .ending ∧ ∃ x, m.endAt = some x
  · obtain ⟨hs, x, hx⟩ := h
    rw [Entry.checked_ending hs hx]
  · rw [Entry.checked_free h]

theorem State.endCheck_free (h : ¬(s.entries[i].state = .ending ∧ ∃ x, s.entries[i].endAt = some x)) :
    s.endCheck i = s := by
  unfold State.endCheck
  dsimp only
  split
  · next x hs hx => exact absurd ⟨hs, _, hx⟩ h
  · rfl

theorem Entry.endsAt_now_iff {x t : Nat} (hs : m.state = .ending) (hx : m.endAt = some x) :
    m.endsAt t False ↔ (x : Int) < m.applied m.nextMark ∧ x ≤ t := by
  simp only [Entry.endsAt, hs, hx, true_and, false_or, Option.some.injEq, exists_eq_left', Int.ofNat_le]
  exact and_comm

theorem State.endCheck_gone (h : s.entries[i].endsAt s.now False) : s.endCheck i = s.retire i := by
  obtain ⟨hs, x, hx, -⟩ := id h
  have hc := (Entry.endsAt_now_iff hs hx).1 h
  simp only [State.endCheck, hs, hx]
  exact if_pos hc

theorem State.endCheck_kept {x : Nat} (hs : s.entries[i].state = .ending) (hx : s.entries[i].endAt = some x)
    (h : ¬s.entries[i].endsAt s.now False) : s.endCheck i = s.setEntry i { s.entries[i] with endTaken := false } := by
  have hc := fun hc => h ((Entry.endsAt_now_iff hs hx).2 hc)
  have he : s.endCheck i = if (x : Int) < s.entries[i].applied s.entries[i].nextMark ∧ x ≤ s.now then s.retire i
      else s.setEntry i { s.entries[i] with endTaken := false } := by
    unfold State.endCheck
    dsimp only
    rw [hs, hx]
  rw [he, if_neg hc]

theorem State.Drafted.now (h : s.Drafted u i m f g) : u.now = s.now := by
  have htb : u.tb = s.tb := h.same .tb (by decide)
  rw [State.now, State.now, htb]

theorem State.Drafted.endCheck (h : s.Drafted u i m f g) (hm : m.state ≠ .vacant) (ht : m.tiedAs s.entries[i]) :
    s.Settled (u.endCheck i) i m.checked f g (m.endsAt s.now False) := by
  by_cases he : m.state = .ending ∧ ∃ x, m.endAt = some x
  · obtain ⟨hs, x, hx⟩ := he
    rw [Entry.checked_ending hs hx]
    by_cases hgone : m.endsAt s.now False
    · have hret := h.retire hm ht hgone
      rw [State.endCheck_gone (by rwa [h.entry, h.now])]
      exact { hret with entryKept := fun hc => absurd hgone hc }
    · rw [State.endCheck_kept (x := x) (by rwa [h.entry]) (by rwa [h.entry]) (by rwa [h.entry, h.now]), h.entry]
      exact (h.setEntry _).settled hgone
  · have hgone : ¬m.endsAt s.now False := fun ⟨hs, x, hx, _⟩ => he ⟨hs, x, hx⟩
    rw [State.endCheck_free (by rwa [h.entry]), Entry.checked_free he]
    exact h.settled hgone

/-! ## Notices (R7, R8) -/

/-- R7: the watchers of an entry `e` of index `i`, the management owner among them by its flag, have their notice. -/
def State.noted (s : State) (i : Idx) (e : Entry) : Prop :=
  (∀ y ∈ e.watchers, i ∈ s.stations[y].notices) ∧ (e.mgmtWatch = true → i ∈ s.mgmtNotices)

theorem State.notify_noted (s : State) (i : Idx) : (s.notify i).noted i s.entries[i] := by
  refine ⟨fun y hy => ?_, fun hw => ?_⟩
  · have h1 : (s.notify i).stations[y] = _ := s.notify_at i y
    rw [h1]
    simp only [if_pos hy, mem_insertIdx, true_or]
  · rw [s.notify_mgmtNotices, if_pos hw]
    exact (mem_insertIdx _ _ _).2 (.inl rfl)

theorem State.noted.grow {s u : State} {i : Idx} {e : Entry} (h : s.noted i e) (hg : s.noticesGrow u) : u.noted i e :=
  ⟨fun y hy => hg.1 y i (h.1 y hy), fun hw => hg.2 i (h.2 hw)⟩

theorem State.endCheck_noticesGrow (s : State) (j : Idx) : s.noticesGrow (s.endCheck j) := by
  unfold State.endCheck
  dsimp only
  split
  · split
    · exact s.retire_noticesGrow j
    · exact .refl s
  · exact .refl s

theorem State.noted.endCheck {e : Entry} (h : s.noted i e) (j : Idx) : (s.endCheck j).noted i e :=
  h.grow (s.endCheck_noticesGrow j)

/-- R7: the notice of an event that keeps the entry's ties. -/
theorem State.Drafted.noted (h : s.Drafted u i m f g) (ht : m.tiedAs s.entries[i]) : (u.notify i).noted i s.entries[i] := by
  obtain ⟨-, -, hw, hm⟩ := ht
  have hn := u.notify_noted i
  rw [h.entry] at hn
  exact ⟨fun y hy => hn.1 y (hw ▸ hy), fun hc => hn.2 (hm ▸ hc)⟩

end

/-! ## The entry and the outputs through an event -/

/-- `m` is a living entry with the ties, the end instant and the end-taken flag of `e`, ENDING when `e` is. -/
structure Entry.outlives (m e : Entry) : Prop where
  tied : m.tiedAs e
  live : m.state ≠ .vacant
  endAt : m.endAt = e.endAt
  endTaken : m.endTaken = e.endTaken
  ending : m.state = .ending ↔ e.state = .ending

theorem Motion.toState_live (m : Motion) : m.toState ≠ .vacant ∧ m.toState ≠ .ending := by
  cases m <;> decide

theorem Entry.withMotion_outlives (e : Entry) (m : Motion) : (e.withMotion m).outlives e where
  tied := ⟨rfl, rfl, rfl, rfl⟩
  live := by
    simp only [Entry.withMotion]
    split
    · decide
    · exact m.toState_live.1
  endAt := rfl
  endTaken := rfl
  ending := by
    simp only [Entry.withMotion]
    split
    · next h => exact iff_of_true rfl h
    · next h => exact iff_of_false m.toState_live.2 h

theorem Entry.snapped_outlives (e : Entry) (r : Int) : (e.snapped r).outlives e := by
  unfold Entry.snapped
  dsimp only
  split
  · obtain ⟨ht, hl, he, hk, hs⟩ := Entry.withMotion_outlives
      (Entry.waitFrom { e with eps := 0, realigns := satAdd 255 e.realigns 1, kl := none, lm := none } r) .pending
    exact ⟨ht, hl, he, hk, hs⟩
  · obtain ⟨ht, hl, he, hk, hs⟩ := Entry.withMotion_outlives
      { e with eps := 0, realigns := satAdd 255 e.realigns 1, kl := some (e.snapMark r - 1) } .running
    exact ⟨ht, hl, he, hk, hs⟩

theorem Entry.carrying_outlives (e : Entry) (range : Nat) (d : Int) : (e.carrying range d).outlives e := by
  obtain ⟨ht, hl, he, hk, hs⟩ := Entry.withMotion_outlives { e with eps := e.eps + d }
    (if e.policy = Policy.slew then slewMotion range (e.eps + d) else holdMotion (e.eps + d))
  exact ⟨ht, hl, he, hk, hs⟩

/-- R42: a snap leaves the entry RUNNING or waiting to start. -/
theorem Entry.snapped_motion (e : Entry) (r : Int) :
    (e.snapped r).motion = .pending ∨ (e.snapped r).motion = .running := by
  unfold Entry.snapped
  dsimp only
  split
  · exact .inl rfl
  · exact .inr rfl

theorem Entry.checked_endTaken (m : Entry) :
    m.checked = { m with endTaken := decide (m.endTaken = true ∧ (m.state ≠ .ending ∨ m.endAt = none)) } := by
  by_cases h : m.state = .ending ∧ ∃ x, m.endAt = some x
  · obtain ⟨hs, x, hx⟩ := h
    rw [Entry.checked_ending hs hx]
    simp [hs, hx]
  · rw [Entry.checked_free h]
    have hfree : m.state ≠ .ending ∨ m.endAt = none := by
      by_cases hs : m.state = .ending
      · exact .inr (Option.eq_none_iff_forall_ne_some.2 fun x hx => h ⟨hs, x, hx⟩)
      · exact .inl hs
    simp [hfree]

theorem satAdd_zero_right (top x y z : Nat) : satAdd top (satAdd top x y) z = satAdd top x (y + z) := by
  simp only [satAdd]
  omega

/-- R113: what a shift has skipped and what is then discarded make up the pulses that waited. -/
theorem Output.shift_discard (o : Output) (delta t : Int) : (o.shift delta t).discard = o.discard := by
  simp only [Output.discard, Output.shift, Output.skip, satAdd_zero_right]
  congr 2
  have h := List.length_filter_le (fun p : Pulse => decide (t ≤ p.active))
    (o.waiting.map fun p => { p with active := p.active + delta, inactive := p.inactive + delta })
  rw [List.length_map] at h
  simp only [List.length_map]
  omega

theorem Output.discard_discard (o : Output) : o.discard.discard = o.discard := by
  simp only [Output.discard, Output.skip, satAdd_zero_right, List.length_nil, Nat.add_zero]

theorem Output.atSnap_discard (o : Output) (m : Entry) (delta r : Int) : (o.atSnap m delta r).discard = o.discard := by
  unfold Output.atSnap
  split
  · rw [Output.discard_discard, Output.shift_discard]
  · exact o.shift_discard delta r

theorem Output.unbind_eq (o : Output) : o.unbind = { o.discard with binding := none } := rfl

theorem Output.shift_moved (o : Output) (delta t : Int) : o.moved delta t (o.shift delta t) := rfl

theorem Output.discard_emptied (o : Output) : o.emptied o.discard := rfl

/-- R51: REALIGN that resumes the slew, before its notice. -/
def State.resumed (s : State) (i : Idx) : State :=
  ((s.shiftPulses i 0 s.now).setEntry i (s.entries[i].withMotion .slewing)).replan i (.recompute s.entries[i]) s.now

section

variable {s : State} {i : Idx}

theorem State.realign_still (h : s.entries[i].motion = .running ∨ s.entries[i].motion = .pending) : s.realign i = s := by
  rcases h with h | h <;> simp only [State.realign, h]

theorem State.realign_resumes (hm : s.entries[i].motion = .held) (hp : s.entries[i].policy = .slew)
    (hr : s.entries[i].eps.natAbs ≤ s.servo.params.slewRange) : s.realign i = ((s.resumed i).notify i).endCheck i := by
  simp only [State.realign, hm]
  exact if_pos ⟨hp, hr⟩

theorem State.realign_snaps (hm : s.entries[i].motion = .held ∨ s.entries[i].motion = .slewing)
    (hn : ¬(s.entries[i].motion = .held ∧ s.entries[i].policy = .slew ∧ s.entries[i].eps.natAbs ≤ s.servo.params.slewRange)) :
    s.realign i = ((s.snap i (-s.entries[i].eps) s.now).notify i).endCheck i := by
  rcases hm with hm | hm
  · simp only [State.realign, hm]
    exact if_neg fun h => hn ⟨hm, h⟩
  · simp only [State.realign, hm]

theorem State.resumed_drafted (s : State) (i : Idx) :
    s.Drafted (s.resumed i) i (s.entries[i].withMotion .slewing)
      (fun st delta => st.replan (.recompute s.entries[i]) (s.entries[i].withMotion .slewing) delta s.now)
      (fun o => o.shift 0 s.now) :=
  (((State.Drafted.refl s i).shiftPulses 0 s.now).setEntry _).replan _ _

theorem State.snap_drafted (s : State) (i : Idx) (delta r : Int) :
    s.Drafted (s.snap i delta r) i (s.entries[i].snapped r)
      (fun st d => st.replan .snapped (s.entries[i].snapped r) d r)
      (fun o => o.atSnap (s.entries[i].snapped r) delta r) :=
  (State.Drafted.refl s i).snap delta r

end

/-- An event with its notice and its end check, as REALIGN has it. -/
theorem State.Drafted.noticed {s u : State} {i : Idx} {m : Entry} {f : Stream → Option Nat → Stream} {g : Output → Output}
    (h : s.Drafted u i m f g) (hm : m.outlives s.entries[i]) :
    s.Settled ((u.notify i).endCheck i) i m.checked f g (m.endsAt s.now False)
      ∧ ((u.notify i).endCheck i).noted i s.entries[i] :=
  ⟨h.notify.endCheck hm.live hm.tied, (h.noted hm.tied).endCheck i⟩

theorem Entry.outlives.checked {m e : Entry} (h : m.outlives e) :
    m.checked = { m with endTaken := decide (e.endTaken = true ∧ (e.state ≠ .ending ∨ e.endAt = none)) } := by
  rw [Entry.checked_endTaken, h.endTaken, h.endAt]
  simp only [ne_eq, h.ending]

/-- Settles O29: a resumed slew and a snap are each an event at the entry, with its notice and its end check. -/
theorem realignByMotion : Obligations.RealignByMotion := by
  intro s l t h i hi hgen hlive hauth hs e resumes snaps
  have hreply : realignReply l h s = (s.realign i, some (.ok, .empty)) := by
    rw [realignReply, onEntry_ok ((checkHandle_ok_iff h i).2 ⟨hi, hgen, hlive⟩), withAuthority_ok ((authority_iff l e).2 hauth)]
  have hexec := exec_reply (r := .realign h) hs hreply
  have hsame := s.realign_sameBut i
  by_cases hres : resumes
  · obtain ⟨hm, hp, hr⟩ := id hres
    have hout := Entry.withMotion_outlives e .slewing
    obtain ⟨hset, hnoted⟩ := (s.resumed_drafted i).noticed hout
    rw [← State.realign_resumes hm hp hr] at hset hnoted
    have hnosnap : ¬snaps := fun h => h.1 hres
    refine ⟨s.realign i, _, hexec, fun hc => ?_, fun _ => rfl, fun hc => absurd hc hnosnap, fun _ => hset.stations,
      fun hc => absurd hc hnosnap, fun _ => ⟨hnoted.1, hnoted.2, fun hgone => ⟨hset.entryGone hgone, fun o ho => ?_⟩,
      fun hkept => ⟨(hset.entryKept hkept).trans hout.checked, fun o ho => ⟨fun _ => ?_, fun hc => absurd hc hnosnap,
        fun hc => absurd hc hnosnap⟩⟩⟩, hset.free, hset.others, hsame⟩
    · exact absurd hc (by rw [hm]; decide)
    · refine ⟨_, s.outs[o].discard_emptied, ?_⟩
      rw [hset.boundGone hgone o ho, Output.unbind_eq, Output.shift_discard]
    · rw [hset.boundKept hkept o ho]
      exact Output.shift_moved _ _ _
  · by_cases hmove : e.motion = .held ∨ e.motion = .slewing
    · have hsnap : snaps := ⟨hres, hmove⟩
      have hout := e.snapped_outlives s.now
      obtain ⟨hset, hnoted⟩ := (s.snap_drafted i (-e.eps) s.now).noticed hout
      rw [← State.realign_snaps hmove hres] at hset hnoted
      refine ⟨s.realign i, e.snapped s.now, hexec, fun hc => ?_, fun hc => absurd hc hres, fun _ => rfl,
        fun hc => absurd hc hres, fun _ => hset.stations, fun _ => ⟨hnoted.1, hnoted.2,
        fun hgone => ⟨hset.entryGone hgone, fun o ho => ?_⟩, fun hkept => ⟨(hset.entryKept hkept).trans hout.checked,
        fun o ho => ⟨fun hc => absurd hc hres, fun _ hrun => ?_, fun _ hpend => ?_⟩⟩⟩, hset.free, hset.others, hsame⟩
      · rcases hmove with h | h <;> rw [h] at hc <;> simp at hc
      · refine ⟨_, s.outs[o].discard_emptied, ?_⟩
        rw [hset.boundGone hgone o ho, Output.unbind_eq, Output.atSnap_discard]
      · rw [hset.boundKept hkept o ho, Output.atSnap, if_neg (by rw [hrun]; decide)]
        exact Output.shift_moved _ _ _
      · rw [hset.boundKept hkept o ho, Output.atSnap, if_pos hpend, Output.shift_discard]
        exact Output.discard_emptied _
    · have hstill : e.motion = .running ∨ e.motion = .pending := by
        cases hm : e.motion <;> simp_all
      have hnosnap : ¬snaps := fun h => hmove h.2
      have hrs : s.realign i = s := State.realign_still hstill
      refine ⟨s.realign i, e, hexec, fun _ => hrs, fun hc => absurd hc hres, fun hc => absurd hc hnosnap,
        fun hc => absurd hc hres, fun hc => absurd hc hnosnap, fun hc => (hc.elim hres hnosnap).elim, fun o _ => by rw [hrs],
        fun j _ => by rw [hrs], hsame⟩

/-! ## RETIRE with an end instant (R19) -/

/-- An event that moves no output, without a retirement. -/
theorem State.Settled.sameBut_quiet {s s' : State} {i : Idx} {m : Entry} {f : Stream → Option Nat → Stream} {gone : Prop}
    (h : s.Settled s' i m f id gone) (hg : ¬gone) : s.sameBut [.entries, .stations, .mgmtNotices, .attn] s' := by
  intro p hp
  by_cases ho : p = .outs
  · subst ho
    refine Vector.ext_fin fun o => ?_
    cases hb : s.outs[o].boundTo i with
    | false => exact h.free o hb
    | true => exact h.boundKept hg o hb
  · by_cases hc : p = .chain
    · subst hc
      exact h.chainKept hg
    · exact h.same p (by simp only [List.mem_cons, List.not_mem_nil, or_false, not_or] at hp ⊢; simp only [hp, ho, hc, not_false_iff, and_true])

/-- R19: entry `e` with end instant `x`. -/
def Entry.ending (e : Entry) (x : Nat) : Entry := { e with state := .ending, endAt := some x, endTaken := false }

/-- R19: the end instant taken, before the notice and the end check. -/
def State.withEnd (s : State) (i : Idx) (x : Nat) : State :=
  (s.setEntry i (s.entries[i].ending x)).replan i (.recompute s.entries[i]) s.now

section

variable (s : State) (i : Idx) (x : Nat)

theorem State.setEnd_eq : s.setEnd i x
    = (if s.entries[i].state = .ending then s.withEnd i x else (s.withEnd i x).notify i).endCheck i := rfl

theorem State.withEnd_drafted : s.Drafted (s.withEnd i x) i (s.entries[i].ending x)
    (fun st delta => st.replan (.recompute s.entries[i]) (s.entries[i].ending x) delta s.now) id :=
  ((State.Drafted.refl s i).setEntry _).replan _ _

theorem State.withEnd_notices (y : Addr) : (s.withEnd i x).stations[y].notices = s.stations[y].notices := by
  simp only [State.withEnd, Fin.getElem_fin, State.replan_at, State.setEntry_stations]

theorem State.withEnd_mgmtNotices : (s.withEnd i x).mgmtNotices = s.mgmtNotices :=
  State.replan_sameBut (s.setEntry i (s.entries[i].ending x)) i _ _ .mgmtNotices (by decide)

/-- R19: an end instant ahead of timebase time is taken, and the entry does not retire. -/
theorem State.setEnd_settled : s.Settled (s.setEnd i x) i (s.entries[i].ending x)
    (fun st delta => st.replan (.recompute s.entries[i]) (s.entries[i].ending x) delta s.now) id
    ((s.entries[i].ending x).endsAt s.now False) := by
  have hd : s.Drafted (if s.entries[i].state = .ending then s.withEnd i x else (s.withEnd i x).notify i) i
      (s.entries[i].ending x)
      (fun st delta => st.replan (.recompute s.entries[i]) (s.entries[i].ending x) delta s.now) id := by
    split
    · exact s.withEnd_drafted i x
    · exact (s.withEnd_drafted i x).notify
  have hset := hd.endCheck (by simp [Entry.ending]) ⟨rfl, rfl, rfl, rfl⟩
  exact hset

theorem Entry.ending_stays {e : Entry} {x t : Nat} (hx : t < x) : ¬(e.ending x).endsAt t False := by
  rw [Entry.endsAt_now_iff (x := x) rfl rfl]
  omega

end

theorem instantNs_clamped (e : Instant) (x : Nat) :
    ((instantNs e).2 || decide (x ≠ (instantNs e).1)) = false
      ↔ x = e.sec * 1000000000 + min e.ns 999999999 ∧ e.ns < 1000000000 := by
  rw [instantNs, Bool.or_eq_false_iff, decide_eq_false_iff_not, decide_eq_false_iff_not, not_not]
  simp only [second]
  omega

/-- Settles O28: the end instant lies ahead of timebase time, so that the end check leaves the entry ENDING. -/
theorem retireWithEndSetsEnd : Obligations.RetireWithEndSetsEnd := by
  intro s l t h e i hi hgen hlive hauth hs asked x
  have hx : s.now < x := by
    have hlow : s.now + 1000000 ≤ x := (clampNat_bounds (by omega) asked).1
    omega
  set moved : Bool := (instantNs e).2 || decide (x ≠ (instantNs e).1) with hmoved
  have hreply : retireWithEndReply l h e s = (s.setEnd i x, some (okOr moved, if moved then .storedEnd x else .empty)) := by
    rw [retireWithEndReply, onEntry_ok ((checkHandle_ok_iff h i).2 ⟨hi, hgen, hlive⟩),
      withAuthority_ok ((authority_iff l _).2 hauth)]
    rfl
  have hexec := exec_reply (r := .retireWithEnd h e) hs hreply
  have hset := s.setEnd_settled i x
  have hstays : ¬(s.entries[i].ending x).endsAt s.now False := Entry.ending_stays hx
  have hentry : (s.setEnd i x).entries[i] = s.entries[i].ending x := hset.entryKept hstays
  refine ⟨s.setEnd i x, ?_, hentry, fun y => ⟨False.elim, fun _ => ?_⟩, hset.others, fun hne => ?_, fun he => ?_,
    hset.sameBut_quiet hstays⟩
  · refine hexec.trans ?_
    have hiff := instantNs_clamped e x
    by_cases hc : x = asked ∧ e.ns < 1000000000
    · rw [if_pos hc, hmoved, hiff.2 hc]
      rfl
    · have hm : moved = true := by
        rw [← Bool.not_eq_false, hmoved]
        exact fun h => hc (hiff.1 h)
      rw [if_neg hc, hm]
      rfl
  · rw [hentry]
    exact (hset.stations y).2 hstays
  · have hn : ((s.withEnd i x).notify i).noted i s.entries[i] := (s.withEnd_drafted i x).noted ⟨rfl, rfl, rfl, rfl⟩
    rw [s.setEnd_eq, if_neg hne]
    exact hn.endCheck i
  · have hd := s.withEnd_drafted i x
    have hkept : s.setEnd i x = (s.withEnd i x).setEntry i { (s.withEnd i x).entries[i] with endTaken := false } := by
      rw [s.setEnd_eq, if_pos he]
      refine State.endCheck_kept (x := x) ?_ ?_ ?_
      · rw [hd.entry]
        rfl
      · rw [hd.entry]
        rfl
      · rw [hd.entry, hd.now]
        exact hstays
    rw [hkept]
    exact ⟨s.withEnd_mgmtNotices i x, s.withEnd_notices i x⟩

end Sys2Proof.Machine

/-! PROOFS. SET of a rate that restarts the entry (R14, R15): O25. -/

namespace Sys2Proof.Machine

open Sys2Proof Config

/-! ## The restarted entry (R15) -/

/-- Entry `e` at a new rate before its label bases and its start mark (R15). -/
def Entry.rerated (e : Entry) (num den : Nat) : Entry :=
  { e with num := num, den := den, pf := wholePeriod num den, phi := clampPhase (wholePeriod num den) e.phi
           slew := clampSlew (wholePeriod num den) e.slew, label := degrade e.label num den, eps := 0, kl := none, lm := none
           endTaken := false }

section

variable {e : Entry} {num den t : Nat} {c : Civil}

theorem Entry.restart_eq : e.restart num den t c = (((e.rerated num den).withBases c).waitFrom t).withMotion .pending := rfl

/-- R15: what a restart makes of an entry, its bases and its start mark apart. -/
theorem Entry.restart_fields : e.restart num den t c = { e with
    num := num, den := den, pf := wholePeriod num den, phi := clampPhase (wholePeriod num den) e.phi
    slew := clampSlew (wholePeriod num den) e.slew, label := degrade e.label num den, eps := 0, kl := none, lm := none
    motion := .pending, state := if e.state = .ending then .ending else .pending, endTaken := false
    ks := (e.restart num den t c).ks, base := (e.restart num den t c).base, next := (e.restart num den t c).next } := by
  obtain ⟨b, n, h⟩ := (e.rerated num den).withBases_eq c
  rw [Entry.restart_eq, h]
  rfl

theorem Entry.restart_outlives : (e.restart num den t c).tiedAs e ∧ (e.restart num den t c).state ≠ .vacant := by
  rw [Entry.restart_fields]
  refine ⟨⟨rfl, rfl, rfl, rfl⟩, ?_⟩
  dsimp only
  split <;> decide

theorem Entry.restart_labelled (hn : 0 < num) (hd : 0 < den) : (e.restart num den t c).labelled c := by
  have h : ((e.rerated num den).withBases c).labelled c := Entry.withBases_labelled c hn hd
  exact h

/-- R37: the restarted entry waits for its start mark. -/
theorem Entry.restart_ks (hn : 0 < num) (hd : 0 < den) : ∃ k, (e.restart num den t c).ks = some k
    ∧ ∀ j : Nat, k ≤ j ↔ (t : Int) + 1000000 ≤ nominal num den j + (e.restart num den t c).phi := by
  have hphi : (e.restart num den t c).phi = clampPhase (wholePeriod num den) e.phi := by rw [Entry.restart_fields]
  refine ⟨startMark num den (clampPhase (wholePeriod num den) e.phi) t, ?_, fun j => ?_⟩
  · obtain ⟨b, n, h⟩ := (e.rerated num den).withBases_eq c
    rw [Entry.restart_eq, h]
    rfl
  · rw [hphi]
    exact startMark_le_iff _ _ _ hn hd

theorem Entry.nextMark_waiting {e : Entry} {k : Nat} (hm : e.motion = .pending) (hk : e.ks = some k) : e.nextMark = k := by
  rw [Entry.nextMark, hm, hk, Option.getD_some]

/-- R20, R37: the next mark of an entry that waits to start lies after timebase time, so that only its end instant decides. -/
theorem Entry.waiting_endsAt_iff {m : Entry} {k : Nat} (hm : m.motion = .pending) (hk : m.ks = some k) (he : m.eps = 0)
    (hfirst : (t : Int) + 1000000 ≤ nominal m.num m.den k + m.phi) :
    m.endsAt t False ↔ m.state = .ending ∧ ∃ x, m.endAt = some x ∧ x ≤ t := by
  have happlied : m.applied m.nextMark = nominal m.num m.den k + m.phi := by
    rw [Entry.nextMark_waiting hm hk, Entry.applied, he, add_zero]
  simp only [Entry.endsAt, happlied, false_or]
  refine and_congr_right fun _ => exists_congr fun x => and_congr_right fun _ => ?_
  omega

end

/-- R15: the restart before its notice. -/
def State.restarted (s : State) (i : Idx) (num den : Nat) : State :=
  ((s.stopPulses i).setEntry i (s.entries[i].restart num den s.now s.civil)).replan i .restarted s.now

section

variable {s : State} {i : Idx} {num den : Nat}

theorem State.restarted_drafted : s.Drafted (s.restarted i num den) i (s.entries[i].restart num den s.now s.civil)
    (fun st delta => st.replan .restarted (s.entries[i].restart num den s.now s.civil) delta s.now) Output.discard :=
  ((State.Drafted.refl s i).stopPulses.setEntry _).replan _ _

theorem Entry.restart_checked {e : Entry} {t : Nat} {c : Civil} : (e.restart num den t c).checked = e.restart num den t c := by
  rw [Entry.checked_endTaken]
  have h : (e.restart num den t c).endTaken = false := by rw [Entry.restart_fields]
  rw [h]
  conv_rhs => rw [show e.restart num den t c = { e.restart num den t c with endTaken := (e.restart num den t c).endTaken } from rfl, h]
  simp

/-- A SET that masks the rate alone, at an equal cross-product. -/
theorem setApply_same_rate {q : SetReq} (hq : q = ⟨q.handle, some (num, den), none, none, none, none, none⟩)
    (hx : num * s.entries[i].den = s.entries[i].num * den) :
    SetReq.apply q i s
      = { state := s.setEntry i { s.entries[i] with num := num, den := den }, clamped := false, notice := false, moved := false } := by
  rw [hq]
  simp only [SetReq.apply, Edit.rate, if_pos hx]
  rfl

/-- The values that a restart has clamped or degraded (R166). -/
def Entry.restartClamps (e m : Entry) : Bool := decide (m.phi ≠ e.phi) || decide (m.slew ≠ e.slew) || decide (m.label ≠ e.label)

theorem Entry.restartClamps_iff (e m : Entry) :
    e.restartClamps m = true ↔ m.phi ≠ e.phi ∨ m.slew ≠ e.slew ∨ m.label ≠ e.label := by
  simp [Entry.restartClamps, or_assoc]

theorem setApply_new_rate {q : SetReq} (hq : q = ⟨q.handle, some (num, den), none, none, none, none, none⟩)
    (hx : num * s.entries[i].den ≠ s.entries[i].num * den) :
    SetReq.apply q i s
      = { state := s.restarted i num den
          clamped := s.entries[i].restartClamps (s.entries[i].restart num den s.now s.civil)
          notice := true, moved := true } := by
  rw [hq]
  simp only [SetReq.apply, Edit.rate, if_neg hx]
  rfl

end

/-- Settles O25: the restart is an event at the entry, with its notice and its end check. -/
theorem setOfRateRestarts : Obligations.SetOfRateRestarts := by
  intro s l t q i num den hq hrate hi hgen hlive hauth hs e pf ends
  obtain ⟨hn, hd⟩ := badRate_pos hrate
  have hbad : SetReq.bad q = false := by
    rw [hq]
    simp [SetReq.bad, hrate, badCode]
  have hclash : SetReq.nameClash q i s = false := by rw [hq]; rfl
  have hreply : setReply l q s = ((SetReq.apply q i s).finish i, some (okOr (SetReq.apply q i s).clamped,
      if (SetReq.apply q i s).clamped then .stored (SetReq.apply q i s).state.entries[i].storedView else .empty)) := by
    rw [setReply_checked hbad, onEntry_ok ((checkHandle_ok_iff q.handle i).2 ⟨hi, hgen, hlive⟩),
      withAuthority_ok ((authority_iff l e).2 hauth), hclash]
    rfl
  have hexec : exec (.set l t q) s = _ := exec_reply (r := .set q) hs hreply
  refine ⟨fun hx => hexec.trans ?_, fun hx => ?_⟩
  · rw [setApply_same_rate hq hx]
    rfl
  rw [setApply_new_rate hq hx] at hexec
  set m := e.restart num den s.now s.civil with hm
  have hfields : m = _ := Entry.restart_fields
  obtain ⟨htied, hmlive⟩ := Entry.restart_outlives (e := e) (num := num) (den := den) (t := s.now) (c := s.civil)
  have hdraft := State.restarted_drafted (s := s) (i := i) (num := num) (den := den)
  have hset := hdraft.notify.endCheck hmlive htied
  have hnoted := (hdraft.noted htied).endCheck i
  rw [Entry.restart_checked] at hset
  obtain ⟨k, hk, hfirst⟩ := Entry.restart_ks (e := e) (t := s.now) (c := s.civil) hn hd
  have hnum : m.num = num ∧ m.den = den ∧ m.eps = 0 ∧ m.motion = .pending ∧ m.endAt = e.endAt := by
    rw [hfields]
    exact ⟨rfl, rfl, rfl, rfl, rfl⟩
  have hending : m.state = .ending ↔ e.state = .ending := by
    rw [hfields]
    by_cases he : e.state = .ending
    · exact iff_of_true (if_pos he) he
    · exact iff_of_false (fun h => absurd ((if_neg he).symm.trans h) nofun) he
  have hends : m.endsAt s.now False ↔ ends := by
    obtain ⟨h1, h2, h3, h4, h5⟩ := hnum
    rw [Entry.waiting_endsAt_iff h4 hk h3 (by rw [h1, h2]; exact (hfirst k).1 le_rfl), hending, h5]
  rw [propext hends] at hset
  refine ⟨_, m, hexec.trans ?_, hfields, ⟨k, hk, hfirst⟩, Entry.restart_labelled hn hd, hset.stations, hset.entryGone,
    fun he => ⟨hset.entryKept he, hset.chainKept he⟩, hset.free, fun o ho =>
    ⟨_, s.outs[o].discard_emptied, fun he => ?_, fun he => hset.boundKept he o ho⟩, hnoted.1, hnoted.2, hset.others,
    hset.same⟩
  · have hview : (s.restarted i num den).entries[i].storedView = ⟨m.phi, m.slew, m.label⟩ := by
      rw [hdraft.entry]
      rfl
    by_cases hc : m.phi ≠ e.phi ∨ m.slew ≠ e.slew ∨ m.label ≠ e.label
    · have hcl : s.entries[i].restartClamps m = true := (Entry.restartClamps_iff _ _).2 hc
      rw [if_pos hc]
      simp only [hcl, hview]
      rfl
    · have hcl : s.entries[i].restartClamps m = false :=
        Bool.eq_false_iff.2 fun h => hc ((Entry.restartClamps_iff _ _).1 h)
      rw [if_neg hc]
      simp only [hcl]
      rfl
  · rw [hset.boundGone he o ho, Output.unbind_eq, Output.discard_discard]

end Sys2Proof.Machine

/-! PROOFS. Samples accepted in ACQUIRE, HOLDOVER and LOCKED (R91, R92, R94 to R97): O35, O36. -/

namespace Sys2Proof.Machine

open Sys2Proof Config

/-! ## The SERVO cause through a step (R171) -/

/-- The SERVO cause stands as it stood. -/
def State.sameServoCause (s s' : State) : Prop := s'.attn.causes.servo = s.attn.causes.servo

section

variable {s u v : State} {i : Idx} {L : List Part}

theorem State.sameServoCause.trans (h : s.sameServoCause u) (h' : u.sameServoCause v) : s.sameServoCause v := Eq.trans h' h

theorem State.sameBut.servoCause (h : s.sameBut L u) (hl : Part.attn ∉ L) : s.sameServoCause u := by
  have ha : u.attn = s.attn := h .attn hl
  rw [State.sameServoCause, ha]

theorem State.sameServoCause.ite {c : Prop} [Decidable c] (hu : s.sameServoCause u) (hv : s.sameServoCause v) :
    s.sameServoCause (if c then u else v) := by
  split
  · exact hu
  · exact hv

theorem State.raise_servoCause (s : State) {c : Cause} (hc : c ≠ .servo) : s.sameServoCause (s.raise c) := by
  unfold State.raise State.sameServoCause
  split
  · rfl
  · cases c with
    | servo => exact absurd rfl hc
    | _ => rfl

theorem State.noteManagement_servoCause (s : State) (i : Idx) : s.sameServoCause (s.noteManagement i) := by
  unfold State.noteManagement
  dsimp only
  split
  · exact State.raise_servoCause _ (by decide)
  · rfl

theorem State.notify_servoCause (s : State) (i : Idx) : s.sameServoCause (s.notify i) :=
  .ite ((State.mapStations_sameBut s _).servoCause (by decide) |>.trans (State.noteManagement_servoCause _ i))
    ((State.mapStations_sameBut s _).servoCause (by decide))

theorem State.retire_servoCause (s : State) (i : Idx) : s.sameServoCause (s.retire i) := by
  by_cases h : s.entries[i].state = .vacant
  · rw [State.retire_vacant h]
    rfl
  · rw [State.retire_eq h]
    refine (s.notify_servoCause i).trans ?_
    exact ((((State.untie_sameBut _ i).trans (State.closeStreamsOn_sameBut _ i)).trans (State.mapOutputs_sameBut _ _)).trans
      ((State.disown_sameBut _ _).trans (State.setEntry_sameBut _ i _))).servoCause (by decide)

theorem State.endCheck_servoCause (s : State) (i : Idx) : s.sameServoCause (s.endCheck i) := by
  simp only [State.endCheck]
  split
  · exact .ite (s.retire_servoCause i) ((s.setEntry_sameBut i _).servoCause (by decide))
  · rfl

theorem State.stepEntry_servoCause (s : State) (theta : Int) (t : Nat) (i : Idx) :
    s.sameServoCause (s.stepEntry theta t i) := by
  refine .ite rfl ?_
  have h1 := s.setEntry_sameBut i { s.entries[i] with lm := s.entries[i].lm.map (· + theta) }
  have h3 : ∀ u : State, u.sameServoCause (if u.entries[i].state = .ending ∧ 0 < theta
      ∧ u.entries[i].endAt.any (fun x => x ≤ t) then u.retire i else u.endCheck i) := fun u =>
    .ite (u.retire_servoCause i) (u.endCheck_servoCause i)
  refine .trans (.trans (.ite ?_ ?_) (State.notify_servoCause _ i)) (h3 _)
  · exact ((h1.trans (State.setEntry_sameBut _ i _)).trans (State.replan_sameBut _ i _ _)).servoCause (by decide)
  · exact (h1.trans (State.moveOffset_sameBut _ i _ _ _ _ _)).servoCause (by decide)

theorem State.foldl_servoCause {α : Type} {f : State → α → State} (h : ∀ (u : State) (a : α), u.sameServoCause (f u a))
    (l : List α) (s : State) : s.sameServoCause (l.foldl f s) := by
  induction l generalizing s with
  | nil => rfl
  | cons a l ih => exact (h s a).trans (ih _)

/-- R61: a pending leap at or before instant `t` is taken. -/
def Civil.leapTaken (c : Civil) (t : Nat) : Civil :=
  match c.pending with
  | some (o', eo) => if eo * second ≤ t then { c with offset := o', pending := none, tL := some eo } else c
  | none => c

/-- R61: a leap instant after instant `t` is dropped. -/
def Civil.leapDropped (c : Civil) (t : Nat) : Civil :=
  match c.tL with
  | some l => if t < l * second then { c with tL := none } else c
  | none => c

/-- R61: the civil settings as a step that leaves timebase time at `t` finds them before the re-base. -/
def Civil.atStep (c : Civil) (t : Nat) : Civil := (c.leapTaken t).leapDropped t

theorem State.stepLabels_eq (s : State) (t : Nat) :
    s.stepLabels t = State.rebase s.civil t { s with civil := s.civil.atStep t } := rfl

theorem State.stepEffects_servoCause (s : State) (theta : Int) (t : Nat) : s.sameServoCause (s.stepEffects theta t) := by
  rw [State.stepEffects_eq]
  have hrec : s.sameServoCause (s.stepRecords theta) := by
    rw [State.sameServoCause, State.stepRecords, State.mapOutputs_attn]
    rfl
  have hlab : ∀ u : State, u.sameServoCause (u.stepLabels t) := fun u => by
    rw [State.stepLabels_eq]
    exact ((u.setCivilPart_sameBut _).trans (State.rebase_sameBut _ _ t)).servoCause (by decide)
  exact (hrec.trans (State.foldl_servoCause (fun u i => u.stepEntry_servoCause theta t i) _ _)).trans (hlab _)

theorem State.setTime_servoCause (s : State) (t : Nat) : s.sameServoCause (s.setTime t) := rfl

theorem State.wrap_servoCause (s : State) : s.sameServoCause s.wrap := by
  have h1 (t : Nat) : s.sameServoCause ((s.setTime t).mapOutputs Output.discard) :=
    (s.setTime_servoCause t).trans ((State.mapOutputs_sameBut _ _).servoCause (by decide))
  unfold State.wrap
  exact (h1 _).trans (State.stepEffects_servoCause _ _ _)

theorem State.applyStep_servoCause (s : State) (theta : Int) : s.sameServoCause (s.applyStep theta) := by
  have h (t : Nat) : s.sameServoCause ((s.setTime t).stepEffects theta t) :=
    (s.setTime_servoCause t).trans (State.stepEffects_servoCause _ theta t)
  unfold State.applyStep
  dsimp only
  split
  · exact (h _).trans (State.wrap_servoCause _)
  · exact h _

end

/-! ## The class noted after a sample (R90) -/

section

variable {s u : State}

theorem State.noteClass_quality (s : State) : s.noteClass.quality = s.quality := by
  unfold State.quality State.ageCycles
  rw [State.noteClass_servo, State.noteClass_cycle]

theorem State.shows_servo_iff (h : s.sameServoCause u) : u.shows .servo ↔ s.shows .servo := by
  have h' : u.attn.causes.servo = s.attn.causes.servo := h
  simp only [State.shows, CauseSet.has, h']

theorem State.noteClass_shows_iff (s : State) : s.noteClass.shows .servo ↔ s.shows .servo ∨ s.quality ≠ s.servo.noted := by
  by_cases h : s.quality = s.servo.noted
  · rw [State.noteClass, if_pos h]
    simp [h]
  · exact iff_of_true (s.noteClass_shows h) (.inr h)

theorem State.raise_attn_congr (c : Cause) (ha : u.attn = s.attn) (hc : u.cycle = s.cycle) : (u.raise c).attn = (s.raise c).attn := by
  unfold State.raise
  rw [ha, hc]
  split <;> simp only [ha]

theorem State.noteClass_attn (s : State) :
    s.noteClass.attn = if s.quality = s.servo.noted then s.attn else (s.raise .servo).attn := by
  unfold State.noteClass
  split
  · rfl
  · exact State.raise_attn_congr _ rfl rfl

end

/-! ## What an accepted sample leaves (R83, R91) -/

/-- `s'` is what the sample of offset `theta` paired with slot `k` leaves of `s` when the row of the servo state gives `v`, and
a step where `stepped` holds. -/
structure State.Sampled (s s' : State) (k : Fin 4) (theta : Int) (v : Servo) (stepped : Bool) : Prop where
  servo : s'.servo = { v with
    noted := s'.quality
    counters := if stepped then { v.counters with steps := min 65535 (v.counters.steps + 1) } else v.counters }
  slots : s.spentSlots s' k stepped
  shows : s'.shows .servo ↔ s.shows .servo ∨ s'.quality ≠ s.servo.noted
  still : stepped = false → s.sameBut [.slots, .servo, .attn] s'
    ∧ s'.attn = if s'.quality = s.servo.noted then s.attn else (s.raise .servo).attn
  steps : stepped = true → (s'.now : Int) = (s.now + theta) % 281474976710656000000000 ∧ s.steppedAs s' theta
  same : s.sameBut [.tb, .slots, .servo, .civil, .entries, .mgmtNotices, .outs, .chain, .stations, .attn] s'

section

variable {s : State} {q : SampleReq} {theta : Int} {v : Servo} {tc : Nat}

/-- The state that a sample leaves without a step, before the class is noted. -/
def State.steered (s : State) (q : SampleReq) (v : Servo) : State := { s.markSlot q.seq .consumed with servo := v }

theorem State.steered_sampled (hn : v.noted = s.servo.noted) :
    s.Sampled (s.steered q v).noteClass (slotNo q.seq) theta v false := by
  have hsame0 : s.sameBut [.slots, .servo] (s.steered q v) := by
    intro p hp
    cases p <;> simp [State.samePart, State.steered, State.markSlot] at hp ⊢
  have hsame : s.sameBut [.slots, .servo, .attn] (s.steered q v).noteClass :=
    (hsame0.trans (s.steered q v).noteClass_sameBut).mono (by decide)
  have hnoted : (s.steered q v).servo.noted = s.servo.noted := hn
  refine ⟨?_, State.markSlot_spentSlots ?_, ?_, fun _ => ⟨hsame, ?_⟩, nofun, hsame.mono (by decide)⟩
  · rw [State.noteClass_servo, State.noteClass_quality]
    rfl
  · exact (s.steered q v).noteClass_sameBut .slots (by decide)
  · rw [State.noteClass_shows_iff, State.noteClass_quality, hnoted]
    exact Iff.rfl
  · rw [State.noteClass_attn, State.noteClass_quality, hnoted]
    exact if_congr Iff.rfl rfl (State.raise_attn_congr _ rfl rfl)

/-- The state that a sample leaves after a step, before the class is noted. -/
def State.stepped (s : State) (q : SampleReq) (theta : Int) (v : Servo) : State :=
  { s.applyStep theta with
    slots := (s.markSlot q.seq .consumed).voidSlots.slots
    servo := { v with counters := { v.counters with steps := satAdd counterTop v.counters.steps 1 } } }

theorem State.stepped_sampled (hn : v.noted = s.servo.noted) (h0 : 0 ≤ s.now + theta) (h2 : s.now + theta < 2 * wrapSpan) :
    s.Sampled (s.stepped q theta v).noteClass (slotNo q.seq) theta v true := by
  have hnote := (s.stepped q theta v).noteClass_sameBut
  have hsame0 : s.sameBut [.tb, .slots, .servo, .civil, .entries, .mgmtNotices, .outs, .chain, .stations, .attn]
      (s.stepped q theta v) := by
    refine ((s.applyStep_sameBut theta).trans (State.sameBut_discipline _ _ _ _)).mono (by decide)
  have hnoted : (s.stepped q theta v).servo.noted = s.servo.noted := hn
  have hcause : s.sameServoCause (s.stepped q theta v) := s.applyStep_servoCause theta
  refine ⟨?_, State.voidSlots_spentSlots ?_, ?_, nofun, fun _ => ⟨?_, ?_⟩, (hsame0.trans hnote).mono (by decide)⟩
  · rw [State.noteClass_servo, State.noteClass_quality]
    rfl
  · exact hnote .slots (by decide)
  · rw [State.noteClass_shows_iff, State.noteClass_quality, hnoted, State.shows_servo_iff hcause]
  · rw [State.now, State.noteClass_tb]
    exact State.applyStep_now h0 h2
  · exact ⟨hnote .tb (by decide), hnote .entries (by decide), hnote .civil (by decide), hnote .outs (by decide),
      hnote .chain (by decide), hnote .stations (by decide), hnote .mgmtNotices (by decide)⟩

/-- R91: the answer to an accepted sample and what it leaves, by the row of the servo state. -/
theorem sampleReply_sampled (htb : s.timebaseInv) (hp : s.pairs q tc) {stepped : Bool}
    (hj : s.judgeSample (SampleReq.offset q tc) = (v, stepped)) (hparams : v.params = s.servo.params)
    (hn : v.noted = s.servo.noted) (h0 : 0 ≤ s.now + SampleReq.offset q tc) :
    ∃ s' : State, sampleReply q s = (s', some (.ok, .sample
        { seq := q.seq, captured := tc, offset := SampleReq.offset q tc, stepped := stepped, servo := s'.servo.state
          cls := s'.quality }))
      ∧ s.Sampled s' (slotNo q.seq) (SampleReq.offset q tc) v stepped := by
  have hnow := State.now_lt_wrapSpan htb
  have hoff := SampleReq.offset_lt_wrapSpan hp
  have hreply : sampleReply q s = ((s.markSlot q.seq .consumed).takeSample (SampleReq.offset q tc), some (.ok, .sample
      { seq := q.seq, captured := tc, offset := SampleReq.offset q tc, stepped := stepped
        servo := ((s.markSlot q.seq .consumed).takeSample (SampleReq.offset q tc)).servo.state
        cls := ((s.markSlot q.seq .consumed).takeSample (SampleReq.offset q tc)).quality })) := by
    rw [sampleReply_of_pairs hp]
    obtain ⟨-, -, -, htc, -⟩ := hp
    simp only [acceptSample, htc, hj]
  refine ⟨_, hreply, ?_⟩
  have hj' : (s.markSlot q.seq .consumed).judgeSample (SampleReq.offset q tc) = (v, stepped) := hj
  cases stepped with
  | false =>
    rw [State.takeSample_still hj']
    exact State.steered_sampled hn
  | true =>
    have hstep : (s.markSlot q.seq .consumed).applyStep (SampleReq.offset q tc)
        = { s.applyStep (SampleReq.offset q tc) with slots := (s.markSlot q.seq .consumed).voidSlots.slots } :=
      State.applyStep_setSlots _
    rw [State.takeSample_step hj' (congrArg ServoParams.slewRange hparams), hstep]
    exact State.stepped_sampled hn h0 (by omega)

end

/-! ## The rows of ACQUIRE and HOLDOVER (R94, R97) -/

/-- The discipline unit after steps 1 and 2 of R91, in ACQUIRE. -/
def Servo.acquiring (v : Servo) (theta : Int) (cycle : Nat) : Servo := { v.receive theta cycle with state := .acquire }

section

variable {s : State} {theta : Int}

/-- R97: HOLDOVER takes the row of ACQUIRE. -/
theorem State.judgeSample_acquire (h : s.servo.state = .acquire ∨ s.servo.state = .holdover) :
    s.judgeSample theta = (s.servo.acquiring theta s.cycle).acquireRow theta := by
  rcases h with h | h
  · have hr : (s.servo.receive theta s.cycle).state = .acquire := h
    have he : s.servo.acquiring theta s.cycle = s.servo.receive theta s.cycle := by
      rw [Servo.acquiring, ← hr]
    rw [he, State.judgeSample, Servo.row, hr]
  · have hr : (s.servo.receive theta s.cycle).state = .holdover := h
    rw [State.judgeSample, Servo.row, hr]
    rfl

theorem Servo.acquireRow_step {v : Servo} (h : v.params.sth ≤ theta.natAbs) :
    v.acquireRow theta = ({ v with good := 0 }, true) := by
  rw [Servo.acquireRow, if_pos h]

/-- R94: a sample below the threshold makes a PI update, and then moves the good count and the state alone. -/
theorem Servo.acquireRow_steer {v : Servo} (hs : v.state = .acquire) (h : theta.natAbs < v.params.sth) :
    ∃ (st : ServoState) (good outliers : Nat),
      v.acquireRow theta = ({ v.pi theta with state := st, good := good, outliers := outliers }, false)
      ∧ (if theta.natAbs ≤ v.params.lockWin then
           if v.params.lockCount ≤ v.good + 1 then st = .locked ∧ good = 0 ∧ outliers = 0 else st = .acquire ∧ good = v.good + 1
         else st = .acquire ∧ good = 0) := by
  have hpi : (v.pi theta).state = .acquire := hs
  rw [Servo.acquireRow, if_neg (by omega)]
  by_cases hw : theta.natAbs ≤ v.params.lockWin
  · simp only [if_pos hw]
    by_cases hl : v.params.lockCount ≤ v.good + 1
    · simp only [if_pos hl]
      exact ⟨_, _, _, rfl, rfl, rfl, rfl⟩
    · simp only [if_neg hl]
      exact ⟨_, _, _, rfl, hpi, rfl⟩
  · simp only [if_neg hw]
    exact ⟨_, _, _, rfl, hpi, rfl⟩

end

/-- Settles O35: the row of ACQUIRE steps, or makes a PI update without a step. -/
theorem acquireSampleSteers : Obligations.AcquireSampleSteers := by
  intro s t q tc hst htb hp hs v theta l i c hpos
  have hrow := State.judgeSample_acquire (theta := theta) hst
  by_cases hstep : v.params.sth ≤ theta.natAbs
  · rw [Servo.acquireRow_step (v := v.acquiring theta s.cycle) hstep] at hrow
    obtain ⟨s', hreply, h⟩ := sampleReply_sampled htb hp hrow rfl rfl hpos
    rw [decide_eq_true hstep]
    refine ⟨s', exec_sample hs hreply, by rw [h.servo]; rfl, by rw [h.servo]; rfl, by rw [h.servo]; rfl, by rw [h.servo]; rfl,
      by rw [h.servo]; rfl, h.slots, fun _ => ⟨by rw [h.servo]; rfl, by rw [h.servo], by rw [h.servo]; rfl, by rw [h.servo]; rfl,
      by rw [h.servo]; rfl, h.steps rfl⟩, fun hlt => absurd hstep (by omega), by rw [h.servo], h.shows,
      fun hlt => absurd hstep (by omega), h.same⟩
  · have hlt : theta.natAbs < v.params.sth := by omega
    obtain ⟨st, good, outliers, hacq, hstate⟩ := Servo.acquireRow_steer (v := v.acquiring theta s.cycle) rfl hlt
    rw [hacq] at hrow
    obtain ⟨s', hreply, h⟩ := sampleReply_sampled htb hp hrow rfl rfl hpos
    rw [decide_eq_false hstep]
    obtain ⟨hsame, hattn⟩ := h.still rfl
    refine ⟨s', exec_sample hs hreply, by rw [h.servo]; rfl, by rw [h.servo]; rfl, by rw [h.servo]; rfl, by rw [h.servo]; rfl,
      by rw [h.servo]; rfl, h.slots, fun hc => absurd hc hstep, fun _ => ⟨by rw [h.servo]; rfl, by rw [h.servo]; rfl, hsame, ?_⟩,
      by rw [h.servo], h.shows, fun _ => hattn, h.same⟩
    rw [h.servo]
    exact hstate

/-! ## The row of LOCKED (R95, R96) -/

/-- The discipline unit after an outlier is counted (R96). -/
def Servo.outlying (v : Servo) : Servo :=
  { v with outliers := v.outliers + 1, counters := { v.counters with outliers := satAdd counterTop v.counters.outliers 1 } }

section

variable {s : State} {v : Servo} {theta : Int}

theorem State.judgeSample_locked (h : s.servo.state = .locked) :
    s.judgeSample theta = (s.servo.receive theta s.cycle).lockedRow theta := by
  have hr : (s.servo.receive theta s.cycle).state = .locked := h
  rw [State.judgeSample, Servo.row, hr]

/-- R95: a sample below the threshold. -/
theorem Servo.lockedRow_steer (hs : v.state = .locked) (h : theta.natAbs < v.params.sth) :
    ∃ (st : ServoState) (good : Nat),
      v.lockedRow theta = ({ v.pi theta with state := st, good := good, outliers := 0 }, false)
      ∧ (if v.params.unlockWin < theta.natAbs then st = .acquire ∧ good = 0 else st = .locked ∧ good = v.good) := by
  have hpi : (v.pi theta).state = .locked := hs
  rw [Servo.lockedRow, if_neg (by omega)]
  by_cases hw : v.params.unlockWin < theta.natAbs
  · simp only [if_pos hw]
    exact ⟨_, _, rfl, rfl, rfl⟩
  · simp only [if_neg hw]
    exact ⟨_, _, rfl, hpi, rfl⟩

theorem Servo.lockedRow_outlier (h : v.params.sth ≤ theta.natAbs) (hc : v.outliers + 1 < v.params.persist) :
    v.lockedRow theta = (v.outlying, false) := by
  rw [Servo.lockedRow, if_pos h]
  exact if_pos hc

theorem Servo.lockedRow_step (h : v.params.sth ≤ theta.natAbs) (hc : ¬v.outliers + 1 < v.params.persist) :
    v.lockedRow theta = ({ v.outlying with good := 0, outliers := 0, state := .acquire }, true) := by
  rw [Servo.lockedRow, if_pos h]
  exact if_neg hc

end

/-- Settles O36: the row of LOCKED steers, counts an outlier, or steps at the persistence. -/
theorem lockedSampleSteersOrCounts : Obligations.LockedSampleSteersOrCounts := by
  intro s t q tc hst htb hp hs v theta l i c hpos
  have hrow := State.judgeSample_locked (theta := theta) hst
  by_cases hstep : v.params.sth ≤ theta.natAbs
  · by_cases hcount : v.outliers + 1 < v.params.persist
    · rw [Servo.lockedRow_outlier (v := v.receive theta s.cycle) hstep hcount] at hrow
      obtain ⟨s', hreply, h⟩ := sampleReply_sampled htb hp hrow rfl rfl hpos
      obtain ⟨hsame, hattn⟩ := h.still rfl
      refine ⟨s', false, exec_sample hs hreply, fun hlt => absurd hstep (by omega), fun _ => ⟨by rw [h.servo]; rfl,
        by rw [h.servo]; rfl, by rw [h.servo]; rfl, ?_⟩, by rw [h.servo], h.shows, fun _ => hattn, h.slots, by rw [h.servo]; rfl,
        by rw [h.servo]; rfl, by rw [h.servo]; rfl, by rw [h.servo]; rfl, h.same⟩
      rw [if_pos hcount, h.servo]
      exact ⟨rfl, hst, rfl, rfl, hsame⟩
    · rw [Servo.lockedRow_step (v := v.receive theta s.cycle) hstep hcount] at hrow
      obtain ⟨s', hreply, h⟩ := sampleReply_sampled htb hp hrow rfl rfl hpos
      obtain ⟨hnow, hstepped⟩ := h.steps rfl
      refine ⟨s', true, exec_sample hs hreply, fun hlt => absurd hstep (by omega), fun _ => ⟨by rw [h.servo]; rfl,
        by rw [h.servo]; rfl, by rw [h.servo]; rfl, ?_⟩, by rw [h.servo], h.shows, nofun, h.slots, by rw [h.servo]; rfl,
        by rw [h.servo]; rfl, by rw [h.servo]; rfl, by rw [h.servo]; rfl, h.same⟩
      rw [if_neg hcount, h.servo]
      exact ⟨rfl, rfl, rfl, rfl, rfl, hnow, hstepped⟩
  · have hlt : theta.natAbs < v.params.sth := by omega
    obtain ⟨st, good, hlocked, hstate⟩ := Servo.lockedRow_steer (v := v.receive theta s.cycle) hst hlt
    rw [hlocked] at hrow
    obtain ⟨s', hreply, h⟩ := sampleReply_sampled htb hp hrow rfl rfl hpos
    obtain ⟨hsame, hattn⟩ := h.still rfl
    refine ⟨s', false, exec_sample hs hreply, fun _ => ⟨rfl, by rw [h.servo], by rw [h.servo]; rfl, by rw [h.servo]; rfl, hsame, ?_⟩,
      fun hc => absurd hc hstep, by rw [h.servo], h.shows, fun _ => hattn, h.slots, by rw [h.servo]; rfl, by rw [h.servo]; rfl,
      by rw [h.servo]; rfl, by rw [h.servo]; rfl, h.same⟩
    rw [h.servo]
    exact hstate

end Sys2Proof.Machine

/-! PROOFS. A timebase step at the entries, the outputs and the labels, and the seconds wrap (R43 to R47, R61, R76, R77, R113):
O37, O46. -/

namespace Sys2Proof.Machine

open Sys2Proof Config

/-! ## One entry at a step -/

/-- Entry `e` with its last mark moved by a step of `theta` (R43). -/
def Entry.carried (e : Entry) (theta : Int) : Entry := { e with lm := e.lm.map (· + theta) }

/-- R43 to R47: what a step of `theta` to instant `t` makes of entry `e` under slew range `range`, how its streams are planned
anew, and what becomes of the outputs bound to it. -/
inductive Entry.Steps (e : Entry) (range : Nat) (theta t : Int) : Entry → Replan → (Output → Output) → Prop
  | waits : e.motion = .pending → e.Steps range theta t ((e.carried theta).waitFrom t) (.recompute e) id
  | snaps : e.motion ≠ .pending → (e.carried theta).snapsBy theta →
      e.Steps range theta t ((e.carried theta).snapped t) .snapped
        (fun o => o.atSnap ((e.carried theta).snapped t) (-e.eps) t)
  | absorbs : e.motion ≠ .pending → ¬(e.carried theta).snapsBy theta →
      e.Steps range theta t ((e.carried theta).carrying range theta) (.recompute e) (fun o => o.shift theta t)

section

variable {e m : Entry} {range : Nat} {theta t : Int} {how : Replan} {g : Output → Output}

theorem Entry.Steps.exists (e : Entry) (range : Nat) (theta t : Int) : ∃ m how g, e.Steps range theta t m how g := by
  by_cases hm : e.motion = .pending
  · exact ⟨_, _, _, .waits hm⟩
  · by_cases hs : (e.carried theta).snapsBy theta
    · exact ⟨_, _, _, .snaps hm hs⟩
    · exact ⟨_, _, _, .absorbs hm hs⟩

theorem Entry.Steps.outlives (h : e.Steps range theta t m how g) (hl : e.state ≠ .vacant) : m.outlives e := by
  cases h with
  | waits hm => exact ⟨⟨rfl, rfl, rfl, rfl⟩, hl, rfl, rfl, Iff.rfl⟩
  | snaps hm hs =>
    obtain ⟨ht, hv, he, hk, hend⟩ := (e.carried theta).snapped_outlives t
    exact ⟨ht, hv, he, hk, hend⟩
  | absorbs hm hs =>
    obtain ⟨ht, hv, he, hk, hend⟩ := (e.carried theta).carrying_outlives range theta
    exact ⟨ht, hv, he, hk, hend⟩

theorem Entry.snapped_plain (e : Entry) (r : Int) : (e.snapped r).num = e.num ∧ (e.snapped r).den = e.den
    ∧ (e.snapped r).base = e.base ∧ (e.snapped r).next = e.next := by
  unfold Entry.snapped
  dsimp only
  split <;> exact ⟨rfl, rfl, rfl, rfl⟩

/-- A step leaves the rate and the label bases of an entry. -/
theorem Entry.Steps.plain (h : e.Steps range theta t m how g) :
    m.num = e.num ∧ m.den = e.den ∧ m.base = e.base ∧ m.next = e.next := by
  cases h with
  | waits hm => exact ⟨rfl, rfl, rfl, rfl⟩
  | snaps hm hs => exact (e.carried theta).snapped_plain t
  | absorbs hm hs => exact ⟨rfl, rfl, rfl, rfl⟩

/-- R44, R45: the motion of an offset that the policy absorbs. -/
theorem Entry.carrying_motion (e : Entry) (range : Nat) (d : Int) :
    e.carrying range d = (
      let eps := e.eps + d
      let motion : Motion :=
        if eps = 0 then .running else if e.policy = .slew ∧ eps.natAbs ≤ range then .slewing else .held
      { e with eps := eps, motion := motion, state := if e.state = .ending then .ending else motion.toState }) := by
  unfold Entry.carrying Entry.withMotion
  by_cases hs : e.policy = Policy.slew
  · simp only [slewMotion, hs, true_and, if_true]
  · simp only [holdMotion, hs, false_and, if_false]

theorem Entry.absorbed_carrying {e : Entry} {d r : Int} (hm : e.motion ≠ .pending) (hs : ¬e.snapsBy d) :
    e.absorbed range d r (e.carrying range d) := by
  have hnot : ¬(e.policy = .snap ∨ e.eps + d < -9223372036854775808 ∨ 9223372036854775807 < e.eps + d) :=
    fun h => hs ((e.snapsBy_iff d).2 h)
  refine ⟨fun h => absurd h hm, fun _ h => ?_, fun _ _ _ => e.carrying_motion range d⟩
  refine absurd (h.imp_right fun h => ?_) hnot
  by_contra hc
  exact h ⟨by omega, by omega⟩

theorem Entry.absorbed_snapped {e : Entry} {d r : Int} (hm : e.motion ≠ .pending) (hs : e.snapsBy d) :
    e.absorbed range d r (e.snapped r) := by
  have hsnap := (e.snapsBy_iff d).1 hs
  refine ⟨fun h => absurd h hm, fun _ _ => rfl, fun _ hp hin => ?_⟩
  obtain ⟨h1, h2⟩ := hin
  rcases hsnap with h | h | h
  · exact absurd h hp
  · omega
  · omega

theorem Entry.absorbed_waiting {e : Entry} {d r : Int} (hm : e.motion = .pending) (hn : 0 < e.num) (hd : 0 < e.den) :
    e.absorbed range d r (e.waitFrom r) :=
  ⟨fun _ => ⟨startMark e.num e.den e.phi r, rfl, fun _ => startMark_le_iff _ _ _ hn hd⟩, fun h => absurd hm h, fun h => absurd hm h⟩

theorem Entry.Steps.absorbed (h : e.Steps range theta t m how g) (hn : 0 < e.num) (hd : 0 < e.den) :
    (e.carried theta).absorbed range theta t m := by
  cases h with
  | waits hm => exact Entry.absorbed_waiting (e := e.carried theta) hm hn hd
  | snaps hm hs => exact Entry.absorbed_snapped (e := e.carried theta) hm hs
  | absorbs hm hs => exact Entry.absorbed_carrying (e := e.carried theta) hm hs

/-- What a step makes of an output bound to an entry touches neither the pulse in progress nor the last inactive edge. -/
theorem Entry.Steps.quiet (h : e.Steps range theta t m how g) (o : Output) :
    (g o).inProgress = o.inProgress ∧ (g o).lastInactive = o.lastInactive ∧ (g o).discard = o.discard := by
  cases h with
  | waits hm => exact ⟨rfl, rfl, rfl⟩
  | snaps hm hs =>
    refine ⟨?_, ?_, o.atSnap_discard _ _ _⟩
    · unfold Output.atSnap
      split <;> rfl
    · unfold Output.atSnap
      split <;> rfl
  | absorbs hm hs => exact ⟨rfl, rfl, o.shift_discard _ _⟩

theorem Entry.Steps.how_eq (h : e.Steps range theta t m how g) :
    (e.motion ≠ .pending ∧ (e.carried theta).snapsBy theta → how = .snapped)
    ∧ (¬(e.motion ≠ .pending ∧ (e.carried theta).snapsBy theta) → how = .recompute e) := by
  cases h with
  | waits hm => exact ⟨fun hc => absurd hm hc.1, fun _ => rfl⟩
  | snaps hm hs => exact ⟨fun _ => rfl, fun hc => absurd ⟨hm, hs⟩ hc⟩
  | absorbs hm hs => exact ⟨fun hc => absurd hc.2 hs, fun _ => rfl⟩

/-- R112, R113: what a step makes of an output bound to the entry. -/
theorem Entry.Steps.outputs (h : e.Steps range theta t m how g) (o : Output) :
    (e.motion = .pending → g o = o)
    ∧ (e.motion ≠ .pending → ¬(e.carried theta).snapsBy theta → o.moved theta t (g o))
    ∧ (e.motion ≠ .pending → (e.carried theta).snapsBy theta → m.motion = .running → o.moved (-e.eps) t (g o))
    ∧ (e.motion ≠ .pending → (e.carried theta).snapsBy theta → m.motion = .pending → o.emptied (g o)) := by
  cases h with
  | waits hm => exact ⟨fun _ => rfl, fun hc => absurd hm hc, fun hc => absurd hm hc, fun hc => absurd hm hc⟩
  | snaps hm hs =>
    refine ⟨fun hc => absurd hc hm, fun _ hc => absurd hs hc, fun _ _ hrun => ?_, fun _ _ hpend => ?_⟩
    · unfold Output.atSnap
      dsimp only
      rw [if_neg (by rw [hrun]; decide)]
      exact Output.shift_moved _ _ _
    · unfold Output.atSnap
      dsimp only
      rw [if_pos hpend, Output.shift_discard]
      exact Output.discard_emptied _
  | absorbs hm hs =>
    exact ⟨fun hc => absurd hc hm, fun _ _ => Output.shift_moved _ _ _, fun _ hc => absurd hc hs, fun _ hc => absurd hc hs⟩

theorem Entry.Steps.binding (h : e.Steps range theta t m how g) (o : Output) : (g o).binding = o.binding := by
  cases h with
  | waits hm => rfl
  | snaps hm hs =>
    unfold Output.atSnap
    split <;> rfl
  | absorbs hm hs => rfl

end

/-! ## The step of one entry in its state -/

section

variable {u : State} {i : Idx} {theta : Int} {t : Nat} {m : Entry} {how : Replan} {g : Output → Output}

theorem State.stepEntry_vacant (h : u.entries[i].state = .vacant) : u.stepEntry theta t i = u := by
  rw [State.stepEntry, if_pos h]

/-- The step of an entry before its notice and its end check. -/
def State.stepDraft (u : State) (theta : Int) (t : Nat) (i : Idx) : State :=
  let s1 := u.setEntry i (u.entries[i].carried theta)
  if u.entries[i].motion = .pending then
    (s1.setEntry i ((u.entries[i].carried theta).waitFrom t)).replan i (.recompute u.entries[i]) t
  else s1.moveOffset i u.entries[i] theta theta (-u.entries[i].eps) t

/-- R20: an entry that a step has reached retires at once where the step is forward and its end instant has come. -/
def State.stepCheck (u : State) (theta : Int) (t : Nat) (i : Idx) : State :=
  if u.entries[i].state = .ending ∧ 0 < theta ∧ u.entries[i].endAt.any (fun x => x ≤ t) then u.retire i else u.endCheck i

theorem State.stepEntry_live (h : u.entries[i].state ≠ .vacant) :
    u.stepEntry theta t i = ((u.stepDraft theta t i).notify i).stepCheck theta t i := by
  rw [State.stepEntry, if_neg h]
  rfl

theorem State.stepDraft_drafted (hst : u.entries[i].Steps u.servo.params.slewRange theta t m how g) :
    u.Drafted (u.stepDraft theta t i) i m (fun st delta => st.replan how m delta t) g := by
  have h1 := (State.Drafted.refl u i).setEntry (u.entries[i].carried theta)
  unfold State.stepDraft
  dsimp only
  cases hst with
  | waits hm =>
    rw [if_pos hm]
    exact (h1.setEntry _).replan _ _
  | snaps hm hs =>
    rw [if_neg hm]
    exact h1.moveOffset_snaps _ _ _ _ hs
  | absorbs hm hs =>
    rw [if_neg hm]
    exact h1.moveOffset_absorbs _ _ _ _ hs

theorem Entry.endsAt_iff_of_still {m : Entry} {t : Nat} {forward : Prop}
    (h : ¬(m.state = .ending ∧ forward ∧ m.endAt.any (fun x => x ≤ t) = true)) : m.endsAt t forward ↔ m.endsAt t False := by
  constructor
  · rintro ⟨hs, x, hx, hle, hf | ha⟩
    · refine absurd ⟨hs, hf, ?_⟩ h
      rw [hx, Option.any_some, decide_eq_true_eq]
      omega
    · exact ⟨hs, x, hx, hle, .inr ha⟩
  · rintro ⟨hs, x, hx, hle, hf | ha⟩
    · exact hf.elim
    · exact ⟨hs, x, hx, hle, .inr ha⟩

theorem Entry.endsAt_of_forward {m : Entry} {t : Nat} {forward : Prop}
    (h : m.state = .ending ∧ forward ∧ m.endAt.any (fun x => x ≤ t) = true) : m.endsAt t forward := by
  obtain ⟨hs, hf, ha⟩ := h
  obtain ⟨x, hx, hle⟩ := (Option.any_eq_true _ _).1 ha
  exact ⟨hs, x, hx, by simpa using hle, .inl hf⟩

/-- R20, R43 to R47: what a step leaves of an entry that stood. -/
theorem State.stepEntry_settled (hnow : u.now = t) (hl : u.entries[i].state ≠ .vacant)
    (hst : u.entries[i].Steps u.servo.params.slewRange theta t m how g) :
    u.Settled (u.stepEntry theta t i) i m.checked (fun st delta => st.replan how m delta t) g (m.endsAt t (0 < theta))
      ∧ (u.stepEntry theta t i).noted i u.entries[i] := by
  have hout := hst.outlives hl
  have hdraft := (State.stepDraft_drafted hst).notify
  have hnoted := (State.stepDraft_drafted hst).noted hout.tied
  rw [State.stepEntry_live hl, State.stepCheck, hdraft.entry]
  by_cases hf : m.state = .ending ∧ 0 < theta ∧ m.endAt.any (fun x => x ≤ t) = true
  · have hgone := Entry.endsAt_of_forward hf
    have hret := hdraft.retire hout.live hout.tied hgone
    rw [if_pos hf]
    exact ⟨{ hret with entryKept := fun hc => absurd hgone hc }, hnoted.grow (State.retire_noticesGrow _ i)⟩
  · have hset := hdraft.endCheck hout.live hout.tied
    rw [hnow, ← propext (Entry.endsAt_iff_of_still hf)] at hset
    rw [if_neg hf]
    exact ⟨hset, hnoted.endCheck i⟩

end

/-! ## What the other entries' steps leave of one entry and its ties -/

/-- `v` agrees with `u` on entry `i`, the streams on it and the outputs bound to it, and has no notice less. -/
structure State.Apart (i : Idx) (u v : State) : Prop where
  entry : v.entries[i] = u.entries[i]
  streams : ∀ (x : Addr) (st : Stream), u.stations[x].stream = some st → st.entry.index = i → v.stations[x].stream = some st
  outs : ∀ o : OutNo, u.outs[o].boundTo i = true → v.outs[o] = u.outs[o]
  notices : u.noticesGrow v
  same : u.sameBut tableParts v

/-- What every event at an entry leaves of the stations' records and of the outputs. -/
structure State.Around (u v : State) : Prop where
  stations : ∀ x : Addr, v.stations[x] = { u.stations[x] with
    notices := v.stations[x].notices, watchList := v.stations[x].watchList, owned := v.stations[x].owned
    stream := v.stations[x].stream }
  noStream : ∀ x : Addr, u.stations[x].stream = none → v.stations[x].stream = none
  outs : ∀ o : OutNo, v.outs[o].inProgress = u.outs[o].inProgress ∧ v.outs[o].lastInactive = u.outs[o].lastInactive
  unbound : ∀ o : OutNo, u.outs[o].binding = none → v.outs[o] = u.outs[o]

section

variable {u v w : State} {i j : Idx} {theta : Int} {t : Nat} {m : Entry} {how : Replan} {f : Stream → Option Nat → Stream}
  {g : Output → Output} {gone : Prop}

theorem State.Apart.refl (i : Idx) (u : State) : State.Apart i u u :=
  ⟨rfl, fun _ _ h _ => h, fun _ _ => rfl, .refl u, .refl u _⟩

theorem State.Apart.trans (h : State.Apart i u v) (h' : State.Apart i v w) : State.Apart i u w where
  entry := h'.entry.trans h.entry
  streams x st hs hi := h'.streams x st (h.streams x st hs hi) hi
  outs o ho := by rw [h'.outs o (by rw [h.outs o ho, ho]), h.outs o ho]
  notices := h.notices.trans h'.notices
  same := h.same.comp h'.same

theorem State.Around.refl (u : State) : u.Around u := ⟨fun _ => rfl, fun _ h => h, fun _ => ⟨rfl, rfl⟩, fun _ _ => rfl⟩

theorem State.Around.trans (h : u.Around v) (h' : v.Around w) : u.Around w where
  stations x := by
    rw [h'.stations x]
    generalize w.stations[x] = r
    rw [h.stations x]
  noStream x hx := h'.noStream x (h.noStream x hx)
  outs o := ⟨(h'.outs o).1.trans (h.outs o).1, (h'.outs o).2.trans (h.outs o).2⟩
  unbound o ho := by rw [h'.unbound o (by rw [h.unbound o ho, ho]), h.unbound o ho]

theorem Station.streams_of_ne {r : Station} {st : Stream} (h : r.stream = some st) (hne : st.entry.index ≠ j) :
    ¬r.streams j = true := by
  simp [Station.streams, h, hne]

theorem Output.boundTo_ne {o : Output} (h : o.boundTo i = true) (hne : j ≠ i) : o.boundTo j = false := by
  unfold Output.boundTo at h ⊢
  cases hb : o.binding with
  | none => rfl
  | some r =>
    rw [hb] at h
    simp only [Option.any_some, decide_eq_true_eq, decide_eq_false_iff_not] at h ⊢
    exact fun hc => hne (hc.symm.trans h)

/-- An event at another entry. -/
theorem State.Settled.apart (h : u.Settled v j m f g gone) (hne : j ≠ i) : State.Apart i u v where
  entry := h.others i (Ne.symm hne)
  streams x st hs hi := by
    have hj : st.entry.index ≠ j := fun hc => hne (hc.symm.trans hi)
    by_cases hg : gone
    · rw [(h.stations x).1 hg, if_neg (Station.streams_of_ne hs hj)]
      exact hs
    · rw [(h.stations x).2 hg, hs]
      simp [hj]
  outs o ho := h.free o (Output.boundTo_ne ho hne)
  notices := h.notices
  same := h.same

theorem State.Settled.around (h : u.Settled v j m f g gone)
    (hg : ∀ o, (g o).inProgress = o.inProgress ∧ (g o).lastInactive = o.lastInactive) : u.Around v where
  stations x := by
    by_cases hc : gone
    · rw [(h.stations x).1 hc]
    · rw [(h.stations x).2 hc]
  noStream x hx := by
    by_cases hc : gone
    · rw [(h.stations x).1 hc]
      dsimp only
      split
      · rfl
      · exact hx
    · rw [(h.stations x).2 hc, hx]
      rfl
  outs o := by
    cases hb : u.outs[o].boundTo j with
    | false => rw [h.free o hb]; exact ⟨rfl, rfl⟩
    | true =>
      by_cases hc : gone
      · rw [h.boundGone hc o hb]
        exact hg _
      · rw [h.boundKept hc o hb]
        exact hg _
  unbound o ho := h.free o (by rw [Output.boundTo, ho]; rfl)

theorem State.Apart.now (h : State.Apart i u v) : v.now = u.now := by
  have htb : v.tb = u.tb := h.same .tb (by decide)
  rw [State.now, State.now, htb]

theorem State.stepEntry_apart (hnow : u.now = t) (hne : j ≠ i) : State.Apart i u (u.stepEntry theta t j) := by
  by_cases hl : u.entries[j].state = .vacant
  · rw [State.stepEntry_vacant hl]
    exact .refl i u
  · obtain ⟨m, how, g, hst⟩ := Entry.Steps.exists u.entries[j] u.servo.params.slewRange theta t
    exact (State.stepEntry_settled hnow hl hst).1.apart hne

theorem State.stepEntry_around (hnow : u.now = t) (j : Idx) : u.Around (u.stepEntry theta t j) := by
  by_cases hl : u.entries[j].state = .vacant
  · rw [State.stepEntry_vacant hl]
    exact .refl u
  · obtain ⟨m, how, g, hst⟩ := Entry.Steps.exists u.entries[j] u.servo.params.slewRange theta t
    exact (State.stepEntry_settled hnow hl hst).1.around fun o => ⟨(hst.quiet o).1, (hst.quiet o).2.1⟩

theorem State.stepEntry_now (u : State) (j : Idx) : (u.stepEntry theta t j).now = u.now := by
  have htb : (u.stepEntry theta t j).tb = u.tb := u.stepEntry_sameBut theta t j .tb (by decide)
  rw [State.now, State.now, htb]

theorem State.foldl_step_apart (hnow : u.now = t) (l : List Idx) (hl : ∀ j ∈ l, j ≠ i) :
    State.Apart i u (l.foldl (State.stepEntry theta t) u) := by
  induction l generalizing u with
  | nil => exact .refl i u
  | cons j l ih =>
    have h1 := State.stepEntry_apart (theta := theta) hnow (hl j List.mem_cons_self)
    exact h1.trans (ih ((u.stepEntry_now j).trans hnow) fun k hk => hl k (List.mem_cons_of_mem _ hk))

theorem State.foldl_step_around (hnow : u.now = t) (l : List Idx) : u.Around (l.foldl (State.stepEntry theta t) u) := by
  induction l generalizing u with
  | nil => exact .refl u
  | cons j l ih => exact (State.stepEntry_around hnow j).trans (ih ((u.stepEntry_now j).trans hnow))

/-- The steps of the 64 entries, that of entry `i` told apart from those before and after it. -/
theorem State.foldl_step_split (hnow : u.now = t) (i : Idx) :
    ∃ a : State, State.Apart i u a ∧ u.Around a ∧ a.now = t
      ∧ State.Apart i (a.stepEntry theta t i) ((List.finRange 64).foldl (State.stepEntry theta t) u)
      ∧ (a.stepEntry theta t i).Around ((List.finRange 64).foldl (State.stepEntry theta t) u) := by
  obtain ⟨l1, l2, hsplit⟩ := List.append_of_mem (List.mem_finRange i)
  have hnodup : (l1 ++ i :: l2).Nodup := hsplit ▸ List.nodup_finRange 64
  rw [List.nodup_append] at hnodup
  obtain ⟨-, hn2, hdisj⟩ := hnodup
  have h1 : State.Apart i u (l1.foldl (State.stepEntry theta t) u) :=
    State.foldl_step_apart hnow l1 fun j hj => hdisj j hj i List.mem_cons_self
  have hnow1 := h1.now.trans hnow
  have hnow2 := (State.stepEntry_now (theta := theta) (t := t) (l1.foldl (State.stepEntry theta t) u) i).trans hnow1
  refine ⟨_, h1, State.foldl_step_around hnow l1, hnow1, ?_, ?_⟩
  · rw [hsplit, List.foldl_append, List.foldl_cons]
    exact State.foldl_step_apart hnow2 l2 fun j hj hc => (List.nodup_cons.1 hn2).1 (hc ▸ hj)
  · rw [hsplit, List.foldl_append, List.foldl_cons]
    exact State.foldl_step_around hnow2 l2

end

/-! ## The labels at a step (R61) -/

/-- R61: the pending leap that a step to instant `t` takes. -/
def Civil.leapAt (c : Civil) (t : Int) : Option (Int × Nat) :=
  match c.pending with
  | some (o, eo) => if (eo : Int) * 1000000000 ≤ t then some (o, eo) else none
  | none => none

theorem Civil.atStep_leap {c : Civil} {t : Nat} {o : Int} {eo : Nat} (h : c.leapAt t = some (o, eo)) :
    c.atStep t = { c with offset := o, pending := none, tL := some eo } := by
  cases hp : c.pending with
  | none => simp [Civil.leapAt, hp] at h
  | some p =>
    obtain ⟨o', eo'⟩ := p
    simp only [Civil.leapAt, hp, Option.ite_none_right_eq_some, Option.some.injEq, Prod.mk.injEq] at h
    obtain ⟨hle, rfl, rfl⟩ := h
    have h1 : eo' * second ≤ t := by simp only [second]; omega
    simp only [Civil.atStep, Civil.leapTaken, Civil.leapDropped, hp, if_pos h1, if_neg (Nat.not_lt.2 h1)]

theorem Civil.atStep_keep {c : Civil} {t : Nat} (h : c.leapAt t = none) :
    c.atStep t = { c with tL := match c.tL with
      | some l => if (t : Int) < (l : Int) * 1000000000 then none else some l
      | none => none } := by
  have hnone : ∀ o eo, c.pending = some (o, eo) → ¬eo * second ≤ t := fun o eo hp hle => by
    simp only [Civil.leapAt, hp, second] at h hle
    rw [if_pos (by omega)] at h
    cases h
  have htaken : c.leapTaken t = c := by
    unfold Civil.leapTaken
    split
    · next o eo hp => exact if_neg (hnone o eo hp)
    · rfl
  rw [Civil.atStep, htaken, Civil.leapDropped]
  cases hl : c.tL with
  | none =>
    dsimp only
    rw [← hl]
  | some l =>
    dsimp only
    by_cases hlt : t < l * second
    · rw [if_pos hlt, if_pos (by simp only [second] at hlt; omega)]
    · rw [if_neg hlt, if_neg (by simp only [second] at hlt; omega), ← hl]

section

variable {u : State} {t : Nat} {i : Idx}

theorem State.stepLabels_same (u : State) (t : Nat) : u.sameBut [.civil, .entries] (u.stepLabels t) := by
  rw [State.stepLabels_eq]
  exact ((u.setCivilPart_sameBut _).trans (State.rebase_sameBut _ _ t)).mono (by decide)

theorem State.stepLabels_civil (u : State) (t : Nat) : (u.stepLabels t).civil = (u.civil.atStep t).rebased t := by
  rw [State.stepLabels_eq, State.rebase_civil]

theorem State.stepLabels_unbased (u : State) (t : Nat) (i : Idx) :
    (u.stepLabels t).entries[i].unbased = u.entries[i].unbased := by
  rw [State.stepLabels_eq, State.rebase_unbased]

/-- R58: where tB, O and J stand, every entry stands as it stood. -/
theorem State.stepLabels_kept (h : (u.stepLabels t).civil.tB = u.civil.tB ∧ (u.stepLabels t).civil.offset = u.civil.offset
    ∧ (u.stepLabels t).civil.jam = u.civil.jam) : (u.stepLabels t).entries[i] = u.entries[i] := by
  rw [State.stepLabels_civil] at h
  rw [State.stepLabels_eq]
  exact State.rebase_kept_at _ _ _ ((Civil.keepsBases_iff _ _).2 h) i

theorem State.stepLabels_labelled (h : ¬((u.stepLabels t).civil.tB = u.civil.tB
    ∧ (u.stepLabels t).civil.offset = u.civil.offset ∧ (u.stepLabels t).civil.jam = u.civil.jam))
    (hl : u.entries[i].state ≠ .vacant) (hn : 0 < u.entries[i].num) (hd : 0 < u.entries[i].den) :
    (u.stepLabels t).entries[i].labelled (u.stepLabels t).civil := by
  rw [State.stepLabels_civil] at h ⊢
  have hmoved : u.civil.keepsBases ((u.civil.atStep t).rebased t) = false :=
    Bool.eq_false_iff.2 fun hk => h ((Civil.keepsBases_iff _ _).1 hk)
  rw [State.stepLabels_eq, State.rebase_moved_at _ _ _ hmoved]
  exact (if_neg hl) ▸ Entry.withBases_labelled _ hn hd

/-- A VACANT entry has no bases to re-base. -/
theorem State.stepLabels_vacant (hl : u.entries[i].state = .vacant) : (u.stepLabels t).entries[i] = u.entries[i] := by
  by_cases h : u.civil.keepsBases ((u.civil.atStep t).rebased t) = true
  · rw [State.stepLabels_eq]
    exact State.rebase_kept_at _ _ _ h i
  · rw [State.stepLabels_eq, State.rebase_moved_at _ _ _ (Bool.eq_false_iff.2 h)]
    exact if_pos hl

end

/-! ## The whole step -/

/-- The state from which the steps of the entries start (R77). -/
def State.stepBase (s : State) (theta : Int) (t : Nat) : State := (s.setTime t).stepRecords theta

/-- The state that the steps of the entries leave, before that of the labels. -/
def State.stepTable (s : State) (theta : Int) (t : Nat) : State :=
  (List.finRange 64).foldl (State.stepEntry theta t) (s.stepBase theta t)

section

variable {s : State} {theta : Int} {t : Nat}

/-- R77: a step that stays below the wrap. -/
theorem State.applyStep_eq (ht : (t : Int) = s.now + theta) (hlt : t < wrapSpan) :
    s.applyStep theta = (s.stepTable theta t).stepLabels t := by
  have htarget : s.stepTarget theta = t := by
    simp only [State.stepTarget]
    rw [if_pos (by omega), ← ht, Int.toNat_natCast]
  rw [State.applyStep, htarget, if_neg (Nat.not_le.2 hlt)]
  rfl

theorem State.stepBase_outs (s : State) (theta : Int) (t : Nat) (o : OutNo) :
    (s.stepBase theta t).outs[o] = Output.stepped theta s.outs[o] := by
  rw [State.stepBase, State.stepRecords]
  simp only [Fin.getElem_fin, State.mapOutputs_at]
  rfl

theorem State.stepBase_now (s : State) (theta : Int) (t : Nat) : (s.stepBase theta t).now = t := by
  rw [State.stepBase, State.stepRecords, State.now, State.mapOutputs_tb]
  exact s.setTime_now t

theorem State.stepBase_same (s : State) (theta : Int) (t : Nat) :
    s.sameBut [.tb, .slots, .chain, .outs] (s.stepBase theta t) := by
  intro p hp
  cases p <;> simp [State.samePart, State.stepBase, State.stepRecords, State.voidSlots, State.setTime] at hp ⊢

theorem State.stepBase_stations (s : State) (theta : Int) (t : Nat) : (s.stepBase theta t).stations = s.stations :=
  s.stepBase_same theta t .stations (by decide)

theorem State.stepBase_entries (s : State) (theta : Int) (t : Nat) : (s.stepBase theta t).entries = s.entries :=
  s.stepBase_same theta t .entries (by decide)

/-- What a step has left of entry `i` before the labels take their turn: `m` is what the policy makes of it, and it retires where
`gone` holds. -/
structure State.EntryStepped (s u : State) (i : Idx) (base : State) (m : Entry) (how : Replan) (g : Output → Output) (t : Int)
    (gone : Prop) : Prop where
  entryGone : gone → u.entries[i] = Entry.vacantAt (s.entries[i].gen + 1)
  entryKept : ¬gone → u.entries[i] = m.checked
  streamGone : gone → ∀ (x : Addr) (st : Stream), s.stations[x].stream = some st → st.entry.index = i → u.stations[x].stream = none
  streamKept : ¬gone → ∀ (x : Addr) (st : Stream), s.stations[x].stream = some st → st.entry.index = i →
    u.stations[x].stream = some (st.replan how m s.stations[x].delta t)
  noted : u.noted i s.entries[i]
  outGone : gone → ∀ o : OutNo, s.outs[o].boundTo i = true → u.outs[o] = (g base.outs[o]).unbind
  outKept : ¬gone → ∀ o : OutNo, s.outs[o].boundTo i = true → u.outs[o] = g base.outs[o]

theorem State.stepTable_entry {i : Idx} (hl : s.entries[i].state ≠ .vacant) :
    ∃ m how g, s.entries[i].Steps s.servo.params.slewRange theta t m how g
      ∧ s.EntryStepped (s.stepTable theta t) i (s.stepBase theta t) m how g t (m.endsAt t (0 < theta)) := by
  obtain ⟨a, hpre, haround, hnow, hpost, hpostAround⟩ :=
    State.foldl_step_split (theta := theta) (s.stepBase_now theta t) i
  have hentry : a.entries[i] = s.entries[i] := by rw [hpre.entry, s.stepBase_entries]
  have hservo : a.servo = s.servo := (hpre.same .servo (by decide)).trans (s.stepBase_same theta t .servo (by decide))
  have hdelta (x : Addr) : a.stations[x].delta = s.stations[x].delta := by
    rw [haround.stations x, s.stepBase_stations]
  have hbound (o : OutNo) (ho : s.outs[o].boundTo i = true) :
      a.outs[o].boundTo i = true ∧ a.outs[o] = (s.stepBase theta t).outs[o] := by
    have hb : (s.stepBase theta t).outs[o].boundTo i = true := by rw [s.stepBase_outs]; exact ho
    exact ⟨by rw [hpre.outs o hb, hb], hpre.outs o hb⟩
  have hstream (x : Addr) (st : Stream) (hs : s.stations[x].stream = some st) (hi : st.entry.index = i) :
      a.stations[x].stream = some st := hpre.streams x st (by rw [s.stepBase_stations, hs]) hi
  obtain ⟨m, how, g, hst⟩ := Entry.Steps.exists s.entries[i] s.servo.params.slewRange theta t
  obtain ⟨hset, hnoted⟩ := State.stepEntry_settled (m := m) (how := how) (g := g) hnow (by rwa [hentry])
    (by rw [hentry, hservo]; exact hst)
  rw [hentry] at hnoted
  have hkeeps : ∀ (st : Stream) (delta : Option Nat), (st.replan how m delta t).entry.index = st.entry.index :=
    fun st delta => by rw [Stream.replan_entry]
  refine ⟨m, how, g, hst, fun hg => ?_, fun hg => ?_, fun hg x st hs hi => ?_, fun hg x st hs hi => ?_,
    hnoted.grow hpost.notices, fun hg o ho => ?_, fun hg o ho => ?_⟩
  · rw [State.stepTable, hpost.entry, hset.entryGone hg, hentry]
  · rw [State.stepTable, hpost.entry, hset.entryKept hg]
  · refine hpostAround.noStream x ?_
    rw [(hset.stations x).1 hg]
    exact if_pos (by simp only [Station.streams, hstream x st hs hi, Option.any_some, hi, decide_true])
  · refine hpost.streams x _ ?_ ((hkeeps st _).trans hi)
    rw [(hset.stations x).2 hg, hstream x st hs hi, hdelta x]
    exact congrArg some (if_pos hi)
  · obtain ⟨hb, ha⟩ := hbound o ho
    have h1 := hset.boundGone hg o hb
    rw [State.stepTable, hpostAround.unbound o (by rw [h1]; rfl), h1, ha]
  · obtain ⟨hb, ha⟩ := hbound o ho
    have h1 := hset.boundKept hg o hb
    have hb' : (a.stepEntry theta t i).outs[o].boundTo i = true := by
      rw [h1, Output.boundTo_congr (hst.binding _), hb]
    rw [State.stepTable, hpost.outs o hb', h1, ha]

/-- What a step leaves of everything that stands on a VACANT entry. -/
theorem State.stepTable_vacant {i : Idx} (hl : s.entries[i].state = .vacant) :
    State.Apart i (s.stepBase theta t) (s.stepTable theta t) := by
  obtain ⟨a, hpre, -, hnow, hpost, -⟩ := State.foldl_step_split (theta := theta) (s.stepBase_now theta t) i
  have hentry : a.entries[i] = s.entries[i] := by rw [hpre.entry, s.stepBase_entries]
  rw [State.stepEntry_vacant (by rwa [hentry])] at hpost
  exact hpre.trans hpost

theorem State.stepTable_around (s : State) (theta : Int) (t : Nat) : (s.stepBase theta t).Around (s.stepTable theta t) :=
  State.foldl_step_around (s.stepBase_now theta t) _

theorem State.stepTable_civil (s : State) (theta : Int) (t : Nat) : (s.stepTable theta t).civil = s.civil :=
  have h : (s.stepBase theta t).sameBut tableParts (s.stepTable theta t) :=
    State.sameBut.foldl _ _ fun u i => u.stepEntry_sameBut theta t i
  (h .civil (by decide)).trans (s.stepBase_same theta t .civil (by decide))

theorem State.applyStep_slots (s : State) (theta : Int) (k : Fin 4) : (s.applyStep theta).slots[k] =
    if s.slots[k].state = .filled then { s.slots[k] with state := .void } else s.slots[k] := by
  rw [State.applyStep_eq_withAside]
  simp [State.withAside, State.voidSlots]

end

section

variable {s : State} {theta : Int} {t : Nat} {i : Idx} {m : Entry} {how : Replan} {g : Output → Output}

theorem Entry.unbased_endTaken {a b : Entry} (h : a.unbased = b.unbased) :
    ({ a with base := none, next := none, endTaken := false } : Entry) = { b with base := none, next := none, endTaken := false } :=
  congrArg (fun e : Entry => { e with endTaken := false }) h

/-- R58: the label bases of an entry that a step has not retired. -/
theorem State.stepLabels_basesFollow (hst : s.entries[i].Steps s.servo.params.slewRange theta t m how g)
    (hl : s.entries[i].state ≠ .vacant) (hkept : (s.stepTable theta t).entries[i] = m.checked) :
    s.basesFollow ((s.stepTable theta t).stepLabels t) i := by
  obtain ⟨hnum, hden, hbase, hnext⟩ := hst.plain
  have hcivil := s.stepTable_civil theta t
  refine ⟨fun hk => ?_, fun hk hn hd => ?_⟩
  · rw [State.stepLabels_kept (by rw [hcivil]; exact hk), hkept, Entry.checked_eq]
    exact ⟨hbase, hnext⟩
  · refine State.stepLabels_labelled (by rw [hcivil]; exact hk) ?_ ?_ ?_
    · rw [hkept, Entry.checked_eq]
      exact (hst.outlives hl).live
    · rw [hkept, Entry.checked_eq]
      exact hnum ▸ hn
    · rw [hkept, Entry.checked_eq]
      exact hden ▸ hd

theorem State.stepLabels_entry (hkept : (s.stepTable theta t).entries[i] = m.checked) :
    ({ ((s.stepTable theta t).stepLabels t).entries[i] with base := none, next := none, endTaken := false } : Entry)
      = { m with base := none, next := none, endTaken := false } := by
  rw [Entry.unbased_endTaken ((s.stepTable theta t).stepLabels_unbased t i), hkept, Entry.checked_eq]

end

/-- Settles O37: the steps of the entries one after the other, each on its own entry and what stands on it, and then that of the
labels. -/
theorem stepIsAbsorbedByPolicy : Obligations.StepIsAbsorbedByPolicy := by
  intro s theta t h0 hlt s'
  have ht : t = s.now + theta := rfl
  clear_value t
  obtain ⟨t, rfl⟩ := Int.eq_ofNat_of_zero_le h0
  have heq : s' = (s.stepTable theta t).stepLabels t := State.applyStep_eq ht (by simp only [wrapSpan, secondsWrap, second]; omega)
  have hsame : s.sameBut [.tb, .slots, .civil, .entries, .mgmtNotices, .outs, .chain, .stations, .attn] s' :=
    s.applyStep_sameBut theta
  have hlabels := (s.stepTable theta t).stepLabels_same t
  rw [← heq] at hlabels
  have hstations : s'.stations = (s.stepTable theta t).stations := hlabels .stations (by decide)
  have houts : s'.outs = (s.stepTable theta t).outs := hlabels .outs (by decide)
  have hmgmt : s'.mgmtNotices = (s.stepTable theta t).mgmtNotices := hlabels .mgmtNotices (by decide)
  have haround := s.stepTable_around theta t
  have hquiet (o : OutNo) := haround.outs o
  simp only [s.stepBase_outs] at hquiet
  refine ⟨?_, s.applyStep_frac theta, s.applyStep_slots theta, fun i hv => ?_, fun x => ⟨?_, fun hx => ?_, fun st hst hv => ?_⟩,
    fun i hl hn hd => ?_, fun o => ?_, ?_, hsame⟩
  · have hnow := State.applyStep_now (s := s) (th := theta) (by omega) (by simp only [wrapSpan, secondsWrap, second]; omega)
    rw [← ht] at hnow
    exact hnow.trans (Int.emod_eq_of_lt h0 hlt)
  · rw [heq, State.stepLabels_vacant] <;> rw [(State.stepTable_vacant hv).entry, s.stepBase_entries]
    exact hv
  · rw [hstations, haround.stations x, s.stepBase_stations]
  · rw [hstations]
    exact haround.noStream x (by rw [s.stepBase_stations]; exact hx)
  · rw [hstations]
    exact (State.stepTable_vacant hv).streams x st (by rw [s.stepBase_stations]; exact hst) rfl
  · obtain ⟨m, how, g, hst, hleft⟩ := State.stepTable_entry (theta := theta) (t := t) hl
    intro e snaps
    have hsnaps : (e.carried theta).snapsBy theta ↔ snaps := (e.carried theta).snapsBy_iff theta
    obtain ⟨hsnapped, hrecompute⟩ := hst.how_eq
    rw [hsnaps] at hsnapped hrecompute
    refine ⟨m, how, hst.absorbed hn hd, hsnapped, hrecompute, fun hg => ?_, fun hg => ?_, fun x st hx hi => ⟨fun hg => ?_,
      fun hg => ?_⟩, fun y hy => ?_, fun hw => ?_, fun o ho => ?_⟩
    · rw [heq, State.stepLabels_vacant] <;> rw [hleft.entryGone hg]
      rfl
    · rw [heq]
      exact ⟨State.stepLabels_entry (hleft.entryKept hg), State.stepLabels_basesFollow hst hl (hleft.entryKept hg)⟩
    · rw [hstations]
      exact hleft.streamGone hg x st hx hi
    · rw [hstations]
      exact hleft.streamKept hg x st hx hi
    · rw [hstations]
      exact hleft.noted.1 y hy
    · rw [hmgmt]
      exact hleft.noted.2 hw
    · intro a
      have ha : a = (s.stepBase theta t).outs[o] := by
        have h1 := (hquiet o).1
        have h2 := (hquiet o).2
        rw [← houts] at h1 h2
        rw [s.stepBase_outs]
        change ({ s.outs[o] with inProgress := s'.outs[o].inProgress, lastInactive := s'.outs[o].lastInactive } : Output) = _
        rw [h1, h2]
        rfl
      have hq := hst.outputs a
      rw [hsnaps] at hq
      obtain ⟨hwaits, habsorbs, hruns, hpends⟩ := hq
      rw [houts]
      refine ⟨fun hg => ?_, fun hg => ?_⟩
      · rw [hleft.outGone hg o ho, ← ha, Output.unbind_eq, (hst.quiet a).2.2]
        rfl
      · rw [hleft.outKept hg o ho, ← ha]
        exact ⟨hwaits, habsorbs, hruns, hpends⟩
  · have hq := hquiet o
    rw [houts]
    refine ⟨hq.1, hq.2, fun ho => ?_⟩
    rw [haround.unbound o (by rw [s.stepBase_outs]; exact ho), s.stepBase_outs]
    exact ⟨rfl, rfl⟩
  · have hcivil : s'.civil = (s.civil.atStep t).rebased t := by
      rw [heq, State.stepLabels_civil, s.stepTable_civil]
    intro c c' leap
    have hbased : c'.basedAt t := by
      have h := (s.civil.atStep t).rebased_basedAt t
      rwa [← hcivil] at h
    have hleap : c.leapAt t = leap := rfl
    cases h : c.leapAt t with
    | none =>
      have hfields : c' = (c.atStep t).rebased t := hcivil
      rw [Civil.atStep_keep h] at hfields
      refine ⟨by rw [hfields]; rfl, fun o eo hc => ?_, fun _ => ?_, hbased⟩
      · rw [← hleap, h] at hc
        cases hc
      · rw [hfields]
        exact ⟨rfl, rfl, rfl⟩
    | some p =>
      obtain ⟨o, eo⟩ := p
      have hfields : c' = (c.atStep t).rebased t := hcivil
      rw [Civil.atStep_leap h] at hfields
      refine ⟨by rw [hfields]; rfl, fun o' eo' hc => ?_, fun hc => ?_, hbased⟩
      · rw [← hleap, h] at hc
        obtain ⟨rfl, rfl⟩ := Prod.mk.inj (Option.some.inj hc)
        rw [hfields]
        exact ⟨rfl, rfl, rfl⟩
      · rw [← hleap, h] at hc
        cases hc

/-! ## The seconds wrap (R76) -/

/-- No pulse waits on output `o`, whose skipped count is `n`. -/
def Output.drained (o : Output) (n : Nat) : Prop := o.waiting = [] ∧ o.skipped = n ∧ n ≤ 65535

section

variable {o : Output} {n : Nat} {e m : Entry} {range : Nat} {theta t : Int} {how : Replan} {g : Output → Output}

theorem Output.drained.discard (h : o.drained n) : o.discard.drained n := by
  obtain ⟨hw, hs, hn⟩ := h
  refine ⟨rfl, ?_, hn⟩
  simp only [Output.discard, Output.skip, satAdd, hw, hs, List.length_nil, counterTop]
  omega

theorem Output.drained.shift (h : o.drained n) (delta t : Int) : (o.shift delta t).drained n := by
  obtain ⟨hw, hs, hn⟩ := h
  refine ⟨by simp [Output.shift, hw], ?_, hn⟩
  simp only [Output.shift, Output.skip, satAdd, hw, hs, List.map_nil, List.filter_nil, List.length_nil, counterTop]
  omega

theorem Output.drained.unbind (h : o.drained n) : o.unbind.drained n := h.discard

theorem Output.drained.steps (h : o.drained n) (hst : e.Steps range theta t m how g) : (g o).drained n := by
  cases hst with
  | waits hm => exact h
  | snaps hm hs =>
    unfold Output.atSnap
    dsimp only
    split
    · exact (h.shift _ _).discard
    · exact h.shift _ _
  | absorbs hm hs => exact h.shift _ _

end

section

variable {u s : State} {theta : Int} {t : Nat} {n : OutNo → Nat}

theorem State.stepEntry_drained (hnow : u.now = t) (h : ∀ o : OutNo, u.outs[o].drained (n o)) (j : Idx) (o : OutNo) :
    (u.stepEntry theta t j).outs[o].drained (n o) := by
  by_cases hl : u.entries[j].state = .vacant
  · rw [State.stepEntry_vacant hl]
    exact h o
  · obtain ⟨m, how, g, hst⟩ := Entry.Steps.exists u.entries[j] u.servo.params.slewRange theta t
    have hset := (State.stepEntry_settled hnow hl hst).1
    cases hb : u.outs[o].boundTo j with
    | false =>
      rw [hset.free o hb]
      exact h o
    | true =>
      by_cases hg : m.endsAt t (0 < theta)
      · rw [hset.boundGone hg o hb]
        exact ((h o).steps hst).unbind
      · rw [hset.boundKept hg o hb]
        exact (h o).steps hst

theorem State.foldl_step_drained (hnow : u.now = t) (h : ∀ o : OutNo, u.outs[o].drained (n o)) (l : List Idx) (o : OutNo) :
    (l.foldl (State.stepEntry theta t) u).outs[o].drained (n o) := by
  induction l generalizing u with
  | nil => exact h o
  | cons j l ih => exact ih ((u.stepEntry_now j).trans hnow) (State.stepEntry_drained hnow h j)

/-- R77: outputs on which no pulse waits stay so through a step. -/
theorem State.stepEffects_drained (hnow : s.now = t) (h : ∀ o : OutNo, s.outs[o].drained (n o)) (o : OutNo) :
    (s.stepEffects theta t).outs[o].drained (n o) := by
  have hbase (o : OutNo) : (s.stepRecords theta).outs[o].drained (n o) := by
    rw [State.stepRecords]
    simp only [Fin.getElem_fin, State.mapOutputs_at]
    exact h o
  have hnow' : (s.stepRecords theta).now = t := by
    rw [State.stepRecords, State.now, State.mapOutputs_tb]
    exact hnow
  have hlab := State.stepLabels_same ((List.finRange 64).foldl (State.stepEntry theta t) (s.stepRecords theta)) t
  rw [State.stepEffects_eq, show _ = _ from hlab .outs (by decide)]
  exact State.foldl_step_drained hnow' hbase _ o

end

/-- The state in which the entries take the wrap: timebase time taken down, the waiting pulses discarded. -/
def State.wrapBase (s : State) (t : Nat) : State := (s.setTime t).mapOutputs Output.discard

section

variable {s : State}

theorem State.wrap_eq (s : State) :
    s.wrap = (s.wrapBase (s.now - wrapSpan)).stepEffects (-(wrapSpan : Int)) (s.now - wrapSpan) := rfl

theorem State.wrapBase_drained (s : State) (t : Nat) (o : OutNo) :
    (s.wrapBase t).outs[o].drained (min 65535 (s.outs[o].skipped + s.outs[o].waiting.length)) := by
  rw [State.wrapBase]
  simp only [Fin.getElem_fin, State.mapOutputs_at]
  exact ⟨rfl, rfl, Nat.min_le_left _ _⟩

theorem State.wrapBase_now (s : State) (t : Nat) : (s.wrapBase t).now = t := by
  rw [State.wrapBase, State.now, State.mapOutputs_tb]
  exact s.setTime_now t

theorem State.wrap_drained (s : State) (o : OutNo) :
    s.wrap.outs[o].drained (min 65535 (s.outs[o].skipped + s.outs[o].waiting.length)) := by
  rw [State.wrap_eq]
  exact State.stepEffects_drained (s.wrapBase_now _) (s.wrapBase_drained _) o

theorem State.wrap_aside (s : State) : s.wrap = s.wrap.withAside s.voidSlots :=
  State.wrap_withAside (s := s) (u := s) rfl

theorem State.wrap_sameBut (s : State) :
    s.sameBut [.tb, .slots, .civil, .entries, .mgmtNotices, .outs, .chain, .stations, .attn] s.wrap := by
  intro p hp
  rw [State.wrap_aside]
  cases p <;> simp [State.samePart, State.withAside, State.voidSlots] at hp ⊢

theorem State.wrap_slots (s : State) (k : Fin 4) : s.wrap.slots[k] =
    if s.slots[k].state = .filled then { s.slots[k] with state := .void } else s.slots[k] := by
  rw [State.wrap_aside]
  simp [State.withAside, State.voidSlots]

theorem State.tick_sameBut (s : State) : s.sameBut [.cycle, .tb, .readings] s.tick := by
  intro p hp
  cases p <;> simp [State.samePart, State.tick] at hp ⊢

/-- R74: timebase time after a cycle, the seconds not wrapped. -/
theorem State.tick_now (s : State) :
    s.tick.now = s.tb.seconds * 1000000000 + (s.tb.ns * 4294967296 + s.tb.frac + s.rateWord) / 4294967296 := by
  simp only [State.now, State.tick, Timebase.advance, second, fracUnit]
  omega

theorem State.wrap_now (s : State) : s.wrap.now = s.now - wrapSpan := by
  rw [State.now, State.wrap_tb]
  exact State.setTime_now s _

theorem State.wrapBase_eq (s : State) (t : Nat) : (s.mapOutputs Output.discard).setTime t = s.wrapBase t := rfl

/-- R76: a wrap of less than two spans is the step of one span back, the waiting pulses discarded before it. -/
theorem State.wrap_eq_applyStep (h1 : wrapSpan ≤ s.now) (h2 : s.now < 2 * wrapSpan) :
    s.wrap = State.applyStep (-(wrapSpan : Int)) (s.mapOutputs Output.discard) := by
  have hnow : (s.mapOutputs Output.discard).now = s.now := by rw [State.now, State.now, State.mapOutputs_tb]
  have htarget : State.stepTarget (-(wrapSpan : Int)) (s.mapOutputs Output.discard) = s.now - wrapSpan := by
    rw [State.stepTarget, hnow]
    generalize wrapSpan = w at *
    rw [if_pos (by omega)]
    omega
  have hbelow : ¬wrapSpan ≤ s.now - wrapSpan := by
    generalize wrapSpan = w at *
    omega
  rw [State.applyStep, htarget, if_neg hbelow, State.wrapBase_eq, State.wrap_eq]

end

/-- Settles O46: the cycle that carries the seconds past their field, and the wrap as a step of one span back. -/
theorem secondsWrapStepsBack : Obligations.SecondsWrapStepsBack := by
  intro s hr x t
  have hexec : exec .timebaseSecondsWrap s = .next (if s.wrapDue then s.tick.wrap else s) :=
    congrArg Host.Outcome.next (State.whenReleased_deasserted hr _)
  have hdue : s.wrapDue = true ↔ 281474976710656 ≤ s.tb.seconds + x / 4294967296 / 1000000000 := by
    rw [State.wrapDue, decide_eq_true_eq]
    rfl
  have hnow : s.tick.now = t := s.tick_now
  have hspan : wrapSpan = 281474976710656000000000 := by norm_num [wrapSpan, secondsWrap, second]
  refine ⟨fun hlt => ?_, fun hle => ⟨s.tick.wrap, ?_, ?_, ?_, ?_, fun k => s.tick.wrap_slots k, fun o => ?_, fun h2 => ?_, ?_⟩⟩
  · rw [hexec, if_neg fun h => absurd (hdue.1 h) (by omega)]
  · rw [hexec, if_pos (hdue.2 hle)]
  · rw [State.wrap_now, hnow, hspan]
  · rw [State.wrap_tb]
    rfl
  · rw [State.wrap_cycle]
    rfl
  · obtain ⟨hw, hs, -⟩ := s.tick.wrap_drained o
    exact ⟨hw, hs⟩
  · rw [State.wrap_eq_applyStep (by rw [hnow, hspan]; omega) (by rw [hnow, hspan]; omega), hspan]
    rfl
  · exact (s.tick_sameBut.trans s.tick.wrap_sameBut).mono (by decide)

end Sys2Proof.Machine

/-! PROOFS. SERVO: the parameters, what they do to the running servo, and the slews they hold (R41, R98, R100 to R102, R156): O38. -/

namespace Sys2Proof.Machine

open Sys2Proof Config

/-! ## A new parameter set at the servo (R102) -/

section

variable {s : State} {p : ServoParams}

/-- The state that a parameter set leaves before the class is noted or the timer expires. -/
def State.limited (s : State) (p : ServoParams) : State := { s with servo := { s.servo with params := p }.limitTo p.limit }

theorem State.takeParams_eq (s : State) (p : ServoParams) :
    s.takeParams p = if (s.limited p).holdoverDue then (s.limited p).enterHoldover else (s.limited p).noteClass := rfl

/-- R98: the holdover timer has counted the timeout of the new set. -/
def State.expiresUnder (s : State) (p : ServoParams) : Prop :=
  (s.servo.state = .acquire ∨ s.servo.state = .locked)
    ∧ ∃ a, s.servo.timer = some a ∧ p.timeout * 125000000 ≤ s.cycle - a

theorem State.limited_due_iff : (s.limited p).holdoverDue = true ↔ s.expiresUnder p := (s.limited p).holdoverDue_iff

theorem State.takeParams_expires (h : s.expiresUnder p) : s.takeParams p = (s.limited p).heldOver.noteClass := by
  rw [State.takeParams_eq, if_pos (State.limited_due_iff.2 h), State.enterHoldover_eq]

theorem State.takeParams_stays (h : ¬s.expiresUnder p) : s.takeParams p = (s.limited p).noteClass := by
  rw [State.takeParams_eq, if_neg (mt State.limited_due_iff.1 h)]

theorem State.noteClass_tells {u : State} (h : u.noteClass.quality ≠ u.servo.noted) : u.noteClass.shows .servo :=
  u.noteClass_shows (by rwa [State.noteClass_quality] at h)

/-- R98, R102: I and C within the new limit, and the expiry of the holdover timer. -/
theorem State.takeParams_took (s : State) (p : ServoParams) : s.tookParams p (s.takeParams p) := by
  refine ⟨fun h => ?_, fun h => ?_, fun h => ?_⟩
  · rw [State.takeParams_expires h, State.noteClass_servo, State.noteClass_quality]
    rfl
  · rw [State.takeParams_stays h, State.noteClass_servo, State.noteClass_quality]
    rfl
  · by_cases he : s.expiresUnder p
    · rw [State.takeParams_expires he] at h ⊢
      exact State.noteClass_tells h
    · rw [State.takeParams_stays he] at h ⊢
      exact State.noteClass_tells h

theorem State.takeParams_sameBut (s : State) (p : ServoParams) : s.sameBut [.servo, .attn] (s.takeParams p) := by
  have h0 : s.sameBut [.servo] (s.limited p) := by
    intro p hp
    cases p <;> simp [State.samePart, State.limited] at hp ⊢
  rw [State.takeParams_eq]
  split
  · exact (h0.trans (s.limited p).enterHoldover_sameBut).mono (by decide)
  · exact (h0.trans (s.limited p).noteClass_sameBut).mono (by decide)

end

/-! ## Slews held (R41, R156) -/

/-- R41: entry `i` is HELD when it slews further than the slew range. -/
def State.holdOne (s : State) (i : Idx) : State :=
  if s.entries[i].state ≠ .vacant ∧ s.entries[i].motion = .slewing ∧ s.servo.params.slewRange < s.entries[i].eps.natAbs then
    ((s.setEntry i (s.entries[i].withMotion .held)).replan i (.recompute s.entries[i]) s.now).notify i
  else s

theorem State.holdWide_eq (s : State) : s.holdWide = (List.finRange 64).foldl State.holdOne s := rfl

section

variable {s u : State} {i : Idx}

theorem State.holdOne_drafted (s : State) (i : Idx) :
    s.Drafted (s.holdOne i) i (s.entries[i].heldBy s.servo.params.slewRange)
      (fun st delta => st.heldBy s.entries[i] s.servo.params.slewRange delta s.now) id := by
  unfold State.holdOne Entry.heldBy Stream.heldBy
  split
  · exact (((State.Drafted.refl s i).setEntry _).replan _ _).notify
  · exact .refl s i

/-- R41, R156: the streams after the entries of `l` have been held. -/
theorem State.foldl_hold_stations (l : List Idx) (hl : l.Nodup) (s : State) (x : Addr) :
    (l.foldl State.holdOne s).stations[x] = { s.stations[x] with
      notices := (l.foldl State.holdOne s).stations[x].notices
      stream := s.stations[x].stream.map fun st =>
        if st.entry.index ∈ l then
          st.heldBy s.entries[st.entry.index] s.servo.params.slewRange s.stations[x].delta s.now
        else st } := by
  induction l generalizing s with
  | nil =>
    simp only [List.foldl_nil, List.not_mem_nil, if_false, Option.map_id']
  | cons i l ih =>
    obtain ⟨hi, hnd⟩ := List.nodup_cons.1 hl
    have h := s.holdOne_drafted i
    have hservo : (s.holdOne i).servo = s.servo := h.same .servo (by decide)
    rw [List.foldl_cons, ih hnd (s.holdOne i), hservo, h.now, h.delta x]
    generalize ((l.foldl State.holdOne (s.holdOne i)).stations[x]).notices = n
    rw [h.stations x]
    cases hst : s.stations[x].stream with
    | none => rfl
    | some st =>
      by_cases he : st.entry.index = i
      · have hnl : st.entry.index ∉ l := he ▸ hi
        have hk : (st.heldBy s.entries[i] s.servo.params.slewRange s.stations[x].delta s.now).entry = st.entry := h.streamKept st _
        simp only [Fin.getElem_fin] at hk
        simp [he, hk, hi]
      · have hne := h.others st.entry.index he
        simp only [Fin.getElem_fin] at hne
        simp [he, hne]

theorem State.holdWide_stations (s : State) (x : Addr) : s.holdWide.stations[x] = { s.stations[x] with
    notices := s.holdWide.stations[x].notices
    stream := s.stations[x].stream.map fun st =>
      st.heldBy s.entries[st.entry.index] s.servo.params.slewRange s.stations[x].delta s.now } := by
  have h := State.foldl_hold_stations (List.finRange 64) (List.nodup_finRange 64) s x
  rw [← State.holdWide_eq] at h
  rw [h]
  simp only [List.mem_finRange, if_true]

end

/-! ## The parameters that SERVO asks for (R100, R101) -/

theorem clampNat_zero (hi x : Nat) : clampNat 0 hi x = min hi x := by
  unfold clampNat
  rw [if_neg (by omega)]
  split <;> omega

/-- R101: a parameter kept stands in its range. -/
theorem pick_eq {lo hi old : Nat} (h : lo ≤ old ∧ old ≤ hi) (q : Option Nat) : pick lo hi q old = clampNat lo hi (q.getD old) := by
  cases q with
  | none => exact (clampNat_of_mem h.1 h.2).symm
  | some x => rfl

/-- A value is cut exactly when the clamp moves what is asked for. -/
theorem cut_iff {lo hi old : Nat} (h : lo ≤ old ∧ old ≤ hi) (q : Option Nat) :
    cut lo hi q = false ↔ clampNat lo hi (q.getD old) = q.getD old := by
  cases q with
  | none => exact iff_of_true rfl (clampNat_of_mem h.1 h.2)
  | some x =>
    change decide (clampNat lo hi x ≠ x) = false ↔ _
    rw [decide_eq_false_iff_not, not_not]
    rfl

/-- R100: the parameters as SERVO asks for them, those absent kept. -/
def ServoReq.asked (q : ServoReq) (p : ServoParams) : ServoParams :=
  { sth := q.sth.getD p.sth, lockWin := q.lockWin.getD p.lockWin, lockCount := q.lockCount.getD p.lockCount,
    unlockWin := q.unlockWin.getD p.unlockWin, persist := q.persist.getD p.persist, kp := q.kp.getD p.kp,
    ki := q.ki.getD p.ki, limit := q.limit.getD p.limit, timeout := q.timeout.getD p.timeout,
    ageLimit := q.ageLimit.getD p.ageLimit, minGrade := q.minGrade.getD p.minGrade,
    slewRange := q.slewRange.getD p.slewRange }

/-- R100: parameters brought into their ranges, the unlock window to one from the lock window up. -/
def ServoParams.brought (a : ServoParams) : ServoParams :=
  { sth := clampNat 1000 1000000000 a.sth, lockWin := clampNat 10 1000000 a.lockWin, lockCount := clampNat 1 16 a.lockCount,
    unlockWin := clampNat (clampNat 10 1000000 a.lockWin) 10000000 a.unlockWin, persist := clampNat 1 8 a.persist,
    kp := min 65535 a.kp, ki := min 65535 a.ki, limit := min 6871947 a.limit,
    timeout := clampNat 1 60 a.timeout, ageLimit := clampNat 1 86400 a.ageLimit,
    minGrade := min 15 a.minGrade, slewRange := min 1000000000 a.slewRange }

section

variable {p : ServoParams}

theorem ServoReq.params_eq (q : ServoReq) (h : p.inRange) : ServoReq.params q p = (ServoReq.asked q p).brought := by
  obtain ⟨h1, h2, h3, -, h5, h6, h7, h8, h9, h10, h11, h12⟩ := h
  simp only [ServoReq.params, ServoReq.asked, ServoParams.brought, pick_eq h1, pick_eq h2, pick_eq h3, pick_eq h5,
    pick_eq ⟨Nat.zero_le _, h6⟩, pick_eq ⟨Nat.zero_le _, h7⟩, pick_eq ⟨Nat.zero_le _, h8⟩, pick_eq h9, pick_eq h10,
    pick_eq ⟨Nat.zero_le _, h11⟩, pick_eq ⟨Nat.zero_le _, h12⟩, clampNat_zero]

theorem ServoReq.clamped_iff (q : ServoReq) (h : p.inRange) :
    ServoReq.clamped q p = false ↔ (ServoReq.asked q p).brought = ServoReq.asked q p := by
  have hunlock : decide ((ServoReq.params q p).unlockWin ≠ q.unlockWin.getD p.unlockWin) = false
      ↔ (ServoReq.asked q p).brought.unlockWin = (ServoReq.asked q p).unlockWin := by
    rw [decide_eq_false_iff_not, not_not, Machine.ServoReq.params_eq q h]
    rfl
  obtain ⟨h1, h2, h3, -, h5, h6, h7, h8, h9, h10, h11, h12⟩ := h
  rw [ServoReq.clamped]
  simp only [Bool.or_eq_false_iff, hunlock, cut_iff h1, cut_iff h2, cut_iff h3, cut_iff h5, cut_iff ⟨Nat.zero_le _, h6⟩ q.kp,
    cut_iff ⟨Nat.zero_le _, h7⟩ q.ki, cut_iff ⟨Nat.zero_le _, h8⟩, cut_iff h9, cut_iff h10, cut_iff ⟨Nat.zero_le _, h11⟩,
    cut_iff ⟨Nat.zero_le _, h12⟩, ServoReq.asked, ServoParams.brought, ServoParams.mk.injEq, clampNat_zero, and_assoc]

end

/-! ## The statement -/

section

variable {s : State}

/-- R92: parameters already in force leave I and C within the limit. -/
theorem State.servoInv.limited (h : s.servoInv) :
    clampInt (-(s.servo.params.limit : Int)) s.servo.params.limit s.servo.integral = s.servo.integral
    ∧ clampInt (-(s.servo.params.limit : Int)) s.servo.params.limit s.servo.correction = s.servo.correction := by
  obtain ⟨-, ⟨hi, hc, -⟩, -⟩ := h
  exact ⟨clampInt_of_mem (by omega) (by omega), clampInt_of_mem (by omega) (by omega)⟩

/-- R41: the slew range in force holds no slew. -/
theorem State.offsetInv.unheld (h : s.offsetInv) (i : Idx) : ¬(s.entries[i].state ≠ .vacant ∧ s.entries[i].motion = .slewing
    ∧ s.servo.params.slewRange < s.entries[i].eps.natAbs) :=
  fun ⟨hl, hm, hr⟩ => absurd ((h i hl).2 hm) (by omega)

theorem State.offsetInv.heldBy_entry (h : s.offsetInv) (i : Idx) :
    s.entries[i].heldBy s.servo.params.slewRange = s.entries[i] := if_neg (h.unheld i)

theorem State.offsetInv.heldBy_stream (h : s.offsetInv) (st : Stream) (delta : Option Nat) (t : Int) :
    st.heldBy s.entries[st.entry.index] s.servo.params.slewRange delta t = st := if_neg (h.unheld _)

/-- What a parameter set leaves: the running servo as `takeParams` has it, and the slews held. -/
theorem State.applyParams_left (s : State) (p : ServoParams) :
    (s.applyParams p).servo = (s.takeParams p).servo
    ∧ (∀ i : Idx, (s.applyParams p).entries[i] = s.entries[i].heldBy p.slewRange)
    ∧ (∀ x : Addr, (s.applyParams p).stations[x] = { s.stations[x] with
        notices := (s.applyParams p).stations[x].notices
        stream := s.stations[x].stream.map fun st =>
          st.heldBy s.entries[st.entry.index] p.slewRange s.stations[x].delta s.now })
    ∧ s.sameBut [.servo, .entries, .stations, .mgmtNotices, .attn] (s.applyParams p) := by
  have hsame := s.takeParams_sameBut p
  have hentries : (s.takeParams p).entries = s.entries := hsame .entries (by decide)
  have hstations : (s.takeParams p).stations = s.stations := hsame .stations (by decide)
  have htb : (s.takeParams p).tb = s.tb := hsame .tb (by decide)
  have hnow : (s.takeParams p).now = s.now := by rw [State.now, State.now, htb]
  rw [State.applyParams_eq]
  refine ⟨State.holdWide_servo _, fun i => ?_, fun x => ?_, (hsame.trans (s.takeParams p).holdWide_sameBut).mono (by decide)⟩
  · have h := (s.takeParams p).holdWide_at i
    rw [State.takeParams_params] at h
    rw [← hentries]
    exact h
  · have h := (s.takeParams p).holdWide_stations x
    rw [State.takeParams_params, hentries, hstations, hnow] at h
    exact h

end

/-- Settles O38: parameters that stand change nothing, and others act on the servo and then on the entries that slew. -/
theorem servoTakesClampedParameters : Obligations.ServoTakesClampedParameters := by
  intro s t q hinv hoff hs p asked win n
  have hn : ServoReq.params q p = n := Machine.ServoReq.params_eq q hinv.1
  have hst : okOr (ServoReq.clamped q p) = if n = asked then .ok else .clamped := by
    by_cases h : n = asked
    · rw [if_pos h, (Machine.ServoReq.clamped_iff q hinv.1).2 h]
      rfl
    · have hc : ServoReq.clamped q p = true := by
        rw [← Bool.not_eq_false]
        exact fun hc => h ((Machine.ServoReq.clamped_iff q hinv.1).1 hc)
      rw [if_neg h, hc]
      rfl
  have hreply : servoReply q s = (if n = p then s else s.applyParams n,
      some (if n = asked then .ok else .clamped, .servo (if n = p then s else s.applyParams n).servo.params
        (if n = p then s else s.applyParams n).servo.state (if n = p then s else s.applyParams n).quality)) := by
    rw [servoReply, hn, hst]
  have hexec : exec (.servo .mgmt t q) s = _ := exec_reply (r := .servo q) hs hreply
  have htimeout : 1 ≤ n.timeout := by
    have hrange := ServoReq.params_inRange q hinv.1
    rw [hn] at hrange
    obtain ⟨-, -, -, -, -, -, -, -, ⟨h, -⟩, -⟩ := hrange
    exact h
  by_cases hnp : n = p
  · rw [if_pos hnp] at hexec
    have hparams : s.servo.params = n := hnp.symm
    obtain ⟨hi, hc⟩ := hinv.limited
    rw [hparams] at hexec hi hc
    refine ⟨s, hexec, hparams, hi.symm, fun _ => ⟨rfl, hc.symm, rfl, rfl, rfl⟩,
      fun c _ _ hne => absurd (congrArg ServoParams.timeout hnp) hne, fun i => ?_, fun x => ?_, rfl, rfl, .refl s _⟩
    · rw [← hparams, hoff.heldBy_entry]
    · simp only [← hparams, hoff.heldBy_stream, Option.map_id']
  · rw [if_neg hnp] at hexec
    obtain ⟨hservo, hentries, hstations, hsame⟩ := s.applyParams_left n
    obtain ⟨hexp, hstay, -⟩ := s.takeParams_took n
    rw [← hservo] at hexp hstay
    have hparams : (s.applyParams n).servo.params = n := by rw [hservo, State.takeParams_params]
    rw [hparams] at hexec
    refine ⟨s.applyParams n, hexec, hparams, ?_, fun hlate => ?_, fun c hc hle _ hrun => ?_, hentries, hstations, ?_, ?_, hsame⟩
    · by_cases he : s.expiresUnder n
      · rw [hexp he]
      · rw [hstay he]
    · have he : ¬s.expiresUnder n := fun ⟨_, c, hc, hle⟩ => absurd (hlate c hc) (by omega)
      rw [hstay he]
      exact ⟨rfl, rfl, rfl, rfl, rfl⟩
    · have he : s.expiresUnder n := ⟨hrun, c, hc, by omega⟩
      rw [hexp he]
      exact ⟨rfl, rfl, rfl, rfl, rfl, rfl⟩
    · by_cases he : s.expiresUnder n
      · rw [hexp he]
      · rw [hstay he]
    · by_cases he : s.expiresUnder n
      · rw [hexp he]
      · rw [hstay he]

end Sys2Proof.Machine

/-! PROOFS. BIND (R110, R115 to R117): O42. -/

namespace Sys2Proof.Machine

open Sys2Proof Config

/-! ## The steps of R116 -/

section

variable {s : State} {q : BindReq} {a o : Output} {b : Option EntryRef}

/-- R116 step 1. -/
theorem Output.rebind_eq (a : Output) (b : Option EntryRef) : a.rebind b = { a with
    binding := b
    waiting := if b ≠ a.binding then [] else a.waiting
    skipped := if b ≠ a.binding then min 65535 (a.skipped + a.waiting.length) else a.skipped } := by
  by_cases h : b = a.binding
  · simp [Output.rebind, h]
  · simp only [Output.rebind, if_neg h, if_pos (show b ≠ a.binding from h)]
    rfl

/-- R110: the delay and the width that an output takes under binding `b`. -/
def State.fitted (s : State) (b : Option EntryRef) (divider delay width : Nat) : Nat × Nat :=
  match b with
  | some e => (clampNat 0 (divider * s.entries[e.index].pf - 1) delay, clampNat 8 (divider * s.entries[e.index].pf / 2) width)
  | none => (clampNat 0 65534999999999 delay, clampNat 8 32767500000000 width)

theorem State.fit_eq (s : State) (o : Output) : s.fit o = { o with
    delay := (s.fitted o.binding o.divider o.delay o.width).1
    width := (s.fitted o.binding o.divider o.delay o.width).2 } := by
  unfold State.fit State.fitted
  cases h : o.binding with
  | none => simp only [Output.fitFree, h]
  | some r => simp only [Output.fitTo, clampDelay, clampWidth, h]

/-- R110: BIND makes the clamp. -/
def BindReq.clamps (q : BindReq) (a : Output) (b : Option EntryRef) : Prop :=
  q.divider ≠ none ∨ q.delay ≠ none ∨ q.width ≠ none ∨ b ≠ none ∧ b ≠ a.binding

theorem BindReq.refits_iff (q : BindReq) (a : Output) (b : Option EntryRef) :
    BindReq.refits q a (a.rebind b) = true ↔ BindReq.clamps q a b := by
  rw [Output.rebind_eq, BindReq.refits, BindReq.clamps]
  simp only [Bool.or_eq_true, Bool.and_eq_true, decide_eq_true_eq, or_assoc, Option.isSome_iff_ne_none]

/-- The output after the first two steps of R116 and the clamp of R110. -/
def State.bound (s : State) (q : BindReq) (b : Option EntryRef) (a : Output) : Output :=
  if BindReq.refits q a (a.rebind b) then s.fit (BindReq.store q (a.rebind b)) else BindReq.store q (a.rebind b)

theorem State.bindOutput_eq (s : State) (q : BindReq) (b : Option EntryRef) (a : Output) :
    s.bindOutput q b a = ((s.bound q b a).setEnabled q.enabled s.now).setPolarity (q.polarity.bind polarityOf) := rfl

theorem State.bound_eq (s : State) (q : BindReq) (b : Option EntryRef) (a : Output) : s.bound q b a = { a with
    binding := b
    waiting := if b ≠ a.binding then [] else a.waiting
    skipped := if b ≠ a.binding then min 65535 (a.skipped + a.waiting.length) else a.skipped
    divider := (q.divider.map (clampNat 1 65535)).getD a.divider
    delay := (s.bound q b a).delay, width := (s.bound q b a).width } := by
  have h : ∃ d w, s.bound q b a = { BindReq.store q (a.rebind b) with delay := d, width := w } := by
    unfold State.bound
    split
    · rw [State.fit_eq]
      exact ⟨_, _, rfl⟩
    · exact ⟨_, _, rfl⟩
  obtain ⟨d, w, h⟩ := h
  rw [h, BindReq.store, Output.rebind_eq]

theorem State.bound_clamped (h : BindReq.clamps q a b) :
    ((s.bound q b a).delay, (s.bound q b a).width)
      = s.fitted b ((q.divider.map (clampNat 1 65535)).getD a.divider) (q.delay.getD a.delay) (q.width.getD a.width) := by
  rw [State.bound, if_pos ((Machine.BindReq.refits_iff q a b).2 h), State.fit_eq, BindReq.store, Output.rebind_eq]

theorem State.bound_kept (h : ¬BindReq.clamps q a b) : (s.bound q b a).delay = a.delay ∧ (s.bound q b a).width = a.width := by
  rw [State.bound, if_neg (mt (Machine.BindReq.refits_iff q a b).1 h), BindReq.store, Output.rebind_eq]
  simp only [BindReq.clamps, not_or, not_not] at h
  obtain ⟨-, hd, hw, -⟩ := h
  simp [hd, hw]

/-- R116 step 3, R107: a disabling ends the pulse in progress and discards those that wait. -/
theorem Output.setEnabled_false (o : Output) (t : Int) : o.setEnabled (some false) t = { o with
    enabled := false
    waiting := [], skipped := min 65535 (o.skipped + o.waiting.length)
    inProgress := none, lastInactive := if o.inProgress = none then o.lastInactive else some t
    polarity := if o.inProgress = none then o.polarity else o.pendingPol.getD o.polarity
    pendingPol := if o.inProgress = none then o.pendingPol else none } := by
  unfold Output.setEnabled Output.endPulse
  cases h : o.inProgress with
  | none => simp [Output.discard, Output.skip, satAdd, h]
  | some p => simp [Output.discard, Output.skip, satAdd]

theorem Output.setEnabled_other (o : Output) {e : Option Bool} (he : e ≠ some false) (t : Int) :
    o.setEnabled e t = { o with enabled := e.getD o.enabled } := by
  match e with
  | none => rfl
  | some true => rfl
  | some false => exact absurd rfl he

/-- R116 step 4. -/
theorem Output.setPolarity_eq (o : Output) (p : Polarity) : o.setPolarity (some p) = { o with
    polarity := if o.inProgress = none then p else o.polarity
    pendingPol := if o.inProgress = none ∨ p = o.polarity then none else some p } := by
  unfold Output.setPolarity
  by_cases hp : p = o.polarity
  · simp [hp]
  · cases o.inProgress <;> simp [hp]

theorem Output.setPolarity_plain (o : Output) (p : Option Polarity) :
    o.setPolarity p = { o with polarity := (o.setPolarity p).polarity, pendingPol := (o.setPolarity p).pendingPol } := by
  cases p with
  | none => rfl
  | some v => rw [Output.setPolarity_eq]

/-- R110, R115: delay and width as they stand after BIND are those asked for exactly when the clamp moves neither. -/
theorem State.bindClamped_iff (s : State) (q : BindReq) (b : Option EntryRef) (a : Output) :
    s.bindClamped q b a = false ↔ (s.bound q b a).divider = q.divider.getD a.divider
      ∧ (s.bound q b a).delay = q.delay.getD a.delay ∧ (s.bound q b a).width = q.width.getD a.width := by
  have hdiv : q.divider.any (fun x => clampNat 1 65535 x ≠ x) = false ↔ (s.bound q b a).divider = q.divider.getD a.divider := by
    rw [State.bound_eq]
    cases q.divider with
    | none => exact iff_of_true rfl rfl
    | some x =>
      change decide (clampNat 1 65535 x ≠ x) = false ↔ _
      rw [decide_eq_false_iff_not, not_not]
      rfl
  have hstore : (BindReq.store q (a.rebind b)).delay = q.delay.getD a.delay
      ∧ (BindReq.store q (a.rebind b)).width = q.width.getD a.width := by
    rw [Output.rebind_eq]
    exact ⟨rfl, rfl⟩
  have hfit : (BindReq.refits q a (a.rebind b) && (decide ((s.fit (BindReq.store q (a.rebind b))).delay
        ≠ (BindReq.store q (a.rebind b)).delay) || decide ((s.fit (BindReq.store q (a.rebind b))).width
        ≠ (BindReq.store q (a.rebind b)).width))) = false
      ↔ (s.bound q b a).delay = q.delay.getD a.delay ∧ (s.bound q b a).width = q.width.getD a.width := by
    rw [← hstore.1, ← hstore.2, State.bound]
    cases BindReq.refits q a (a.rebind b) with
    | false => exact iff_of_true rfl ⟨rfl, rfl⟩
    | true =>
      rw [if_pos rfl, Bool.true_and, Bool.or_eq_false_iff, decide_eq_false_iff_not, decide_eq_false_iff_not, not_not, not_not]
  rw [← hdiv, ← hfit, ← Bool.or_eq_false_iff]
  rfl

/-- Of an output a change of the enabled flag leaves what BIND has set before. -/
theorem Output.setEnabled_plain (o : Output) (e : Option Bool) (t : Int) :
    (o.setEnabled e t).binding = o.binding ∧ (o.setEnabled e t).divider = o.divider ∧ (o.setEnabled e t).delay = o.delay
    ∧ (o.setEnabled e t).width = o.width ∧ (o.setEnabled e t).enabled = e.getD o.enabled := by
  by_cases he : e = some false
  · rw [he, Output.setEnabled_false]
    exact ⟨rfl, rfl, rfl, rfl, rfl⟩
  · rw [Output.setEnabled_other _ he]
    exact ⟨rfl, rfl, rfl, rfl, rfl⟩

/-- The waiting pulses and the pulse in progress after a change of the enabled flag. -/
theorem Output.setEnabled_pulses (o : Output) (e : Option Bool) (t : Int) :
    (if e = some false then
       (o.setEnabled e t).waiting = [] ∧ (o.setEnabled e t).skipped = min 65535 (o.skipped + o.waiting.length)
     else (o.setEnabled e t).waiting = o.waiting ∧ (o.setEnabled e t).skipped = o.skipped)
    ∧ (if e = some false then
         (o.setEnabled e t).inProgress = none
         ∧ (o.setEnabled e t).lastInactive = if o.inProgress = none then o.lastInactive else some t
       else (o.setEnabled e t).inProgress = o.inProgress ∧ (o.setEnabled e t).lastInactive = o.lastInactive) := by
  by_cases he : e = some false
  · rw [if_pos he, if_pos he, he, Output.setEnabled_false]
    exact ⟨⟨rfl, rfl⟩, rfl, rfl⟩
  · rw [if_neg he, if_neg he, Output.setEnabled_other _ he]
    exact ⟨⟨rfl, rfl⟩, rfl, rfl⟩

/-- The polarity after a change of the enabled flag (log entry 23). -/
theorem Output.setEnabled_polarity (o : Output) (e : Option Bool) (t : Int) :
    (e ≠ some false ∨ o.inProgress = none →
      (o.setEnabled e t).polarity = o.polarity ∧ (o.setEnabled e t).pendingPol = o.pendingPol)
    ∧ (e = some false → o.inProgress ≠ none →
      (o.setEnabled e t).polarity = o.pendingPol.getD o.polarity ∧ (o.setEnabled e t).pendingPol = none) := by
  by_cases he : e = some false
  · rw [he, Output.setEnabled_false]
    refine ⟨fun h => ?_, fun _ h => ⟨if_neg h, if_neg h⟩⟩
    have hp : o.inProgress = none := h.resolve_left (fun hc => hc rfl)
    exact ⟨if_pos hp, if_pos hp⟩
  · rw [Output.setEnabled_other _ he]
    exact ⟨fun _ => ⟨rfl, rfl⟩, fun hc => absurd hc he⟩

theorem bindReply_refused (h : 15 < q.output ∨ (∃ c, q.action = .other c) ∨ ∃ c, q.polarity = some c ∧ 1 < c) :
    bindReply q s = (s, some (.badField, .empty)) := by
  unfold bindReply
  split
  · next ho =>
    unfold State.bindReplyOn
    split
    · rfl
    · next hp =>
      obtain h | ⟨c, hc⟩ | ⟨c, hc, hlt⟩ := h
      · omega
      · simp only [State.bindTarget, hc]
        rfl
      · refine absurd ?_ hp
        match c, hlt with
        | c + 2, _ => rw [hc]; rfl
  · rfl

theorem State.outputState_eq (s : State) (r : Output) : s.outputState r = if r.enabled = false then .disabled else
    match r.binding with
    | none => .unbound
    | some e => if s.entries[e.index].motion = .pending then .waiting else .driving := by
  unfold State.outputState
  cases r.enabled <;> rfl

/-- R115: the binding that BIND asks for. -/
theorem State.bindTarget_ok
    (h : q.action = .keep ∧ b = o.binding ∨ q.action = .unbind ∧ b = none
      ∨ ∃ (h : Handle) (i : Idx), q.action = .bind h ∧ h.index = i.val ∧ s.entries[i].gen = h.gen
          ∧ s.entries[i].state ≠ .vacant ∧ b = some ⟨i, h.gen⟩) : s.bindTarget q.action o = .ok b := by
  obtain ⟨ha, rfl⟩ | ⟨ha, rfl⟩ | ⟨hd, i, ha, hi, hg, hl, rfl⟩ := h
  · rw [ha]
    rfl
  · rw [ha]
    rfl
  · rw [ha, State.bindTarget, (checkHandle_ok_iff hd i).2 ⟨hi, hg, hl⟩]
    rfl

end

/-- Settles O42: the output goes through the four steps, and the result shows it before the clear. -/
theorem bindSetsOutput : Obligations.BindSetsOutput := by
  intro s t q hs
  have hans {s2 : State} {st : Status} {b : Body} (h : bindReply q s = (s2, some (st, b))) :
      exec (.bind .mgmt t q) s = .next (s2.reply .mgmt t (.bind q) st b) :=
    exec_reply (r := .bind q) hs h
  refine ⟨fun hbad => hans (bindReply_refused hbad), ?_⟩
  intro o b ho hpol hb a
  have hbound := s.bound_eq q b a
  have hfit := s.bindClamped_iff q b a
  have hfitted := State.bound_clamped (s := s) (q := q) (a := a) (b := b)
  have hkept := State.bound_kept (s := s) (q := q) (a := a) (b := b)
  set o3 := s.bound q b a with ho3
  set r := s.bindOutput q b a with hr
  have hplain := Output.setPolarity_plain (o3.setEnabled q.enabled s.now) (q.polarity.bind polarityOf)
  have hr4 : r = (o3.setEnabled q.enabled s.now).setPolarity (q.polarity.bind polarityOf) := rfl
  rw [← hr4] at hplain
  obtain ⟨hbinding, hdivider, hdelay, hwidth, henabled⟩ := o3.setEnabled_plain q.enabled s.now
  obtain ⟨hwaiting, hprogress⟩ := o3.setEnabled_pulses q.enabled s.now
  obtain ⟨hpolKept, hpolTaken⟩ := o3.setEnabled_polarity q.enabled s.now
  set o4 := o3.setEnabled q.enabled s.now with ho4
  have hreply : bindReply q s = (s.setOutput o (if q.clear then { r with skipped := 0 } else r),
      some (okOr (s.bindClamped q b a), .output o (s.outputState r) r)) := by
    have hlt : q.output < 16 := ho ▸ o.isLt
    have hfin : (⟨q.output, hlt⟩ : OutNo) = o := Fin.ext ho
    rw [bindReply, dif_pos hlt, hfin, State.bindReplyOn, badCode_polarity hpol, State.bindTarget_ok hb]
    rfl
  have hrb : r.binding = b := by
    rw [hplain]
    exact hbinding.trans (by rw [hbound])
  have hre : r.enabled = q.enabled.getD a.enabled := by
    rw [hplain]
    exact henabled.trans (by rw [hbound])
  have hrdiv : r.divider = o3.divider := by
    rw [hplain]
    exact hdivider
  have hrdel : r.delay = o3.delay := by
    rw [hplain]
    exact hdelay
  have hrwid : r.width = o3.width := by
    rw [hplain]
    exact hwidth
  have hrprog : r.inProgress = o4.inProgress := by rw [hplain]
  have hdiv : o3.divider = (q.divider.map (clampNat 1 65535)).getD a.divider := by rw [hbound]
  refine ⟨r, okOr (s.bindClamped q b a), (hans hreply).trans ?_, hrb, hre, hrdiv.trans hdiv, ?_, ?_, ?_, fun hc => ?_, fun hc => ?_,
    fun hnone hquiet => ?_, fun hnone hdis hrun => ?_, fun c p hc hp => ?_⟩
  · have hstate := s.outputState_eq r
    rw [hrb] at hstate
    exact hstate ▸ rfl
  · rw [hrdiv, hrdel, hrwid]
    by_cases hc : o3.divider = q.divider.getD a.divider ∧ o3.delay = q.delay.getD a.delay ∧ o3.width = q.width.getD a.width
    · rw [if_pos hc, hfit.2 hc]
      rfl
    · have hcl : s.bindClamped q b a = true := by
        rw [← Bool.not_eq_false]
        exact fun h => hc (hfit.1 h)
      rw [if_neg hc, hcl]
      rfl
  · have hw : o3.waiting = if b ≠ a.binding then [] else a.waiting := by rw [hbound]
    have hs' : o3.skipped = if b ≠ a.binding then min 65535 (a.skipped + a.waiting.length) else a.skipped := by rw [hbound]
    have hrw : r.waiting = o4.waiting ∧ r.skipped = o4.skipped := by
      rw [hplain]
      exact ⟨rfl, rfl⟩
    rw [hrw.1, hrw.2]
    rw [hw, hs'] at hwaiting
    by_cases he : q.enabled = some false
    · rw [if_pos he] at hwaiting
      obtain ⟨h1, h2⟩ := hwaiting
      rw [if_pos (.inr he), h2]
      refine ⟨h1, ?_⟩
      by_cases hnew : b ≠ a.binding
      · rw [if_pos hnew, if_pos hnew, List.length_nil]
        omega
      · rw [if_neg hnew, if_neg hnew]
    · rw [if_neg he] at hwaiting
      obtain ⟨h1, h2⟩ := hwaiting
      rw [h1, h2]
      by_cases hnew : b ≠ a.binding
      · simp only [if_pos hnew, if_pos (Or.inl hnew), and_self]
      · rw [if_neg hnew, if_neg hnew, if_neg fun h => h.elim hnew he]
        exact ⟨rfl, rfl⟩
  · have hi : o3.inProgress = a.inProgress ∧ o3.lastInactive = a.lastInactive := by
      rw [hbound]
      exact ⟨rfl, rfl⟩
    have hrl : r.lastInactive = o4.lastInactive := by rw [hplain]
    rw [hrprog, hrl, ← hi.1, ← hi.2]
    exact hprogress
  · have hf := hfitted hc
    rw [hrdiv, hrdel, hrwid]
    rw [← hdiv] at hf
    obtain ⟨h1, h2⟩ := Prod.mk.inj hf
    rw [h1, h2]
    cases b with
    | none => exact ⟨rfl, rfl⟩
    | some e => exact ⟨rfl, rfl⟩
  · rw [hrdel, hrwid]
    exact hkept hc
  · have hi : o3.inProgress = a.inProgress ∧ o3.polarity = a.polarity ∧ o3.pendingPol = a.pendingPol := by
      rw [hbound]
      exact ⟨rfl, rfl, rfl⟩
    rw [hnone] at hr4
    obtain ⟨h1, h2, h3⟩ := hi
    rw [h1, h2, h3] at hpolKept
    rw [hr4]
    exact hpolKept hquiet
  · have hi : o3.inProgress = a.inProgress ∧ o3.polarity = a.polarity ∧ o3.pendingPol = a.pendingPol := by
      rw [hbound]
      exact ⟨rfl, rfl, rfl⟩
    rw [hnone] at hr4
    obtain ⟨h1, h2, h3⟩ := hi
    rw [h1, h2, h3] at hpolTaken
    rw [hr4]
    exact hpolTaken hdis hrun
  · rw [hc, Option.bind_some, hp, Output.setPolarity_eq] at hr4
    rw [hrprog]
    by_cases h : o4.inProgress = none
    · rw [if_pos h, hr4]
      exact ⟨if_pos h, if_pos (.inl h)⟩
    · have hen : q.enabled ≠ some false := fun he => by
        rw [if_pos he] at hprogress
        exact h hprogress.1
      have hpol4 : o4.polarity = a.polarity := (hpolKept (.inl hen)).1.trans (by rw [hbound])
      rw [if_neg h, hr4]
      refine ⟨(if_neg h).trans hpol4, ?_⟩
      simp only [h, false_or, hpol4]

end Sys2Proof.Machine

/-! PROOFS. What the retirement of entries and the leaving of stations take out of the part: the relation `State.TakesOut`,
which every retirement and every station's leaving meet and which is closed under composition. -/

namespace Sys2Proof.Machine

open Sys2Proof Config

/-! ## Causes that are added (R171) -/

section

variable {s u v : State} {c d : Cause} {cs : List Cause} {L : List Part}

/-- Causes of `cs` alone may have been added; the mode and the mask of ATTN stand. -/
structure State.Raises (s v : State) (cs : List Cause) : Prop where
  mode : v.attn.mode = s.attn.mode
  mask : v.attn.mask = s.attn.mask
  kept : ∀ d, s.shows d → v.shows d
  only : ∀ d, d ∉ cs → v.shows d → s.shows d

theorem State.Raises.of_attn (h : v.attn = s.attn) : s.Raises v cs := by
  refine ⟨by rw [h], by rw [h], fun d hd => ?_, fun d _ hd => ?_⟩
  · rw [State.shows, h]; exact hd
  · rw [State.shows, h] at hd; exact hd

theorem State.Raises.refl (s : State) : s.Raises s cs := .of_attn rfl

theorem State.sameBut.raises (h : s.sameBut L v) (hl : Part.attn ∉ L) : s.Raises v cs := .of_attn (h .attn hl)

theorem State.Raises.trans (h : s.Raises u cs) (h' : u.Raises v cs) : s.Raises v cs :=
  ⟨h'.mode.trans h.mode, h'.mask.trans h.mask, fun d hd => h'.kept d (h.kept d hd), fun d hn hd => h.only d hn (h'.only d hn hd)⟩

theorem State.Raises.mono {cs' : List Cause} (h : s.Raises v cs) (hc : cs ⊆ cs') : s.Raises v cs' :=
  ⟨h.mode, h.mask, h.kept, fun d hn => h.only d fun g => hn (hc g)⟩

theorem State.Raises.shows_iff (h : s.Raises v cs) (hn : d ∉ cs) : v.shows d ↔ s.shows d := ⟨h.only d hn, h.kept d⟩

theorem State.Raises.ite {p : Prop} [Decidable p] (hu : p → s.Raises u cs) (hv : ¬p → s.Raises v cs) :
    s.Raises (if p then u else v) cs := by
  split
  · next h => exact hu h
  · next h => exact hv h

theorem CauseSet.has_put (k : CauseSet) (b : Bool) (c d : Cause) : (k.put b c).has d = if d = c then b else k.has d := by
  cases c <;> cases d <;> rfl

theorem State.raise_of_shows (h : s.shows c) : s.raise c = s := if_pos h

theorem State.raise_of_not_shows (h : ¬s.shows c) : s.raise c = { s with attn := { s.attn with
    causes := s.attn.causes.put true c
    pulse := if s.attn.mode = .pulse ∧ s.attn.mask.has c then some s.cycle else s.attn.pulse } } := if_neg h

/-- R171: a raise adds its cause alone. -/
theorem State.raise_shows_iff (s : State) (c d : Cause) : (s.raise c).shows d ↔ d = c ∨ s.shows d := by
  by_cases h : s.shows c
  · rw [State.raise_of_shows h]
    exact ⟨.inr, fun g => g.elim (fun g => g ▸ h) id⟩
  · rw [State.raise_of_not_shows h]
    simp only [State.shows, CauseSet.has_put]
    split
    · next g => simp [g]
    · next g => simp [g]

theorem State.raise_raises (s : State) (hc : c ∈ cs) : s.Raises (s.raise c) cs := by
  refine ⟨?_, ?_, fun d hd => (s.raise_shows_iff c d).2 (.inr hd), fun d hn hd => ?_⟩
  · unfold State.raise; split <;> rfl
  · unfold State.raise; split <;> rfl
  · exact ((s.raise_shows_iff c d).1 hd).resolve_left fun g => hn (g ▸ hc)

theorem State.noteManagement_raises (s : State) (i : Idx) : s.Raises (s.noteManagement i) [.entries] :=
  .ite (fun _ => .trans (u := { s with mgmtNotices := insertIdx i s.mgmtNotices }) (.of_attn rfl)
    (State.raise_raises _ (.head _))) fun _ => .of_attn rfl

theorem State.notify_raises (s : State) (i : Idx) : s.Raises (s.notify i) [.entries] :=
  .ite (fun _ => .trans ((s.mapStations_sameBut _).raises (by decide)) (State.noteManagement_raises _ i)) fun _ =>
    (s.mapStations_sameBut _).raises (by decide)

theorem State.retire_raises (s : State) (i : Idx) : s.Raises (s.retire i) [.entries] := by
  refine .ite (fun _ => .refl s) fun _ => ?_
  exact (s.notify_raises i).trans (((((State.untie_sameBut _ i).trans (State.closeStreamsOn_sameBut _ i)).trans
    (State.mapOutputs_sameBut _ _)).trans (State.disown_sameBut _ _)).trans (State.setEntry_sameBut _ i _) |>.raises (by decide))

theorem State.clearStation_eq (s : State) (x : Addr) : ∃ w : State, s.clearStation x = w.raise .stations
    ∧ s.sameBut [.stations, .chain, .arrivals] w ∧ w.chain = s.chain.forget x
    ∧ w.stations = s.stations.set x { Station.cleared with
        owned := s.stations[x].owned, watchList := s.stations[x].watchList, notices := s.stations[x].notices } := by
  refine ⟨_, rfl, ?_, rfl, ?_⟩
  · intro p hp
    cases p <;> simp [State.samePart, State.closeStream, State.setStation] at hp ⊢
  · simp [State.closeStream, State.setStation]

theorem State.clearStation_raises (s : State) (x : Addr) : s.Raises (s.clearStation x) [.stations] := by
  obtain ⟨w, hv, hw, -⟩ := s.clearStation_eq x
  rw [hv]
  exact (hw.raises (by decide)).trans (w.raise_raises (.head _))

end

/-! ## What goes with entries and stations -/

/-- Between `s` and `v` the living entries of `gone` have retired and the stations of `off` have left, and nothing else was touched
but what is tied to them. -/
structure State.TakesOut (s v : State) (gone : Idx → Prop) (off : Addr → Prop) : Prop where
  live : ∀ i : Idx, gone i → s.entries[i].state ≠ .vacant
  went : ∀ i : Idx, gone i → v.entries[i] = Entry.vacantAt (s.entries[i].gen + 1)
  stayed : ∀ i : Idx, ¬gone i → v.entries[i] = { s.entries[i] with watchers := v.entries[i].watchers }
  watchers : ∀ (i : Idx) (y : Addr), y ∈ v.entries[i].watchers → y ∈ s.entries[i].watchers
  watching : ∀ (i : Idx) (y : Addr), ¬gone i → ¬off y → y ∈ s.entries[i].watchers → y ∈ v.entries[i].watchers
  stations : ∀ y : Addr, ¬off y → v.stations[y] = { s.stations[y] with
    stream := v.stations[y].stream, owned := v.stations[y].owned, watchList := v.stations[y].watchList
    notices := v.stations[y].notices }
  left : ∀ y : Addr, off y → v.stations[y].state = .absent
  cleared : s.ownedInv → s.watchInv → ∀ y : Addr, off y → v.stations[y] = Station.cleared
  streams : ∀ y : Addr, v.stations[y].stream = none ∨ v.stations[y].stream = s.stations[y].stream
  streaming : ∀ y : Addr, ¬off y → (∀ i : Idx, gone i → s.stations[y].streams i = false) → v.stations[y].stream = s.stations[y].stream
  closed : ∀ (y : Addr) (i : Idx), gone i → s.stations[y].streams i = true → v.stations[y].stream = none
  owned : ∀ y : Addr, v.stations[y].owned ≤ s.stations[y].owned
  watchList : ∀ y : Addr, v.stations[y].watchList ⊆ s.stations[y].watchList
  notices : ∀ (y : Addr) (i : Idx), i ∈ v.stations[y].notices → i ∈ s.stations[y].notices ∨ y ∈ s.entries[i].watchers
  noticed : ∀ y : Addr, ¬off y → s.stations[y].notices ⊆ v.stations[y].notices
  mgmtNotices : s.mgmtNotices ⊆ v.mgmtNotices
  notedMgmt : ∀ i : Idx, gone i → s.entries[i].mgmtWatch = true → i ∈ v.mgmtNotices
  noted : ∀ (i : Idx) (y : Addr), gone i → ¬off y → y ∈ s.entries[i].watchers → i ∈ v.stations[y].notices
  unbound : ∀ (o : OutNo) (i : Idx), gone i → s.outs[o].boundTo i = true → v.outs[o] = s.outs[o].unbind
  bound : ∀ o : OutNo, (∀ i : Idx, gone i → s.outs[o].boundTo i = false) → v.outs[o] = s.outs[o]
  chain : v.chain = { s.chain with tx := v.chain.tx }
  line : s.chain.tx = none → v.chain.tx = none
  causes : s.Raises v [.entries, .stations]
  shows : ∀ y : Addr, off y → v.shows .stations
  same : s.sameBut offParts v
  sound : s.soundTo v

namespace State.TakesOut

variable {s u v : State} {gone gone' : Idx → Prop} {off off' : Addr → Prop}

theorem congr (h : s.TakesOut v gone off) (hg : ∀ i, gone i ↔ gone' i) (ho : ∀ y, off y ↔ off' y) : s.TakesOut v gone' off' := by
  obtain rfl : gone = gone' := funext fun i => propext (hg i)
  obtain rfl : off = off' := funext fun y => propext (ho y)
  exact h

theorem refl (s : State) : s.TakesOut s (fun _ => False) fun _ => False where
  live _ h := h.elim
  went _ h := h.elim
  stayed _ _ := rfl
  watchers _ _ h := h
  watching _ _ _ _ h := h
  stations _ _ := rfl
  left _ h := h.elim
  cleared _ _ _ h := h.elim
  streams _ := .inr rfl
  streaming _ _ _ := rfl
  closed _ _ h := h.elim
  owned _ := le_rfl
  watchList _ := List.Subset.refl _
  notices _ _ h := .inl h
  noticed _ _ := List.Subset.refl _
  mgmtNotices := List.Subset.refl _
  notedMgmt _ h := h.elim
  noted _ _ h := h.elim
  unbound _ _ h := h.elim
  bound _ _ := rfl
  chain := rfl
  line h := h
  causes := .refl s
  shows _ h := h.elim
  same := .refl s _
  sound := .refl s

/-- The state of an entry that did not retire stands, with its owner. -/
theorem state_of_stayed (h : s.TakesOut v gone off) {i : Idx} (hi : ¬gone i) : v.entries[i].state = s.entries[i].state := by
  rw [h.stayed i hi]

theorem vacant_of_went (h : s.TakesOut v gone off) {i : Idx} (hi : gone i) : v.entries[i].state = .vacant := by
  rw [h.went i hi]; rfl

theorem live_of_live (h : s.TakesOut v gone off) {i : Idx} (hv : v.entries[i].state ≠ .vacant) :
    ¬gone i ∧ s.entries[i].state ≠ .vacant := by
  have hg : ¬gone i := fun hg => hv (h.vacant_of_went hg)
  exact ⟨hg, h.state_of_stayed hg ▸ hv⟩

theorem mem_watchers (h : s.TakesOut v gone off) {i : Idx} {y : Addr} (hi : ¬gone i) (hy : ¬off y) :
    y ∈ v.entries[i].watchers ↔ y ∈ s.entries[i].watchers := ⟨h.watchers i y, h.watching i y hi hy⟩

theorem not_streams (h : s.TakesOut v gone off) {y : Addr} {i : Idx} (hs : s.stations[y].streams i = false) :
    v.stations[y].streams i = false := by
  rcases h.streams y with e | e
  · simp only [Station.streams, e, Option.any_none]
  · simpa only [Station.streams, e] using hs

theorem boundTo_of_bound (h : s.TakesOut v gone off) {o : OutNo} {i : Idx} (hs : s.outs[o].boundTo i = false) :
    v.outs[o].boundTo i = false := by
  by_cases hx : ∃ j, gone j ∧ s.outs[o].boundTo j = true
  · obtain ⟨j, hj, hb⟩ := hx
    rw [h.unbound o j hj hb]
    rfl
  · rw [h.bound o fun j hj => by simpa using fun hb => hx ⟨j, hj, hb⟩]
    exact hs

/-- A record that was cleared stays so. -/
theorem cleared_stays (h : s.TakesOut v gone off) (hw : s.watchInv) {y : Addr} (hy : ¬off y) (hc : s.stations[y] = Station.cleared) :
    v.stations[y] = Station.cleared := by
  have hnone : v.stations[y].stream = none := by
    rcases h.streams y with e | e
    · exact e
    · rw [e, hc]; rfl
  have howned : v.stations[y].owned = 0 := by
    have := h.owned y
    rw [hc] at this
    exact Nat.le_zero.1 this
  have hlist : v.stations[y].watchList = [] := by
    have := h.watchList y
    rw [hc] at this
    exact List.subset_nil.1 this
  have hnotices : v.stations[y].notices = [] := by
    refine List.eq_nil_iff_forall_not_mem.2 fun i hi => ?_
    rcases h.notices y i hi with g | g
    · rw [hc] at g; exact List.not_mem_nil g
    · have := (hw.1 i y).1 g
      rw [hc] at this
      exact List.not_mem_nil this
  rw [h.stations y hy, hnone, howned, hlist, hnotices, hc]
  rfl

theorem trans (h : s.TakesOut u gone off) (h' : u.TakesOut v gone' off') :
    s.TakesOut v (fun i => gone i ∨ gone' i) fun y => off y ∨ off' y where
  live i hi := hi.elim (h.live i) fun g => (h.live_of_live (h'.live i g)).2
  went i hi := by
    by_cases hg : gone i
    · have hg' : ¬gone' i := fun g => h'.live i g (h.vacant_of_went hg)
      have hw : v.entries[i].watchers = [] := by
        refine List.eq_nil_iff_forall_not_mem.2 fun y hy => ?_
        have := h'.watchers i y hy
        rw [h.went i hg] at this
        exact List.not_mem_nil this
      rw [h'.stayed i hg', hw, h.went i hg]
      rfl
    · have hg' := hi.resolve_left hg
      rw [h'.went i hg', h.stayed i hg]
  stayed i hi := by
    rw [h'.stayed i fun g => hi (.inr g), h.stayed i fun g => hi (.inl g)]
  watchers i y hy := h.watchers i y (h'.watchers i y hy)
  watching i y hi hy hw := h'.watching i y (fun g => hi (.inr g)) (fun g => hy (.inr g))
    (h.watching i y (fun g => hi (.inl g)) (fun g => hy (.inl g)) hw)
  stations y hy := by
    rw [h'.stations y fun g => hy (.inr g), h.stations y fun g => hy (.inl g)]
  left y hy := by
    by_cases hy' : off' y
    · exact h'.left y hy'
    · rw [h'.stations y hy']
      exact h.left y (hy.resolve_right hy')
  cleared ho hw y hy := by
    by_cases hy' : off' y
    · exact h'.cleared (h.sound.owned ho) (h.sound.watch hw) y hy'
    · exact h'.cleared_stays (h.sound.watch hw) hy' (h.cleared ho hw y (hy.resolve_right hy'))
  streams y := by
    rcases h'.streams y with e | e
    · exact .inl e
    · rw [e]; exact h.streams y
  streaming y hy hs := by
    have h1 := h.streaming y (fun g => hy (.inl g)) fun i hi => hs i (.inl hi)
    rw [h'.streaming y (fun g => hy (.inr g)) fun i hi => h.not_streams (hs i (.inr hi)), h1]
  closed y i hi hs := by
    by_cases hg : gone i
    · rcases h'.streams y with e | e
      · exact e
      · rw [e]; exact h.closed y i hg hs
    · rcases h.streams y with e | e
      · rcases h'.streams y with e' | e'
        · exact e'
        · rw [e', e]
      · exact h'.closed y i (hi.resolve_left hg) (by simpa only [Station.streams, e] using hs)
  owned y := (h'.owned y).trans (h.owned y)
  watchList y := List.Subset.trans (h'.watchList y) (h.watchList y)
  notices y i hi := by
    rcases h'.notices y i hi with g | g
    · exact h.notices y i g
    · exact .inr (h.watchers i y g)
  noticed y hy := List.Subset.trans (h.noticed y fun g => hy (.inl g)) (h'.noticed y fun g => hy (.inr g))
  mgmtNotices := List.Subset.trans h.mgmtNotices h'.mgmtNotices
  notedMgmt i hi hm := by
    by_cases hg : gone i
    · exact h'.mgmtNotices (h.notedMgmt i hg hm)
    · exact h'.notedMgmt i (hi.resolve_left hg) (by rw [h.stayed i hg]; exact hm)
  noted i y hi hy hw := by
    have hy1 : ¬off y := fun g => hy (.inl g)
    have hy2 : ¬off' y := fun g => hy (.inr g)
    by_cases hg : gone i
    · exact h'.noticed y hy2 (h.noted i y hg hy1 hw)
    · exact h'.noted i y (hi.resolve_left hg) hy2 (h.watching i y hg hy1 hw)
  unbound o i hi hb := by
    by_cases hx : ∃ j, gone j ∧ s.outs[o].boundTo j = true
    · obtain ⟨j, hj, hbj⟩ := hx
      have hu := h.unbound o j hj hbj
      rw [h'.bound o fun k _ => by rw [hu]; rfl, hu]
    · have hu : u.outs[o] = s.outs[o] := h.bound o fun j hj => by simpa using fun hb => hx ⟨j, hj, hb⟩
      have hg' : gone' i := hi.resolve_left fun g => hx ⟨i, g, hb⟩
      rw [h'.unbound o i hg' (by rw [hu]; exact hb), hu]
  bound o hb := by
    have h1 := h.bound o fun i hi => hb i (.inl hi)
    rw [h'.bound o fun i hi => h.boundTo_of_bound (hb i (.inr hi)), h1]
  chain := by rw [h'.chain, h.chain]
  line hn := h'.line (h.line hn)
  causes := h.causes.trans h'.causes
  shows y hy := by
    by_cases hy' : off' y
    · exact h'.shows y hy'
    · exact h'.causes.kept _ (h.shows y (hy.resolve_right hy'))
  same := h.same.comp h'.same
  sound := h.sound.trans h'.sound

/-- Nothing goes where nothing is to go. -/
theorem ite {p : Prop} [Decidable p] (h : p → s.TakesOut v gone off) :
    s.TakesOut (if p then v else s) (fun i => p ∧ gone i) fun y => p ∧ off y := by
  split
  · next hp => exact (h hp).congr (fun _ => by simp [hp]) fun _ => by simp [hp]
  · next hp => exact (refl s).congr (fun _ => by simp [hp]) fun _ => by simp [hp]

theorem living_iff (h : s.TakesOut v gone off) (i : Idx) :
    v.entries[i].state ≠ .vacant ↔ ¬gone i ∧ s.entries[i].state ≠ .vacant :=
  ⟨h.live_of_live, fun ⟨hg, hs⟩ => h.state_of_stayed hg ▸ hs⟩

theorem owner_of_stayed (h : s.TakesOut v gone off) {i : Idx} (hi : ¬gone i) : v.entries[i].owner = s.entries[i].owner := by
  rw [h.stayed i hi]

/-- What goes after some entries have gone, by a condition on the owner. -/
theorem goes_iff (h : s.TakesOut v gone off) {P : Link → Prop} (i : Idx) :
    gone i ∨ v.entries[i].state ≠ .vacant ∧ P v.entries[i].owner ↔ gone i ∨ s.entries[i].state ≠ .vacant ∧ P s.entries[i].owner := by
  by_cases hg : gone i
  · simp [hg]
  · rw [h.state_of_stayed hg, h.owner_of_stayed hg]

end State.TakesOut

/-! ## Retirements -/

theorem State.closeStreamsOn_chain (s : State) (i : Idx) : ∃ tx, (s.closeStreamsOn i).chain = { s.chain with tx := tx }
    ∧ (s.chain.tx = none → tx = none) := by
  cases hf : s.chain.tx with
  | none =>
    simp only [State.closeStreamsOn, hf, State.mapStations_chain]
    exact ⟨s.chain.tx, rfl, fun _ => hf⟩
  | some f =>
    simp only [State.closeStreamsOn, hf]
    split
    · exact ⟨_, rfl, nofun⟩
    · exact ⟨s.chain.tx, rfl, fun h => nomatch h⟩

theorem State.retire_chain (s : State) (i : Idx) : ∃ tx, (s.retire i).chain = { s.chain with tx := tx }
    ∧ (s.chain.tx = none → tx = none) := by
  by_cases h : s.entries[i].state = .vacant
  · rw [State.retire_vacant h]
    exact ⟨s.chain.tx, rfl, id⟩
  · obtain ⟨tx, h1, h2⟩ := ((s.notify i).untie i).closeStreamsOn_chain i
    have h3 : ((s.notify i).untie i).chain = s.chain :=
      ((s.notify_sameBut i).trans (State.untie_sameBut _ i)) .chain (by decide)
    have h4 : (s.retire i).chain = (((s.notify i).untie i).closeStreamsOn i).chain := by
      rw [State.retire_eq h]
      exact (((State.mapOutputs_sameBut _ _).trans (State.disown_sameBut _ _)).trans (State.setEntry_sameBut _ i _))
        .chain (by decide)
    exact ⟨tx, by rw [h4, h1, h3], fun h => h2 (by rw [h3]; exact h)⟩

/-- R17: the immediate retirement of one entry. -/
theorem State.retire_takesOut {s : State} {i : Idx} (h : s.entries[i].state ≠ .vacant) :
    s.TakesOut (s.retire i) (fun j => j = i) fun _ => False := by
  obtain ⟨tx, hch, htx⟩ := s.retire_chain i
  have hat (y : Addr) := State.retire_stations_at h y
  have hout (o : OutNo) := State.retire_outs_at h o
  have hm := State.retire_mgmtNotices h
  refine { live := ?_, went := ?_, stayed := ?_, watchers := ?_, watching := ?_, stations := ?_, left := ?_, cleared := ?_,
           streams := ?_, streaming := ?_, closed := ?_, owned := ?_, watchList := ?_, notices := ?_, noticed := ?_,
           mgmtNotices := ?_, notedMgmt := ?_, noted := ?_, unbound := ?_, bound := ?_, chain := ?_, line := ?_, causes := ?_,
           shows := ?_, same := ?_, sound := ?_ }
  · rintro j rfl; exact h
  · rintro j rfl; exact State.retire_same h
  · intro j hj; rw [Fin.getElem_fin, Fin.getElem_fin, State.retire_ne hj]
  · intro j y hy
    by_cases hj : j = i
    · subst hj
      rw [Fin.getElem_fin, State.retire_same h] at hy
      exact absurd hy List.not_mem_nil
    · rwa [Fin.getElem_fin, State.retire_ne hj] at hy
  · intro j y hj _ hy
    rwa [Fin.getElem_fin, State.retire_ne hj]
  · intro y _; simp only [Fin.getElem_fin, hat]
  · exact fun _ g => g.elim
  · exact fun _ _ _ g => g.elim
  · intro y
    simp only [Fin.getElem_fin, hat]
    split
    · exact .inl rfl
    · exact .inr rfl
  · intro y _ hs
    have hsi : s.stations[y.val].streams i = false := hs i rfl
    simp [Fin.getElem_fin, hat, hsi]
  · rintro y j rfl hs
    rw [Fin.getElem_fin] at hs
    simp [Fin.getElem_fin, hat, hs]
  · intro y; simp only [Fin.getElem_fin, hat]; exact Nat.sub_le _ _
  · intro y
    simp only [Fin.getElem_fin, hat]
    split
    · exact List.erase_subset
    · exact List.Subset.refl _
  · intro y j hj
    simp only [Fin.getElem_fin, hat] at hj
    split at hj
    · next hw =>
      rcases (mem_insertIdx i j _).1 hj with rfl | hj
      · exact .inr hw
      · exact .inl hj
    · exact .inl hj
  · intro y _ j hj
    simp only [Fin.getElem_fin, hat]
    split
    · exact (mem_insertIdx i j _).2 (.inr hj)
    · exact hj
  · intro j hj
    rw [hm]
    split
    · exact (mem_insertIdx i j _).2 (.inr hj)
    · exact hj
  · rintro j rfl hw
    rw [hm, if_pos hw]
    exact (mem_insertIdx j j _).2 (.inl rfl)
  · rintro j y rfl _ hw
    simp only [Fin.getElem_fin] at hw
    simp only [Fin.getElem_fin, hat, if_pos hw]
    exact (mem_insertIdx j j _).2 (.inl rfl)
  · rintro o j rfl hb
    rw [Fin.getElem_fin, hout, if_pos hb]
  · intro o hb
    rw [Fin.getElem_fin, hout, if_neg (by simpa using hb i rfl), Fin.getElem_fin]
  · rw [hch]
  · intro hn; rw [hch]; exact htx hn
  · exact (s.retire_raises i).mono (by decide)
  · exact fun _ g => g.elim
  · exact (s.retire_sameBut i).mono (by decide)
  · exact s.retire_sound i

/-- The living entries whose owner meets `P` are retired, in index order. -/
theorem State.retireAll_takesOut (P : Link → Prop) [DecidablePred P] (l : List Idx) (s : State) :
    s.TakesOut (l.foldl (fun s i => if s.entries[i].state ≠ .vacant ∧ P s.entries[i].owner then s.retire i else s) s)
      (fun i => i ∈ l ∧ s.entries[i].state ≠ .vacant ∧ P s.entries[i].owner) fun _ => False := by
  induction l generalizing s with
  | nil => exact (TakesOut.refl s).congr (by simp) (by simp)
  | cons i l ih =>
    have h1 : s.TakesOut (if s.entries[i].state ≠ .vacant ∧ P s.entries[i].owner then s.retire i else s) _ _ :=
      TakesOut.ite fun h => State.retire_takesOut h.1
    refine (h1.trans (ih _)).congr (fun j => ?_) (by simp)
    have hj := h1.goes_iff (P := P) j
    by_cases hm : j ∈ l
    · simp only [hm, true_and, List.mem_cons, or_true]
      refine hj.trans ⟨fun g => ?_, .inr⟩
      rcases g with ⟨g, rfl⟩ | g
      · exact g
      · exact g
    · simp only [hm, false_and, or_false, List.mem_cons]
      exact ⟨fun ⟨g, e⟩ => ⟨e, e ▸ g⟩, fun ⟨e, g⟩ => ⟨e ▸ g, e⟩⟩

theorem State.retireOwned_takesOut (s : State) (x : Addr) : s.TakesOut (s.retireOwned x)
    (fun i => s.entries[i].state ≠ .vacant ∧ s.entries[i].owner = .station x) fun _ => False :=
  (State.retireAll_takesOut (fun l => l = .station x) (List.finRange 64) s).congr (by simp) (by simp)

/-! ## Stations that leave (R21, R136) -/

theorem State.unwatchAll_entries_at (s : State) (x : Addr) (i : Idx) : (s.unwatchAll x).entries[i.val] = { s.entries[i.val] with
    watchers := if i ∈ s.stations[x].watchList then s.entries[i.val].watchers.erase x else s.entries[i.val].watchers } := by
  simp only [State.unwatchAll, State.setStation_entries, State.mapEntries_at]
  split
  · simp only [Fin.getElem_fin]
  · simp only [Fin.getElem_fin]

theorem State.leave_takesOut {s : State} {x : Addr}
    (h : ∀ i : Idx, s.entries[i].state ≠ .vacant → s.entries[i].owner ≠ .station x) :
    s.TakesOut ((s.unwatchAll x).clearStation x) (fun _ => False) fun y => y = x := by
  obtain ⟨w, hv, hw, hch, hst⟩ := (s.unwatchAll x).clearStation_eq x
  have hun : s.sameBut [.entries, .stations] (s.unwatchAll x) :=
    ((s.mapEntries_sameBut _).trans (State.setStation_sameBut _ x _)).mono (by simp)
  have hent (i : Idx) : (((s.unwatchAll x).clearStation x)).entries[i.val] = { s.entries[i.val] with
      watchers := if i ∈ s.stations[x].watchList then s.entries[i.val].watchers.erase x else s.entries[i.val].watchers } := by
    have h1 : ((s.unwatchAll x).clearStation x).entries = (s.unwatchAll x).entries := by
      rw [hv, (w.raise_sameBut .stations) .entries (by decide)]; exact hw .entries (by decide)
    simp only [h1, State.unwatchAll_entries_at]
  have hsta (y : Addr) : ((s.unwatchAll x).clearStation x).stations[y.val]
      = if y = x then { Station.cleared with owned := s.stations[x.val].owned } else s.stations[y.val] := by
    rw [show ((s.unwatchAll x).clearStation x).stations = w.stations from
      hv ▸ (w.raise_sameBut .stations) .stations (by decide), hst]
    by_cases hy : y = x
    · subst hy
      simp [State.unwatchAll, Station.cleared]
    · have : x.val ≠ y.val := fun g => hy (Fin.ext g.symm)
      simp [State.unwatchAll, State.setStation, this, hy]
  have hne (y : Addr) (hy : y ≠ x) : ((s.unwatchAll x).clearStation x).stations[y] = s.stations[y] := (hsta y).trans (if_neg hy)
  have hx : ((s.unwatchAll x).clearStation x).stations[x] = { Station.cleared with owned := s.stations[x.val].owned } :=
    (hsta x).trans (if_pos rfl)
  have hchain : ((s.unwatchAll x).clearStation x).chain = s.chain.forget x := by
    rw [show ((s.unwatchAll x).clearStation x).chain = w.chain from
      hv ▸ (w.raise_sameBut .stations) .chain (by decide), hch, hun .chain (by decide)]
  have hrest : (s.unwatchAll x).sameBut [.stations, .chain, .arrivals, .attn] ((s.unwatchAll x).clearStation x) := by
    rw [hv]
    exact (hw.trans (State.raise_sameBut w _)).mono (by decide)
  have hsound : s.soundTo ((s.unwatchAll x).clearStation x) := (s.unwatchAll_sound x).trans (State.clearStation_sound _ x)
  refine { live := fun _ g => g.elim, went := fun _ g => g.elim, stayed := ?_, watchers := ?_, watching := ?_, stations := ?_,
           left := ?_, cleared := ?_, streams := ?_, streaming := ?_, closed := fun _ _ g => g.elim, owned := ?_,
           watchList := ?_, notices := ?_, noticed := ?_, mgmtNotices := ?_, notedMgmt := fun _ g => g.elim,
           noted := fun _ _ g => g.elim, unbound := fun _ _ g => g.elim, bound := ?_, chain := ?_, line := ?_, causes := ?_,
           shows := ?_, same := ?_, sound := hsound }
  · intro i _; simp only [Fin.getElem_fin, hent]
  · intro i y hy
    simp only [Fin.getElem_fin, hent] at hy
    split at hy
    · exact List.mem_of_mem_erase hy
    · exact hy
  · intro i y _ hyx hy
    simp only [Fin.getElem_fin, hent]
    split
    · exact (List.mem_erase_of_ne hyx).2 hy
    · exact hy
  · intro y hy; rw [hne y hy]
  · rintro y rfl; rw [hx]; rfl
  · rintro ho hwi y rfl
    have h0 : s.stations[y].owned = 0 := by
      rw [(ho y).1, List.length_eq_zero_iff, State.ownedBy, List.filter_eq_nil_iff]
      intro i _ g
      simp only [Bool.and_eq_true, decide_eq_true_eq] at g
      exact h i g.1 g.2
    rw [Fin.getElem_fin] at h0
    rw [hx, h0]
    rfl
  · intro y
    by_cases hy : y = x
    · subst hy; rw [hx]; exact .inl rfl
    · rw [hne y hy]; exact .inr rfl
  · intro y hy _; rw [hne y hy]
  · intro y
    by_cases hy : y = x
    · subst hy; rw [hx]; exact le_rfl
    · rw [hne y hy]
  · intro y
    by_cases hy : y = x
    · subst hy; rw [hx]; exact List.nil_subset _
    · rw [hne y hy]; exact List.Subset.refl _
  · intro y i hi
    by_cases hy : y = x
    · subst hy; rw [hx] at hi; exact absurd hi List.not_mem_nil
    · rw [hne y hy] at hi; exact .inl hi
  · intro y hy; rw [hne y hy]; exact List.Subset.refl _
  · rw [show ((s.unwatchAll x).clearStation x).mgmtNotices = s.mgmtNotices from
      (hrest .mgmtNotices (by decide)).trans (hun .mgmtNotices (by decide))]
    exact List.Subset.refl _
  · intro o _
    rw [show ((s.unwatchAll x).clearStation x).outs = s.outs from (hrest .outs (by decide)).trans (hun .outs (by decide))]
  · rw [hchain]; rfl
  · intro hn; rw [hchain, Chain.forget, hn]; rfl
  · exact (hun.raises (by decide)).trans ((State.clearStation_raises _ x).mono (by decide))
  · intro _ _; rw [hv]; exact State.raise_shows w .stations
  · exact (hun.trans hrest).mono (by decide)

/-- R136: one station leaves. -/
theorem State.stationAbsent_takesOut (s : State) (x : Addr) : s.TakesOut (s.stationAbsent x)
    (fun i => s.entries[i].state ≠ .vacant ∧ s.entries[i].owner = .station x) fun y => y = x := by
  have h1 := s.retireOwned_takesOut x
  have h2 : (s.retireOwned x).TakesOut (((s.retireOwned x).unwatchAll x).clearStation x) _ _ :=
    State.leave_takesOut (x := x) fun i hi ho => by
      obtain ⟨hg, hs⟩ := h1.live_of_live hi
      exact hg ⟨hs, h1.owner_of_stayed hg ▸ ho⟩
  exact (h1.trans h2).congr (by simp) (by simp)

/-- The stations of `l` that meet `c` leave, where `c` reads of a station only what another's leaving does not touch. -/
theorem State.leaveAll_takesOut {c : State → Addr → Prop} [∀ (u : State) (x : Addr), Decidable (c u x)]
    (hc : ∀ (u v : State) gone off (x : Addr), u.TakesOut v gone off → ¬off x → (c v x ↔ c u x))
    {l : List Addr} (hl : l.Nodup) (s : State) :
    s.TakesOut (l.foldl (fun s x => if c s x then s.stationAbsent x else s) s)
      (fun i => s.entries[i].state ≠ .vacant ∧ ∃ x ∈ l, c s x ∧ s.entries[i].owner = .station x) fun y => y ∈ l ∧ c s y := by
  induction l generalizing s with
  | nil => exact (TakesOut.refl s).congr (by simp) (by simp)
  | cons x l ih =>
    have h1 : s.TakesOut (if c s x then s.stationAbsent x else s) _ _ := TakesOut.ite fun _ => s.stationAbsent_takesOut x
    have hkeep (y : Addr) (hy : y ∈ l) := hc _ _ _ _ y h1 fun g => (List.nodup_cons.1 hl).1 (g.2 ▸ hy)
    refine (h1.trans (ih (List.nodup_cons.1 hl).2 _)).congr (fun i => ?_) fun y => ?_
    · refine (h1.goes_iff (P := fun l' => ∃ y ∈ l, c _ y ∧ l' = .station y) i).trans ?_
      simp only [List.mem_cons, exists_eq_or_imp, and_or_left]
      refine or_congr (by tauto) (and_congr_right fun _ => exists_congr fun y => and_congr_right fun hy => ?_)
      rw [hkeep y hy]
    · by_cases hy : y ∈ l
      · rw [hkeep y hy]
        simp only [hy, List.mem_cons, or_true, true_and]
        exact ⟨fun g => g.elim (fun g => g.2 ▸ g.1) id, .inr⟩
      · simp only [hy, List.mem_cons, or_false, false_and]
        exact ⟨fun g => ⟨g.2, g.2 ▸ g.1⟩, fun g => ⟨g.1 ▸ g.2, g.1⟩⟩

end Sys2Proof.Machine

/-! PROOFS. O54 and O55: CHAIN with its settings, RELEASE and HOLD. -/

namespace Sys2Proof.Machine

open Sys2Proof Config

/-! ## The frame on CTX is cut short (R124) -/

section

variable (s : State)

/-- R124: frame `f` on CTX ends with the bit that is on the line (log entry 38). -/
def State.cutOf (f : TxFrame) : CutFrame :=
  { bit := f.level s.cycle
    start := f.startCycle + cyclesPerBit * ceilDiv (s.cycle - f.startCycle) cyclesPerBit }

variable {s} in
theorem State.abortTx_report {f : TxFrame} (hf : s.chain.tx = some f) (h : f.kind = .report ∧ f.live = true) :
    s.abortTx = (s.cutLine (s.cutOf f)).setStation f.addr { s.stations[f.addr] with
      stream := s.stations[f.addr].stream.map fun st => { st with skipped := satAdd 255 st.skipped 1 } } := by
  simp only [State.abortTx, hf]
  exact if_pos h

variable {s} in
theorem State.abortTx_other {f : TxFrame} (hf : s.chain.tx = some f) (h : ¬(f.kind = .report ∧ f.live = true)) :
    s.abortTx = s.cutLine (s.cutOf f) := by
  simp only [State.abortTx, hf]
  exact if_neg h

theorem State.abortTx_chain : ∃ re cut base, s.abortTx.chain
    = { s.chain with tx := none, reportEnd := re, cut := cut, lineBase := base } := by
  cases hf : s.chain.tx with
  | none =>
    rw [State.abortTx_none hf]
    split
    · exact ⟨_, _, _, rfl⟩
    · exact ⟨_, _, _, by rw [← hf]⟩
  | some f =>
    simp only [State.abortTx, hf]
    split
    · exact ⟨_, _, _, rfl⟩
    · exact ⟨_, _, _, rfl⟩

/-- R154: a report to station `y` is cut short. -/
def State.cutsReport (y : Addr) : Prop := ∃ f, s.chain.tx = some f ∧ f.kind = .report ∧ f.live = true ∧ f.addr = y

open Classical in
theorem State.abortTx_stations_at (y : Addr) : s.abortTx.stations[y] = { s.stations[y] with
    stream := s.stations[y].stream.map fun st =>
      { st with skipped := if s.cutsReport y then min 255 (st.skipped + 1) else st.skipped } } := by
  have hno (h : ¬s.cutsReport y) : s.stations[y] = { s.stations[y] with
      stream := s.stations[y].stream.map fun st =>
        { st with skipped := if s.cutsReport y then min 255 (st.skipped + 1) else st.skipped } } := by
    simp only [if_neg h]
    rw [show (fun st : Stream => ({ st with skipped := st.skipped } : Stream)) = id from rfl, Option.map_id]
    rfl
  cases hf : s.chain.tx with
  | none =>
    have h : ¬s.cutsReport y := fun ⟨f, hs, _⟩ => by rw [hf] at hs; exact nomatch hs
    rw [← hno h, State.abortTx_none hf]
    split <;> rfl
  | some f =>
    by_cases hr : f.kind = .report ∧ f.live = true
    · have hat := State.abortTx_report hf hr
      by_cases hy : y = f.addr
      · have h : s.cutsReport y := ⟨f, hf, hr.1, hr.2, hy.symm⟩
        subst hy
        simp only [if_pos h, hat, Fin.getElem_fin, State.setStation_get]
        rfl
      · have h : ¬s.cutsReport y := fun ⟨g, hs, _, _, ha⟩ => by
          rw [hf] at hs
          cases hs
          exact hy ha.symm
        rw [← hno h, hat]
        exact (State.setStation_get _ _ _ _).trans (if_neg hy)
    · have h : ¬s.cutsReport y := fun ⟨g, hs, hk, hl, _⟩ => by
        rw [hf] at hs
        cases hs
        exact hr ⟨hk, hl⟩
      rw [← hno h, State.abortTx_other hf hr]
      rfl

/-! ## The chain leaves a state (R129, R131) -/

theorem State.leaveChain_chain (c : ChainState) : ∃ re cut base, (s.leaveChain c).chain = { s.chain with
    state := c, svc := none, chosen := none, tx := none, reportEnd := re, cut := cut, lineBase := base } := by
  obtain ⟨re, cut, base, h⟩ := s.abortTx_chain
  refine ⟨re, cut, base, ?_⟩
  rw [State.leaveChain, (State.raise_sameBut _ Cause.chain) .chain (by decide), h]

theorem State.leaveChain_stations (c : ChainState) : (s.leaveChain c).stations = s.abortTx.stations := by
  rw [State.leaveChain, (State.raise_sameBut _ Cause.chain) .stations (by decide)]

theorem State.leaveChain_shows (c : ChainState) : (s.leaveChain c).shows .chain := State.raise_shows _ _

theorem State.leaveChain_raises (c : ChainState) : s.Raises (s.leaveChain c) [.chain] := by
  rw [State.leaveChain]
  exact ((s.abortTx_sameBut.trans (State.setChain_sameBut _ _)).raises (by decide)).trans (State.raise_raises _ (.head _))

/-- RELEASE of a HELD chain (R131). -/
theorem State.releaseChain_held (h : s.chain.state = .held) : s.releaseChain.shows .chain
    ∧ (∀ n, s.liveRun = some n → liveRunGoal ≤ n → s.releaseChain.chain = { s.chain with
        state := .running, step := .polls, cursor := 0, chosen := none })
    ∧ ((∀ n, s.liveRun = some n → n < liveRunGoal) → s.releaseChain.chain = { s.chain with state := .broken }) := by
  rw [State.releaseChain, if_pos h]
  by_cases hr : (s.liveRun.any fun n => liveRunGoal ≤ n) = true
  · rw [if_pos hr]
    obtain ⟨m, hm, hg⟩ := (Option.any_eq_true _ _).1 hr
    refine ⟨State.raise_shows _ _, fun _ _ _ => (State.raise_sameBut _ Cause.chain) .chain (by decide), fun hlt => ?_⟩
    exact absurd (hlt m hm) (Nat.not_lt.2 (of_decide_eq_true hg))
  · rw [if_neg hr]
    refine ⟨State.raise_shows _ _, fun n hn hg => ?_, fun _ => (State.raise_sameBut _ Cause.chain) .chain (by decide)⟩
    exact absurd ((Option.any_eq_true _ _).2 ⟨n, hn, decide_eq_true hg⟩) hr

theorem State.releaseChain_free (h : s.chain.state ≠ .held) : s.releaseChain = s := if_neg h

theorem State.releaseChain_chain : ∃ st step cursor chosen, s.releaseChain.chain
    = { s.chain with state := st, step := step, cursor := cursor, chosen := chosen } := by
  by_cases h : s.chain.state = .held
  · obtain ⟨-, h1, h2⟩ := s.releaseChain_held h
    by_cases hr : ∃ n, s.liveRun = some n ∧ liveRunGoal ≤ n
    · obtain ⟨n, hn, hg⟩ := hr
      exact ⟨_, _, _, _, h1 n hn hg⟩
    · exact ⟨_, _, _, _, h2 fun n hn => Nat.lt_of_not_le fun hg => hr ⟨n, hn, hg⟩⟩
  · rw [s.releaseChain_free h]
    exact ⟨_, _, _, _, rfl⟩

/-- R128: a live run of the length that RELEASE asks for. -/
theorem State.liveRun_reaches : (∃ n, s.liveRun = some n ∧ liveRunGoal ≤ n) ↔ ∃ a d, s.chain.liveStart = some a
    ∧ s.chain.lastDelim = some d ∧ s.cycle - d ≤ 12500 ∧ 125000 ≤ s.cycle - a := by
  rw [State.liveRun]
  cases s.chain.liveStart with
  | none => simp
  | some a =>
    cases s.chain.lastDelim with
    | none => simp
    | some d =>
      by_cases hd : s.cycle - d ≤ 12500
      · have hd' : s.cycle - d ≤ liveGap := hd
        simp only [if_pos hd']
        exact ⟨fun ⟨n, h1, h2⟩ => ⟨a, d, rfl, rfl, hd, by cases h1; exact h2⟩,
          fun ⟨a', d', h1, h2, _, h4⟩ => ⟨s.cycle - a, rfl, by cases h1; exact h4⟩⟩
      · have hd' : ¬s.cycle - d ≤ liveGap := hd
        simp only [if_neg hd']
        exact ⟨fun ⟨n, h1, _⟩ => (nomatch h1), fun ⟨a', d', _, h2, h3, _⟩ => by cases h2; exact absurd h3 hd⟩

end

/-! ## The settings of CHAIN (R130) -/

/-- The chain with its three settings. -/
def State.withSettings (s : State) (timeout orphan : Nat) (auto : Bool) : State :=
  { s with chain := { s.chain with timeout := timeout, orphan := orphan, autoRelease := auto } }

section

variable (s : State) (timeout orphan : Nat) (auto : Bool)

/-- R130: the SILENT stations that a new orphan time has reached leave; none where it equals the one in force. -/
theorem State.chainSettings_takesOut : (s.withSettings timeout orphan auto).TakesOut (s.chainSettings timeout orphan auto)
    (fun i => s.entries[i].state ≠ .vacant ∧ ∃ x, s.orphanedBy orphan x ∧ s.entries[i].owner = .station x)
    (s.orphanedBy orphan) := by
  rw [State.chainSettings]
  by_cases ho : orphan = s.chain.orphan
  · rw [if_pos ho]
    have hno (x : Addr) : ¬s.orphanedBy orphan x := fun h => h.2.1 ho
    exact (TakesOut.refl _).congr (fun i => by simp [hno]) fun x => by simp [hno]
  · rw [if_neg ho]
    have hcond (x : Addr) : s.stations[x].state = .silent
        ∧ (s.stations[x].orphanStart.any fun c => orphan * cyclesPerSecond ≤ s.cycle - c) = true ↔ s.orphanedBy orphan x := by
      rw [Option.any_eq_true]
      simp only [decide_eq_true_eq]
      exact ⟨fun ⟨h1, h2⟩ => ⟨h1, ho, h2⟩, fun ⟨h1, _, h2⟩ => ⟨h1, h2⟩⟩
    refine (State.leaveAll_takesOut (c := fun u x => u.stations[x].state = .silent
      ∧ (u.stations[x].orphanStart.any fun c => orphan * cyclesPerSecond ≤ u.cycle - c) = true) ?_
      (List.nodup_finRange 30) (s.withSettings timeout orphan auto)).congr (fun i => ?_) fun x => ?_
    · intro u v gone off x h hx
      have hc : v.cycle = u.cycle := h.same .cycle (by decide)
      rw [h.stations x hx, hc]
    · exact and_congr_right fun _ => exists_congr fun x =>
        ⟨fun ⟨_, h1, h2⟩ => ⟨(hcond x).1 h1, h2⟩, fun ⟨h1, h2⟩ => ⟨List.mem_finRange x, (hcond x).2 h1, h2⟩⟩
    · exact ⟨fun ⟨_, h⟩ => (hcond x).1 h, fun h => ⟨List.mem_finRange x, (hcond x).2 h⟩⟩

/-- R130: where no station is reached, the settings alone change. -/
theorem State.chainSettings_none (h : ∀ x, ¬s.orphanedBy orphan x) :
    s.chainSettings timeout orphan auto = s.withSettings timeout orphan auto := by
  rw [State.chainSettings]
  by_cases ho : orphan = s.chain.orphan
  · rw [if_pos ho]; rfl
  · rw [if_neg ho]
    have hfold (l : List Addr) : l.foldl (fun u x =>
        if u.stations[x].state = .silent ∧ u.stations[x].orphanStart.any (fun c => orphan * cyclesPerSecond ≤ u.cycle - c)
        then u.stationAbsent x else u) (s.withSettings timeout orphan auto) = s.withSettings timeout orphan auto := by
      induction l with
      | nil => rfl
      | cons x l ih =>
        rw [List.foldl_cons, if_neg]
        · exact ih
        · rintro ⟨h1, h2⟩
          obtain ⟨c, hc, hle⟩ := (Option.any_eq_true _ _).1 h2
          exact h x ⟨h1, ho, c, hc, of_decide_eq_true hle⟩
    exact hfold _

/-- A station that no new orphan time reaches keeps its state. -/
theorem State.TakesOut.state_of_not_off {s v : State} {gone : Idx → Prop} {off : Addr → Prop} (h : s.TakesOut v gone off)
    {y : Addr} (hy : ¬off y) : v.stations[y].state = s.stations[y].state := by
  rw [h.stations y hy]

theorem State.withSettings_sameBut : s.sameBut [.chain] (s.withSettings timeout orphan auto) := s.setChain_sameBut _

theorem State.chainSettings_chain : ∃ tx, (s.chainSettings timeout orphan auto).chain = { s.chain with
    timeout := timeout, orphan := orphan, autoRelease := auto, tx := tx } :=
  ⟨_, (s.chainSettings_takesOut timeout orphan auto).chain⟩

end

/-- R138: every station is in one of the five states. -/
theorem sum_stationCount (s : State) (l : List Addr) :
    (l.filter fun x => s.stations[x].state = .absent).length + (l.filter fun x => s.stations[x].state = .joining).length
      + (l.filter fun x => s.stations[x].state = .present).length + (l.filter fun x => s.stations[x].state = .silent).length
      + (l.filter fun x => s.stations[x].state = .conflict).length = l.length := by
  induction l with
  | nil => rfl
  | cons x l ih =>
    simp only [Fin.getElem_fin] at ih ⊢
    cases h : s.stations[x.val].state <;> simp [h] <;> omega

theorem stationCounts_sum (s : State) : s.stationCounts.absent + s.stationCounts.joining + s.stationCounts.present
    + s.stationCounts.silent + s.stationCounts.conflict = 30 :=
  (sum_stationCount s (List.finRange 30)).trans (List.length_finRange)

/-- R130: CLAMPED is answered exactly when a setting was moved. -/
theorem ChainReq.status_eq (q : ChainReq) (w o : Nat) : okOr (ChainReq.clamped q) =
    if (∀ x, q.timeout = some x → (q.timeout.map (clampNat 2 200)).getD w = x)
      ∧ (∀ x, q.orphan = some x → (q.orphan.map (clampNat 1 600)).getD o = x) then .ok else .clamped := by
  have hiff : ChainReq.clamped q = false ↔ (∀ x, q.timeout = some x → (q.timeout.map (clampNat 2 200)).getD w = x)
      ∧ (∀ x, q.orphan = some x → (q.orphan.map (clampNat 1 600)).getD o = x) := by
    rw [ChainReq.clamped, Bool.or_eq_false_iff]
    exact and_congr (option_any_ne_false q.timeout _ w) (option_any_ne_false q.orphan _ o)
  by_cases h : ChainReq.clamped q = false
  · rw [if_pos (hiff.1 h), h]; rfl
  · rw [if_neg fun g => h (hiff.2 g), Bool.not_eq_false _ |>.mp h]; rfl

/-! ## CHAIN answers -/

section

variable {s : State} {t : Tag} {q : ChainReq}

theorem State.applyChainReq_takesOut (s : State) (q : ChainReq) :
    (s.withSettings ((q.timeout.map (clampNat 2 200)).getD s.chain.timeout)
      ((q.orphan.map (clampNat 1 600)).getD s.chain.orphan) (q.autoRelease.getD s.chain.autoRelease)).TakesOut
    (s.applyChainReq q)
    (fun i => s.entries[i].state ≠ .vacant
      ∧ ∃ x, s.orphanedBy ((q.orphan.map (clampNat 1 600)).getD s.chain.orphan) x ∧ s.entries[i].owner = .station x)
    (s.orphanedBy ((q.orphan.map (clampNat 1 600)).getD s.chain.orphan)) := s.chainSettings_takesOut _ _ _

/-- Settles O54: the settings by what the leaving stations take out, RELEASE by the live run. -/
theorem chainTakesSettingsAndReleases : Obligations.ChainTakesSettingsAndReleases := by
  unfold Obligations.ChainTakesSettingsAndReleases
  intro s t q wait orphan auto st took
  have hst : okOr (ChainReq.clamped q) = st := ChainReq.status_eq q _ _
  have h := s.applyChainReq_takesOut q
  have hch : (s.applyChainReq q).chain = { s.chain with
    timeout := wait, orphan := orphan, autoRelease := auto, tx := (s.applyChainReq q).chain.tx } := h.chain
  have hpart : s.sameBut offParts (s.applyChainReq q) :=
    ((State.withSettings_sameBut s _ _ _).mono (by decide)).comp h.same
  have htook : took (s.applyChainReq q) := by
    refine ⟨by rw [hch], by rw [hch], by rw [hch], fun x => ⟨fun hx => h.left x hx, fun hx => ?_⟩, hpart⟩
    exact h.state_of_not_off hx
  have hview (u : State) (h1 : u.chain.timeout = wait) (h2 : u.chain.orphan = orphan) (h3 : u.chain.autoRelease = auto) :
      u.chainView = ⟨u.chain.state, wait, orphan, auto, u.stationCounts⟩ := by rw [State.chainView, h1, h2, h3]
  have hlive : (∃ n, (s.applyChainReq q).liveRun = some n ∧ liveRunGoal ≤ n) ↔ ∃ a d, s.chain.liveStart = some a
      ∧ s.chain.lastDelim = some d ∧ s.cycle - d ≤ 12500 ∧ 125000 ≤ s.cycle - a := by
    rw [State.liveRun_reaches, hch, hpart .cycle (by decide)]
  refine ⟨fun c hs => exec_reply (r := .chain (.other c) q) hs rfl, fun hs => ⟨s.applyChainReq q, ?_, htook, by rw [hch]⟩,
    fun hs => ?_, stationCounts_sum s⟩
  · have hv := hview (s.applyChainReq q) htook.1 htook.2.1 htook.2.2.1
    rw [show (s.applyChainReq q).chain.state = s.chain.state by rw [hch]] at hv
    rw [← hst, ← hv]
    exact exec_reply (r := .chain .keep q) hs rfl
  · obtain ⟨hw, ho, ha, hstate, hsame⟩ := htook
    obtain ⟨_, _, _, _, hrel⟩ := (s.applyChainReq q).releaseChain_chain
    have hframe := (s.applyChainReq q).releaseChain_sameBut
    have htook' : took (s.applyChainReq q).releaseChain := by
      refine ⟨by rw [hrel]; exact hw, by rw [hrel]; exact ho, by rw [hrel]; exact ha, fun x => ?_,
        hsame.comp (hframe.mono (by decide))⟩
      rw [hframe .stations (by decide)]
      exact hstate x
    have hheld : (s.applyChainReq q).chain.state = s.chain.state := by rw [hch]
    refine ⟨(s.applyChainReq q).releaseChain, ?_, htook', fun hne => ?_, fun heq => ?_⟩
    · rw [← hst, ← hview _ htook'.1 htook'.2.1 htook'.2.2.1]
      exact exec_reply (r := .chainRelease q) hs rfl
    · rw [State.releaseChain_free _ (by rw [hheld]; exact hne), hheld]
    · obtain ⟨h1, h2, h3⟩ := (s.applyChainReq q).releaseChain_held (hheld.trans heq)
      refine ⟨h1, fun hl => ?_, fun hl => ?_⟩
      · obtain ⟨n, hn, hg⟩ := hlive.2 hl
        rw [h2 n hn hg]
      · rw [h3 fun n hn => Nat.lt_of_not_le fun hg => hl (hlive.1 ⟨n, hn, hg⟩)]

/-! ## HOLD -/

/-- R131: HOLD of a chain that is RUNNING or BROKEN takes off every station that is on it. -/
theorem State.holdChain_takesOut (h : s.chain.state ≠ .held) : ∃ v, (s.leaveChain .held).TakesOut v
    (fun i => s.entries[i].state ≠ .vacant ∧ ∃ x : Addr, s.stations[x].state ≠ .absent ∧ s.entries[i].owner = .station x)
    (fun x => s.stations[x].state ≠ .absent) ∧ s.holdChain = { v with chain := v.chain.homePosition } := by
  have hstate (x : Addr) : (s.leaveChain .held).stations[x].state = s.stations[x].state := by
    rw [s.leaveChain_stations, s.abortTx_stations_at x]
  have hentries : (s.leaveChain .held).entries = s.entries := (s.leaveChain_sameBut .held) .entries (by decide)
  refine ⟨_, (State.leaveAll_takesOut (c := fun u x => u.stations[x].state ≠ .absent) ?_ (List.nodup_finRange 30)
    (s.leaveChain .held)).congr (fun i => ?_) fun x => ?_, ?_⟩
  · intro u v gone off x hv hx
    rw [hv.state_of_not_off hx]
  · rw [hentries]
    simp only [hstate, List.mem_finRange, true_and]
  · simp only [hstate, List.mem_finRange, true_and]
  · rw [State.holdChain, if_neg h]

/-- An entry that stands VACANT stands so after others have gone. -/
theorem State.TakesOut.vacant_stays {u v : State} {gone : Idx → Prop} {off : Addr → Prop} (h : u.TakesOut v gone off) {i : Idx}
    {g : BitVec 8} (hi : u.entries[i] = Entry.vacantAt g) : v.entries[i] = Entry.vacantAt g := by
  have hg : ¬gone i := fun hg => h.live i hg (by rw [hi]; rfl)
  have hw : v.entries[i].watchers = [] := by
    refine List.eq_nil_iff_forall_not_mem.2 fun y hy => ?_
    have := h.watchers i y hy
    rw [hi] at this
    exact List.not_mem_nil this
  rw [h.stayed i hg, hw, hi]
  rfl

/-- CHAIN with HOLD on a chain that is HELD. -/
theorem State.holdChain_held (h : s.chain.state = .held) : s.holdChain = s := if_pos h

/-- Settles O55: what the settings take out, and then what HOLD does. -/
theorem holdTakesStationsOff : Obligations.HoldTakesStationsOff := by
  unfold Obligations.HoldTakesStationsOff
  intro s t q howned hwatch hs wait orphan auto st
  have hst : okOr (ChainReq.clamped q) = st := ChainReq.status_eq q _ _
  have h := s.applyChainReq_takesOut q
  have hch : (s.applyChainReq q).chain = { s.chain with
    timeout := wait, orphan := orphan, autoRelease := auto, tx := (s.applyChainReq q).chain.tx } := h.chain
  have hpart : s.sameBut offParts (s.applyChainReq q) :=
    ((State.withSettings_sameBut s _ _ _).mono (by decide)).comp h.same
  have hreply (u : State) (hu : (s.applyChainReq q).holdChain = u) (h0 : u.chain.state = .held) (h1 : u.chain.timeout = wait)
      (h2 : u.chain.orphan = orphan) (h3 : u.chain.autoRelease = auto) : exec (.chainHold .mgmt t q) s =
      .next (u.reply .mgmt t (.chainHold q) st (.chain ⟨.held, wait, orphan, auto, u.stationCounts⟩)) := by
    have hview : u.chainView = ⟨.held, wait, orphan, auto, u.stationCounts⟩ := by rw [State.chainView, h0, h1, h2, h3]
    rw [← hst, ← hview, ← hu]
    exact exec_reply (r := .chainHold q) hs rfl
  have hheld : (s.applyChainReq q).chain.state = s.chain.state := by rw [hch]
  by_cases hc : s.chain.state = .held
  · have hu : (s.applyChainReq q).holdChain = s.applyChainReq q := State.holdChain_held (hheld.trans hc)
    refine ⟨s.applyChainReq q, hreply _ hu (hheld.trans hc) (by rw [hch]) (by rw [hch]) (by rw [hch]), hheld.trans hc,
      by rw [hch], by rw [hch], by rw [hch], fun _ => ⟨fun hnone => ?_, fun x hx => ⟨h.cleared howned hwatch x hx, h.shows x hx⟩,
        fun x hx => h.state_of_not_off hx, by rw [hch], by rw [hch], by rw [hch], by rw [hch],
        h.causes.shows_iff (by decide)⟩, fun hne => absurd hc hne, hpart⟩
    exact s.chainSettings_none _ _ _ hnone
  · obtain ⟨v, hv, hu⟩ := State.holdChain_takesOut (s := s.applyChainReq q) (by rw [hheld]; exact hc)
    obtain ⟨_, _, _, hleave⟩ := (s.applyChainReq q).leaveChain_chain .held
    have hfields : v.chain = { s.chain with
        state := .held, timeout := wait, orphan := orphan, autoRelease := auto, svc := none, chosen := none
        tx := v.chain.tx, cut := v.chain.cut, lineBase := v.chain.lineBase, reportEnd := v.chain.reportEnd } := by
      rw [hv.chain, hleave, hch]
    have htx : v.chain.tx = none := hv.line (by rw [hleave])
    have hsound := (s.applyChainReq q).leaveChain_sound .held
    have howned' := hsound.owned (h.sound.owned howned)
    have hwatch' := hsound.watch (h.sound.watch hwatch)
    have hentry : ((s.applyChainReq q).leaveChain .held).entries = (s.applyChainReq q).entries :=
      ((s.applyChainReq q).leaveChain_sameBut .held) .entries (by decide)
    refine ⟨{ v with chain := v.chain.homePosition }, hreply _ hu ?_ ?_ ?_ ?_, ?_, ?_, ?_, ?_, fun hne => absurd hne hc,
      fun _ => ⟨?_, htx, rfl, rfl, rfl, ?_, fun x => ?_, fun i hi => ⟨fun x hx hstate => ?_, fun hm => ?_⟩⟩, ?_⟩
    · rw [Chain.homePosition, hfields]
    · rw [Chain.homePosition, hfields]
    · rw [Chain.homePosition, hfields]
    · rw [Chain.homePosition, hfields]
    · rw [Chain.homePosition, hfields]
    · rw [Chain.homePosition, hfields]
    · rw [Chain.homePosition, hfields]
    · rw [Chain.homePosition, hfields]
    · rw [Chain.homePosition, hfields]
    · exact hv.causes.kept _ (State.leaveChain_shows _ _)
    · have hstation : ((s.applyChainReq q).leaveChain .held).stations[x] = _ :=
        ((s.applyChainReq q).leaveChain_stations .held) ▸ (s.applyChainReq q).abortTx_stations_at x
      by_cases ho : s.orphanedBy orphan x
      · have hcl := h.cleared howned hwatch x ho
        have hcl' : ((s.applyChainReq q).leaveChain .held).stations[x] = Station.cleared := by rw [hstation, hcl]; rfl
        have hno : ¬(s.applyChainReq q).stations[x].state ≠ .absent := by rw [hcl]; exact fun g => g rfl
        have hend : v.stations[x] = Station.cleared := hv.cleared_stays hwatch' hno hcl'
        refine ⟨by rw [hend]; rfl, fun _ => ⟨hend, ?_⟩⟩
        exact hv.causes.kept _ ((State.leaveChain_raises _ _).kept _ (h.shows x ho))
      · have hkeep := h.state_of_not_off ho
        by_cases ha : s.stations[x].state = .absent
        · refine ⟨?_, fun hne => absurd ha hne⟩
          have hno : ¬(s.applyChainReq q).stations[x].state ≠ .absent := fun g => g (hkeep.trans ha)
          exact (hv.state_of_not_off hno).trans ((congrArg Station.state hstation).trans (hkeep.trans ha))
        · have hoff : (s.applyChainReq q).stations[x].state ≠ .absent := fun g => ha (hkeep.symm.trans g)
          exact ⟨hv.left x hoff, fun _ => ⟨hv.cleared howned' hwatch' x hoff, hv.shows x hoff⟩⟩
    · by_cases ho : s.orphanedBy orphan x
      · exact hv.vacant_stays (hentry ▸ h.went i ⟨hi, x, ho, hx⟩)
      · have hg : ¬(s.entries[i].state ≠ .vacant ∧ ∃ y, s.orphanedBy orphan y ∧ s.entries[i].owner = .station y) := by
          rintro ⟨-, y, hy, hxy⟩
          rw [hx] at hxy
          cases hxy
          exact ho hy
        have hoff : (s.applyChainReq q).stations[x].state ≠ .absent := by rw [h.state_of_not_off ho]; exact hstate
        have hstay := h.stayed i hg
        have hwent : v.entries[i] = _ := hv.went i ⟨by rw [hstay]; exact hi, x, hoff, by rw [hstay]; exact hx⟩
        rw [hentry, hstay] at hwent
        exact hwent
    · have hg : ¬(s.entries[i].state ≠ .vacant ∧ ∃ y, s.orphanedBy orphan y ∧ s.entries[i].owner = .station y) := by
        rintro ⟨-, y, -, hxy⟩
        rw [hm] at hxy
        exact nomatch hxy
      have hstay := h.stayed i hg
      have hstay' := hv.stayed i (by
        rintro ⟨-, y, -, hxy⟩
        rw [hstay] at hxy
        exact nomatch hm.symm.trans hxy)
      rw [hentry, hstay] at hstay'
      exact hstay'
    · exact hpart.comp (((State.leaveChain_sameBut _ .held).mono (by decide)).comp
        (hv.same.comp ((State.setChain_sameBut _ _).mono (by decide))))

end

end Sys2Proof.Machine

/-! PROOFS. O44: what a mark due and an end due do. -/

namespace Sys2Proof.Machine

open Sys2Proof Config

/-! ## The entry at its mark -/

section

variable {e : Entry}

/-- R40: toward 0 by at most `n`. -/
theorem slewMove_eq (eps : Int) (n : Nat) : slewMove eps n = if eps < 0 then min 0 (eps + n) else max 0 (eps - n) := by
  unfold slewMove
  split <;> omega

theorem Entry.emit_eps (e : Entry) : e.emit.eps = if e.motion = .slewing then slewMove e.eps e.slew else e.eps := by
  obtain ⟨b, n, hsw⟩ := e.switchAt_eq e.nextMark
  simp only [Entry.emit, hsw]
  cases h : e.motion with
  | pending | running | held => simp [Entry.withMotion]
  | slewing =>
    simp only [Entry.withMotion]
    split <;> rfl

theorem Entry.emit_motion (e : Entry) : e.emit.motion =
    if e.motion = .pending ∨ e.motion = .slewing ∧ slewMove e.eps e.slew = 0 then .running else e.motion := by
  obtain ⟨b, n, hsw⟩ := e.switchAt_eq e.nextMark
  simp only [Entry.emit, hsw]
  cases h : e.motion with
  | pending | held | running => simp [Entry.withMotion]
  | slewing => by_cases h0 : slewMove e.eps e.slew = 0 <;> simp [Entry.withMotion, h0]

/-- R12, R39, R40: the entry after its mark, its label bases those of the switch. -/
theorem Entry.emit_eq (e : Entry) : e.emit = { e with
    kl := some e.nextMark, lm := some (e.applied e.nextMark), motion := e.emit.motion, eps := e.emit.eps
    ks := if e.motion = .pending then none else e.ks
    state := if e.state ≠ .ending ∧ e.emit.motion ≠ e.motion then .running else e.state
    base := e.emit.base, next := e.emit.next } := by
  obtain ⟨b, n, hsw⟩ := e.switchAt_eq e.nextMark
  simp only [Entry.emit, hsw]
  cases h : e.motion with
  | pending => by_cases hs : e.state = .ending <;> simp [Entry.withMotion, hs, Motion.toState]
  | running | held => simp
  | slewing =>
    by_cases h0 : slewMove e.eps e.slew = 0
    · by_cases hs : e.state = .ending <;> simp [Entry.withMotion, hs, h0, Motion.toState]
    · simp [h0]

theorem Entry.emit_bases (e : Entry) : e.emit.base = (e.switchAt e.nextMark).base ∧ e.emit.next = (e.switchAt e.nextMark).next := by
  simp only [Entry.emit]
  cases h : e.motion with
  | pending | running | held => exact ⟨rfl, rfl⟩
  | slewing =>
    by_cases h0 : slewMove e.eps e.slew = 0
    · rw [if_pos h0]; exact ⟨rfl, rfl⟩
    · rw [if_neg h0]; exact ⟨rfl, rfl⟩

/-- R63: the switch at or above kb′. -/
theorem Entry.switchAt_taken {k : Nat} (h : ∃ b, e.next = some b ∧ b.kb ≤ k) :
    (e.switchAt k).base = e.next ∧ (e.switchAt k).next = none := by
  obtain ⟨b, hb, hk⟩ := h
  simp only [Entry.switchAt, hb, if_pos hk, and_self]

theorem Entry.switchAt_not_taken {k : Nat} (h : ¬∃ b, e.next = some b ∧ b.kb ≤ k) : e.switchAt k = e := by
  unfold Entry.switchAt
  split
  · next b hb => rw [if_neg fun hk => h ⟨b, hb, hk⟩]
  · rfl

theorem Entry.emit_outlives (h : e.state ≠ .vacant) : e.emit.outlives e := by
  have hst : e.emit.state = if e.state ≠ .ending ∧ e.emit.motion ≠ e.motion then .running else e.state := by rw [e.emit_eq]
  refine ⟨?_, ?_, by rw [e.emit_eq], by rw [e.emit_eq], ?_⟩
  · rw [e.emit_eq]; exact ⟨rfl, rfl, rfl, rfl⟩
  · rw [hst]; split
    · decide
    · exact h
  · rw [hst]; split
    · next hc => exact ⟨nofun, fun g => absurd g hc.1⟩
    · exact Iff.rfl

theorem Entry.emit_nextMark (e : Entry) : e.emit.nextMark = e.nextMark + 1 := by
  have hm : e.emit.motion ≠ .pending := by
    rw [e.emit_motion]
    split
    · decide
    · next h => exact fun g => h (.inl g)
  exact Entry.nextMark_started hm (by rw [e.emit_eq])

theorem Entry.emit_applied (e : Entry) (k : Nat) : e.emit.applied k = nominal e.num e.den k + e.phi + e.emit.eps := by
  rw [Entry.applied, e.emit_eq]

/-- R20: the next mark of the entry lies above its end instant. -/
theorem Entry.finished_iff (e : Entry) :
    e.finished = true ↔ e.state = .ending ∧ ∃ x : Nat, e.endAt = some x ∧ (x : Int) < e.applied e.nextMark := by
  rw [Entry.finished, Entry.pastEnd, Bool.and_eq_true, decide_eq_true_eq]
  cases e.endAt with
  | none => simp
  | some x => simp

end

/-! ## The outputs and the streams at a mark -/

/-- R112: an output bound to entry `e` is clamped at the start of the entry. -/
def Entry.fits (e : Entry) (o : Output) : Output := if e.motion = .pending then o.fitTo e.pf else o

/-- R108: mark `k` at applied instant `a` reaches an output bound to its entry. -/
def Output.takes (k : Nat) (a : Int) (o : Output) : Output := if o.enabled then o.fix k a else o

/-- R155: mark `k` passes a stream on its entry. -/
def Stream.passed (k : Nat) (st : Stream) (_ : Option Nat) : Stream :=
  if st.state = .suspended ∧ k % st.step = 0 then { st with skipped := satAdd 255 st.skipped 1 } else st

section

variable {s : State} {i : Idx}

theorem Output.takes_binding (k : Nat) (a : Int) (o : Output) : (o.takes k a).binding = o.binding := by
  unfold Output.takes Output.fix
  (repeat' split) <;> rfl

theorem State.Drafted.of_skipSuspended (s : State) (i : Idx) (k : Nat) :
    s.Drafted (s.skipSuspended i k) i s.entries[i] (Stream.passed k) id where
  streamKept st _ := by unfold Stream.passed; split <;> rfl
  boundKept _ := rfl
  entry := by rw [State.skipSuspended_entries]
  others j _ := by rw [State.skipSuspended_entries]
  stations x := by
    simp only [Fin.getElem_fin, State.skipSuspended_at]
    rfl
  bound o _ := by rw [State.skipSuspended_outs, id]
  free o _ := by rw [State.skipSuspended_outs]
  notices := .of_eq (fun x => by simp only [Fin.getElem_fin, State.skipSuspended_at])
    (s.skipSuspended_sameBut i k .mgmtNotices (by decide))
  same := (s.skipSuspended_sameBut i k).mono (by decide)

theorem State.Drafted.of_fixPulses (s : State) (i : Idx) (k : Nat) (a : Int) :
    s.Drafted (s.fixPulses i k a) i s.entries[i] (fun st _ => st) (Output.takes k a) := by
  have h : s.fixPulses i k a = s.mapOutputs fun o => if o.boundTo i then o.takes k a else o := by
    refine congrArg (s.mapOutputs ·) (funext fun o => ?_)
    unfold Output.takes
    cases o.enabled <;> cases o.boundTo i <;> rfl
  rw [h]
  exact .of_bound s i (Output.takes_binding k a)

theorem State.Drafted.of_start (s : State) (i : Idx) :
    s.Drafted (if s.entries[i].motion = .pending then s.fitOutputs i else s) i s.entries[i] (fun st _ => st)
      s.entries[i].fits := by
  by_cases h : s.entries[i].motion = .pending
  · have hf : s.entries[i].fits = fun o => o.fitTo s.entries[i].pf := funext fun o => by rw [Entry.fits, if_pos h]
    rw [if_pos h, hf]
    exact .of_bound s i fun _ => rfl
  · have hf : s.entries[i].fits = id := funext fun o => by rw [Entry.fits, if_neg h]; rfl
    rw [if_neg h, hf]
    exact .refl s i

/-- The next mark emitted, no notice given yet. -/
def State.marked (s : State) (i : Idx) : State :=
  (((if s.entries[i].motion = .pending then s.fitOutputs i else s).fixPulses i s.entries[i].nextMark
    (s.entries[i].applied s.entries[i].nextMark)).setEntry i s.entries[i].emit).skipSuspended i s.entries[i].nextMark

theorem State.emitMark_eq (s : State) (i : Idx) :
    s.emitMark i = if s.entries[i].emit.motion = s.entries[i].motion then s.marked i else (s.marked i).notify i := rfl

theorem State.marked_drafted (s : State) (i : Idx) : s.Drafted (s.marked i) i s.entries[i].emit
    (Stream.passed s.entries[i].nextMark)
    (fun o => (s.entries[i].fits o).takes s.entries[i].nextMark (s.entries[i].applied s.entries[i].nextMark)) := by
  have h1 := ((State.Drafted.of_start s i).trans (.of_fixPulses _ i s.entries[i].nextMark
    (s.entries[i].applied s.entries[i].nextMark))).setEntry s.entries[i].emit
  have h2 := State.Drafted.of_skipSuspended (State.setEntry i s.entries[i].emit (State.fixPulses i s.entries[i].nextMark
    (s.entries[i].applied s.entries[i].nextMark) (if s.entries[i].motion = .pending then s.fitOutputs i else s))) i
    s.entries[i].nextMark
  rw [h1.entry] at h2
  exact h1.trans h2

/-- R39: the next mark is emitted. -/
theorem State.emitMark_drafted (s : State) (i : Idx) : s.Drafted (s.emitMark i) i s.entries[i].emit
    (Stream.passed s.entries[i].nextMark)
    (fun o => (s.entries[i].fits o).takes s.entries[i].nextMark (s.entries[i].applied s.entries[i].nextMark)) := by
  rw [State.emitMark_eq]
  split
  · exact s.marked_drafted i
  · exact (s.marked_drafted i).notify

theorem State.emitMark_noted (h : s.entries[i].state ≠ .vacant) (hm : s.entries[i].emit.motion ≠ s.entries[i].motion) :
    (s.emitMark i).noted i s.entries[i] := by
  rw [State.emitMark_eq, if_neg hm]
  exact (s.marked_drafted i).noted (Entry.emit_outlives h).tied

/-- R20: a mark due after whose mark the entry retires. -/
def Entry.retiresAtMark (e : Entry) : Prop := e.endTaken = true ∧ e.state = .ending
  ∧ ∃ x : Nat, e.endAt = some x ∧ (x : Int) < nominal e.num e.den (e.nextMark + 1) + e.phi + e.emit.eps

theorem Entry.retiresAtMark_iff {e : Entry} (h : e.state ≠ .vacant) :
    e.emit.endTaken = true ∧ e.emit.finished = true ↔ e.retiresAtMark := by
  have ho := Entry.emit_outlives h
  rw [Entry.finished_iff, ho.endTaken, ho.endAt, ho.ending, e.emit_nextMark, e.emit_applied]
  rfl

theorem State.retire_noted {u : State} (h : u.entries[i].state ≠ .vacant) : (u.retire i).noted i u.entries[i] :=
  have hr := State.retire_takesOut h
  ⟨fun y hy => hr.noted i y rfl id hy, hr.notedMgmt i rfl⟩

theorem State.noted.of_tied {u : State} {m e : Entry} (h : u.noted i m) (ht : m.tiedAs e) : u.noted i e := by
  obtain ⟨-, -, hw, hm⟩ := ht
  exact ⟨fun y hy => h.1 y (hw ▸ hy), fun hc => h.2 (hm ▸ hc)⟩

/-- R39, R20: what a mark due leaves. -/
theorem State.markDue_settled (h : s.entries[i].state ≠ .vacant) : s.Settled (s.markDue i) i s.entries[i].emit
    (Stream.passed s.entries[i].nextMark)
    (fun o => (s.entries[i].fits o).takes s.entries[i].nextMark (s.entries[i].applied s.entries[i].nextMark))
    s.entries[i].retiresAtMark := by
  have hd := s.emitMark_drafted i
  have ho := Entry.emit_outlives h
  by_cases hr : s.entries[i].retiresAtMark
  · have hc : (s.emitMark i).entries[i].endTaken = true ∧ (s.emitMark i).entries[i].finished = true := by
      rw [hd.entry]; exact (Entry.retiresAtMark_iff h).2 hr
    rw [State.markDue, if_pos hc]
    exact hd.retire ho.live ho.tied hr
  · have hc : ¬((s.emitMark i).entries[i].endTaken = true ∧ (s.emitMark i).entries[i].finished = true) := by
      rw [hd.entry]; exact fun g => hr ((Entry.retiresAtMark_iff h).1 g)
    rw [State.markDue, if_neg hc]
    exact hd.settled hr

theorem State.markDue_noted (h : s.entries[i].state ≠ .vacant)
    (hm : s.entries[i].emit.motion ≠ s.entries[i].motion ∨ s.entries[i].retiresAtMark) : (s.markDue i).noted i s.entries[i] := by
  have hd := s.emitMark_drafted i
  have ho := Entry.emit_outlives h
  by_cases hr : s.entries[i].retiresAtMark
  · have hc : (s.emitMark i).entries[i].endTaken = true ∧ (s.emitMark i).entries[i].finished = true := by
      rw [hd.entry]; exact (Entry.retiresAtMark_iff h).2 hr
    have hlive : (s.emitMark i).entries[i].state ≠ .vacant := by rw [hd.entry]; exact ho.live
    rw [State.markDue, if_pos hc]
    exact (State.retire_noted hlive).of_tied (hd.entry ▸ ho.tied)
  · have hc : ¬((s.emitMark i).entries[i].endTaken = true ∧ (s.emitMark i).entries[i].finished = true) := by
      rw [hd.entry]; exact fun g => hr ((Entry.retiresAtMark_iff h).1 g)
    rw [State.markDue, if_neg hc]
    exact State.emitMark_noted h (hm.resolve_right hr)

/-- R108, R112: what a mark leaves of an output bound to its entry. -/
theorem Entry.takes_eq (e : Entry) (k : Nat) (a : Int) (o : Output) : (e.fits o).takes k a =
    if o.enabled = true ∧ k % o.divider = 0 then
      if o.waiting.length < 4 then { e.fits o with
        waiting := insertPulse ⟨k, a + (e.fits o).delay, a + (e.fits o).delay + (e.fits o).width⟩ o.waiting }
      else { e.fits o with skipped := min 65535 (o.skipped + 1) }
    else e.fits o := by
  have hkept : (e.fits o).enabled = o.enabled ∧ (e.fits o).divider = o.divider ∧ (e.fits o).waiting = o.waiting
      ∧ (e.fits o).skipped = o.skipped := by
    unfold Entry.fits
    split <;> exact ⟨rfl, rfl, rfl, rfl⟩
  obtain ⟨he, hd, hw, hs⟩ := hkept
  rw [Output.takes, he]
  by_cases hen : o.enabled = true
  · rw [if_pos hen, Output.fix, hd, hw]
    by_cases hk : k % o.divider = 0
    · have hc : o.enabled = true ∧ k % o.divider = 0 := ⟨hen, hk⟩
      rw [if_neg (not_not.2 hk), if_pos hc]
      by_cases hl : o.waiting.length < 4
      · rw [if_neg (Nat.not_le.2 hl), if_pos hl, ← hd]
      · rw [if_pos (Nat.le_of_not_lt hl), if_neg hl, Output.skip, hs]
        rfl
    · rw [if_pos hk, if_neg fun g => hk g.2]
  · rw [if_neg hen, if_neg fun g => hen g.1]

/-! ## The statement -/

theorem State.setEntry_self (s : State) (i : Idx) : s.setEntry i s.entries[i] = s := by
  simp [State.setEntry]

theorem State.markIsDue_iff (s : State) (i : Idx) : s.markIsDue i = true ↔ s.entries[i].state ≠ .vacant
    ∧ s.entries[i].applied s.entries[i].nextMark ≤ s.now ∧ s.entries[i].finished = false := by
  simp only [State.markIsDue, Bool.and_eq_true, decide_eq_true_eq, Bool.not_eq_true', and_assoc]

theorem State.endIsDue_iff {x : Nat} (hs : s.entries[i].state = .ending) (hx : s.entries[i].endAt = some x) :
    s.endIsDue i = true ↔ x ≤ s.now ∧ (s.entries[i].finished = true ∨ s.entries[i].endTaken = false) := by
  simp only [State.endIsDue, hs, hx, Option.any_some, Bool.and_eq_true, Bool.or_eq_true, decide_eq_true_eq, Bool.not_eq_true',
    decide_true, true_and]

/-- Settles O44: the emission of a mark as one event at its entry, its retirement behind it; the end due by its cases. -/
theorem marksAndEndsFallDue : Obligations.MarksAndEndsFallDue := by
  unfold Obligations.MarksAndEndsFallDue
  intro s i hreset e k a moved
  have hexec : exec (.markDue i) s = .next (if s.markIsDue i then s.markDue i else s) :=
    congrArg _ (State.whenReleased_deasserted hreset _)
  have hend : exec (.endDue i) s = .next (if s.endIsDue i then s.endDue i else s) :=
    congrArg _ (State.whenReleased_deasserted hreset _)
  refine ⟨fun hlt => ?_, ?_, fun x hs hx => ?_⟩
  · rw [hexec, if_neg fun hdue => ?_]
    obtain ⟨-, hle, -⟩ := (s.markIsDue_iff i).1 hdue
    exact absurd hle (Int.not_le.2 hlt)
  · intro hlive hle hx motion switches
    have hfin : e.finished = false := by
      rw [← Bool.not_eq_true]
      intro hf
      obtain ⟨hs, y, hy, hya⟩ := e.finished_iff.1 hf
      obtain ⟨x, hx1, hx2⟩ := hx hs
      rw [hy] at hx1
      cases hx1
      exact absurd hx2 (Int.not_le.2 hya)
    have hset := State.markDue_settled hlive
    have hmoved : slewMove e.eps e.slew = moved := slewMove_eq e.eps e.slew
    have hmotion : e.emit.motion = motion := by
      rw [e.emit_motion, hmoved]
      simp only [motion]
      cases e.motion with
      | pending | running | slewing | held => simp
    have heps : e.emit.eps = if e.motion = .slewing then moved else e.eps := by rw [e.emit_eps, hmoved]
    refine ⟨s.markDue i, e.emit, ?_, ?_, fun hsw => ?_, fun hsw => ?_, ⟨hset.entryGone, fun hr => ⟨hset.entryKept hr, hset.chainKept hr⟩,
      hset.stations, fun hn => ?_, fun o => ?_⟩, hset.others, hset.same⟩
    · rw [hexec, if_pos ((s.markIsDue_iff i).2 ⟨hlive, hle, hfin⟩)]
    · rw [← hmotion, ← heps]
      exact e.emit_eq
    · obtain ⟨h1, h2⟩ := Entry.switchAt_taken hsw
      exact ⟨e.emit_bases.1.trans h1, e.emit_bases.2.trans h2⟩
    · have h1 := Entry.switchAt_not_taken hsw
      exact ⟨e.emit_bases.1.trans (congrArg Entry.base h1), e.emit_bases.2.trans (congrArg Entry.next h1)⟩
    · rw [← hmotion] at hn
      exact State.markDue_noted hlive hn
    · intro r r0 x r1
      have hr1 (hb : r.boundTo i = true) : r1 = (e.fits r).takes k a := by
        have hr0 : r0 = e.fits r := by
          simp only [r0, Entry.fits, hb, true_and]
          rfl
        rw [Entry.takes_eq]
        simp only [r1, x, hr0, hb, true_and]
      refine ⟨fun hk => ?_, fun hgone hb => ?_⟩
      · by_cases hb : r.boundTo i = true
        · rw [hr1 hb]
          exact hset.boundKept (hk.resolve_right (by rw [hb]; decide)) o hb
        · have hb' : r.boundTo i = false := by rwa [← Bool.not_eq_true]
          have hfree : r1 = r := by simp only [r1, r0, hb', Bool.false_eq_true, false_and, and_false, if_false]
          rw [hfree]
          exact hset.free o hb'
      · have hout : (s.markDue i).outs[o] = r1.unbind := by
          rw [hr1 hb]
          exact hset.boundGone hgone o hb
        exact hout
  · refine ⟨fun hlt => ?_, fun hle hxa => ?_, fun hle hax => ?_⟩
    · rw [hend, if_neg fun hdue => ?_]
      exact absurd ((State.endIsDue_iff hs hx).1 hdue).1 (Nat.not_le.2 hlt)
    · have hfin : e.finished = true := e.finished_iff.2 ⟨hs, x, hx, hxa⟩
      rw [hend, if_pos ((State.endIsDue_iff hs hx).2 ⟨hle, .inl hfin⟩), State.endDue, if_pos hfin]
    · have hfin : ¬e.finished = true := fun hf => by
        obtain ⟨-, y, hy, hya⟩ := e.finished_iff.1 hf
        have hxy : some x = some y := hx.symm.trans hy
        cases hxy
        exact absurd hax (Int.not_le.2 hya)
      have hdue : s.endDue i = s.setEntry i { e with endTaken := true } := if_neg hfin
      rw [hend]
      by_cases ht : e.endTaken = false
      · rw [if_pos ((State.endIsDue_iff hs hx).2 ⟨hle, .inr ht⟩), hdue]
      · have ht' : e.endTaken = true := by rwa [← Bool.not_eq_false]
        have hsame : s.setEntry i { e with endTaken := true } = s := by
          rw [← ht']
          exact s.setEntry_self i
        rw [if_neg fun hd => ((State.endIsDue_iff hs hx).1 hd).2.elim hfin ht, hsame]

end

end Sys2Proof.Machine

/-! PROOFS. SET of the masked fields and of the phase (R14, R16, R48 to R50): O24. -/

namespace Sys2Proof.Machine

open Sys2Proof Config

/-! ## The fields behind the phase (R16) -/

/-- The label mode that `v` gives entry `m`, degraded where its rate does not allow it (R64). -/
def Entry.modeBy (m : Entry) (v : Option LabelMode) : LabelMode := (v.map fun w => degrade w m.num m.den).getD m.label

/-- R16, R64: the label mode `v` on entry `m`. -/
def Entry.relabelled (m : Entry) (v : Option LabelMode) (c : Civil) : Entry :=
  if m.modeBy v = m.label then m else { m with label := m.modeBy v }.withBases c

/-- R16: entry `m` after the masked slew step and policy of `q`. -/
def Entry.reset (m : Entry) (q : SetReq) : Entry :=
  { m with slew := (q.slew.map (clampNat 1 (m.pf / 4))).getD m.slew, policy := (q.policy.bind policyOf).getD m.policy }

/-- R16: entry `m` after the masked slew step, policy, label mode and name of `q`, under civil settings `c`. -/
def Entry.revised (m : Entry) (q : SetReq) (c : Civil) : Entry :=
  let m2 := (m.reset q).relabelled (q.label.bind labelModeOf) c
  { m2 with name := (q.name.map nameField).getD m2.name }

section

variable {m : Entry} {q : SetReq} {c : Civil}

theorem Entry.relabelled_eq (m : Entry) (v : Option LabelMode) (c : Civil) : m.relabelled v c = { m with
    label := m.modeBy v, base := (m.relabelled v c).base, next := (m.relabelled v c).next } := by
  by_cases h : m.modeBy v = m.label
  · have hr : m.relabelled v c = m := if_pos h
    rw [hr, h]
  · obtain ⟨b, n, hb⟩ := Entry.withBases_eq ({ m with label := m.modeBy v } : Entry) c
    have hr : m.relabelled v c = { m with label := m.modeBy v, base := b, next := n } := (if_neg h).trans hb
    rw [hr]

theorem Entry.relabelled_labelled {v : Option LabelMode} (h : m.modeBy v ≠ m.label) (hn : 0 < m.num) (hd : 0 < m.den) :
    (m.relabelled v c).labelled c := by
  rw [Entry.relabelled, if_neg h]
  exact Entry.withBases_labelled c hn hd

theorem Entry.revised_eq (m : Entry) (q : SetReq) (c : Civil) : m.revised q c = { m with
    slew := (q.slew.map (clampNat 1 (m.pf / 4))).getD m.slew, policy := (q.policy.bind policyOf).getD m.policy
    label := m.modeBy (q.label.bind labelModeOf), base := (m.revised q c).base, next := (m.revised q c).next
    name := (q.name.map nameField).getD m.name } := by
  have h := (m.reset q).relabelled_eq (q.label.bind labelModeOf) c
  rw [Entry.revised, h]
  rfl

theorem Entry.revised_labelled (h : m.modeBy (q.label.bind labelModeOf) ≠ m.label) (hn : 0 < m.num) (hd : 0 < m.den) :
    (m.revised q c).labelled c := by
  have hb : ((m.reset q).relabelled (q.label.bind labelModeOf) c).labelled c := Entry.relabelled_labelled h hn hd
  exact hb

theorem Entry.revised_outlives (h : m.state ≠ .vacant) : (m.revised q c).outlives m := by
  rw [m.revised_eq q c]
  exact ⟨⟨rfl, rfl, rfl, rfl⟩, h, rfl, rfl, Iff.rfl⟩

end

/-! ## The edits as events at the entry -/

/-- The masked fields behind the phase, applied in order. -/
def Edit.revise (i : Idx) (q : SetReq) (x : Edit) : Edit :=
  (((x.slew i q.slew).policy i (q.policy.bind policyOf)).label i (q.label.bind labelModeOf)).name i q.name

theorem setApply_eq (q : SetReq) (i : Idx) (s : State) : SetReq.apply q i s =
    (((⟨s, false, false, false⟩ : Edit).rate i q.rate).phase i q.phi).revise i q := rfl

section

variable {s : State} {i : Idx} {x : Edit} {m : Entry} {f : Stream → Option Nat → Stream} {g : Output → Output}

theorem Edit.slew_drafted (h : s.Drafted x.state i m f g) (v : Option Nat) : s.Drafted (x.slew i v).state i
    { m with slew := (v.map (clampNat 1 (m.pf / 4))).getD m.slew }
    (fun st d => if v = none then f st d
      else (f st d).replan (.recompute m) { m with slew := (v.map (clampNat 1 (m.pf / 4))).getD m.slew } d s.now) g := by
  cases v with
  | none => exact h
  | some v =>
    have h1 := (h.setEntry { m with slew := clampNat 1 (m.pf / 4) v }).replan (.recompute m) x.state.now
    have h2 := h.now
    simp only [Edit.slew, h.entry]
    rw [h2] at h1 ⊢
    exact h1

theorem Edit.slew_clamped (h : s.Drafted x.state i m f g) (v : Option Nat) : (x.slew i v).clamped = true ↔
    x.clamped = true ∨ ∃ w, v = some w ∧ (v.map (clampNat 1 (m.pf / 4))).getD m.slew ≠ w := by
  cases v with
  | none => simp [Edit.slew]
  | some v =>
    simp only [Edit.slew, h.entry, Bool.or_eq_true, decide_eq_true_eq, clampSlew, Option.map_some, Option.getD_some,
      Option.some.injEq, exists_eq_left']

theorem Edit.slew_flags (x : Edit) (v : Option Nat) : (x.slew i v).notice = x.notice ∧ (x.slew i v).moved = x.moved := by
  cases v <;> exact ⟨rfl, rfl⟩

theorem Edit.policy_drafted (h : s.Drafted x.state i m f g) (v : Option Policy) :
    s.Drafted (x.policy i v).state i { m with policy := v.getD m.policy } f g := by
  cases v with
  | none => exact h
  | some v =>
    simp only [Edit.policy, h.entry]
    exact h.setEntry _

theorem Edit.policy_flags (x : Edit) (v : Option Policy) :
    (x.policy i v).clamped = x.clamped ∧ (x.policy i v).moved = x.moved := by
  cases v <;> exact ⟨rfl, rfl⟩

theorem Edit.policy_notice (h : s.Drafted x.state i m f g) (v : Option Policy) :
    (x.policy i v).notice = true ↔ x.notice = true ∨ v.getD m.policy ≠ m.policy := by
  cases v with
  | none => simp [Edit.policy]
  | some v =>
    simp only [Edit.policy, h.entry]
    simp

theorem Edit.label_drafted (h : s.Drafted x.state i m f g) (v : Option LabelMode) :
    s.Drafted (x.label i v).state i (m.relabelled v s.civil) f g := by
  cases v with
  | none => rwa [show m.relabelled none s.civil = m from if_pos rfl]
  | some v =>
    have hc : x.state.civil = s.civil := h.same .civil (by decide)
    simp only [Edit.label, h.entry]
    by_cases hd : degrade v m.num m.den = m.label
    · rw [show m.relabelled (some v) s.civil = m from if_pos hd]
      simp only [if_pos hd]
      exact h
    · rw [show m.relabelled (some v) s.civil = _ from if_neg hd]
      simp only [if_neg hd, hc]
      exact h.setEntry _

theorem Edit.label_flags (h : s.Drafted x.state i m f g) (v : Option LabelMode) :
    ((x.label i v).clamped = true ↔ x.clamped = true ∨ ∃ w, v = some w ∧ m.modeBy v ≠ w)
    ∧ ((x.label i v).notice = true ↔ x.notice = true ∨ m.modeBy v ≠ m.label)
    ∧ (x.label i v).moved = x.moved := by
  cases v with
  | none => simp [Edit.label, Entry.modeBy]
  | some v =>
    simp only [Edit.label, h.entry, Entry.modeBy]
    by_cases hd : degrade v m.num m.den = m.label
    · simp [hd]
    · simp [hd]

theorem Edit.name_drafted (h : s.Drafted x.state i m f g) (v : Option (List Byte)) :
    s.Drafted (x.name i v).state i { m with name := (v.map nameField).getD m.name } f g := by
  cases v with
  | none => exact h
  | some v =>
    simp only [Edit.name, h.entry]
    exact h.setEntry _

theorem Edit.name_flags (x : Edit) (v : Option (List Byte)) :
    (x.name i v).clamped = x.clamped ∧ (x.name i v).notice = x.notice ∧ (x.name i v).moved = x.moved := by
  cases v <;> exact ⟨rfl, rfl, rfl⟩

/-- R16: the four fields behind the phase. -/
theorem Edit.revise_drafted (h : s.Drafted x.state i m f g) (q : SetReq) : s.Drafted (x.revise i q).state i (m.revised q s.civil)
    (fun st d => if q.slew = none then f st d
      else (f st d).replan (.recompute m) { m with slew := (m.revised q s.civil).slew } d s.now) g := by
  have h4 := Edit.name_drafted (Edit.label_drafted (Edit.policy_drafted (Edit.slew_drafted h q.slew) (q.policy.bind policyOf))
    (q.label.bind labelModeOf)) q.name
  have hslew : (m.revised q s.civil).slew = (q.slew.map (clampNat 1 (m.pf / 4))).getD m.slew := by rw [m.revised_eq]
  rw [hslew]
  exact h4

theorem Edit.revise_flags (h : s.Drafted x.state i m f g) (q : SetReq) :
    ((x.revise i q).clamped = true ↔ x.clamped = true ∨ (∃ w, q.slew = some w ∧ (m.revised q s.civil).slew ≠ w)
      ∨ ∃ w, q.label.bind labelModeOf = some w ∧ (m.revised q s.civil).label ≠ w)
    ∧ ((x.revise i q).notice = true ↔ x.notice = true ∨ (m.revised q s.civil).policy ≠ m.policy ∨ m.modeBy (q.label.bind labelModeOf) ≠ m.label)
    ∧ (x.revise i q).moved = x.moved := by
  have h1 := Edit.slew_drafted h q.slew
  have h2 := Edit.policy_drafted h1 (q.policy.bind policyOf)
  obtain ⟨c3, n3, v3⟩ := Edit.label_flags h2 (q.label.bind labelModeOf)
  obtain ⟨c4, n4, v4⟩ := Edit.name_flags (i := i) (((x.slew i q.slew).policy i (q.policy.bind policyOf)).label i
    (q.label.bind labelModeOf)) q.name
  obtain ⟨c2, v2⟩ := Edit.policy_flags (i := i) (x.slew i q.slew) (q.policy.bind policyOf)
  have n2 := Edit.policy_notice h1 (q.policy.bind policyOf)
  have c1 := Edit.slew_clamped h q.slew
  obtain ⟨n1, v1⟩ := Edit.slew_flags (i := i) x q.slew
  have hslew : (m.revised q s.civil).slew = (q.slew.map (clampNat 1 (m.pf / 4))).getD m.slew := by rw [m.revised_eq]
  have hpol : (m.revised q s.civil).policy = (q.policy.bind policyOf).getD m.policy := by rw [m.revised_eq]
  have hlab : (m.revised q s.civil).label = m.modeBy (q.label.bind labelModeOf) := by rw [m.revised_eq]
  rw [hslew, hpol, hlab]
  refine ⟨?_, ?_, ?_⟩
  · rw [Edit.revise, c4, c3, c2, c1, or_assoc]
    rfl
  · rw [Edit.revise, n4, n3, n2, n1, or_assoc]
    rfl
  · rw [Edit.revise, v4, v3, v2, v1]

/-- R7, R14, R20: the notice and the end check of a SET. -/
theorem Edit.finish_settled (h : s.Drafted x.state i m f g) (hm : m.outlives s.entries[i]) :
    s.Settled (x.finish i) i (if x.moved = true then m.checked else m) f g (x.moved = true ∧ m.endsAt s.now False)
    ∧ (x.notice = true → (x.finish i).noted i s.entries[i]) := by
  have h1 : s.Drafted (if x.notice = true then x.state.notify i else x.state) i m f g := by
    split
    · exact h.notify
    · exact h
  have hn (hx : x.notice = true) : (if x.notice = true then x.state.notify i else x.state).noted i s.entries[i] := by
    rw [if_pos hx]
    exact h.noted hm.tied
  unfold Edit.finish
  dsimp only
  by_cases hv : x.moved = true
  · rw [if_pos hv, if_pos hv]
    refine ⟨?_, fun hx => (hn hx).endCheck i⟩
    rw [show (x.moved = true ∧ m.endsAt s.now False) = m.endsAt s.now False by simp [hv]]
    exact h1.endCheck hm.live hm.tied
  · rw [if_neg hv, if_neg hv]
    exact ⟨h1.settled fun hc => hv hc.1, hn⟩

end

end Sys2Proof.Machine

/-! PROOFS. SET of the masked fields and of the phase (R14, R16, R48 to R50): O24. -/

namespace Sys2Proof.Machine

open Sys2Proof Config

/-! ## The phase (R48 to R50) -/

/-- R48 to R50: what a phase change of entry `e` to `v` makes at instant `t` of the entry, of the streams on it and of the outputs
bound to it. -/
inductive Entry.Phases (e : Entry) (range : Nat) (v t : Int) : Entry → Replan → (Output → Output) → Prop
  | waits (hm : e.motion = .pending) : e.Phases range v t (Entry.waitFrom { e with phi := v } t) (.recompute e) id
  | snaps (hm : e.motion ≠ .pending) (hs : e.snapsBy (-(v - e.phi))) :
      e.Phases range v t (Entry.snapped { e with phi := v } t) .snapped
        fun o => o.atSnap (Entry.snapped { e with phi := v } t) (v - e.phi - e.eps) t
  | absorbs (hm : e.motion ≠ .pending) (hs : ¬e.snapsBy (-(v - e.phi))) :
      e.Phases range v t (Entry.carrying { e with phi := v } range (-(v - e.phi))) (.recompute e) fun o => o.shift 0 t

section

variable {s u : State} {i : Idx} {e m : Entry} {f : Stream → Option Nat → Stream} {g k : Output → Output} {range : Nat}
  {v t : Int} {how : Replan}

theorem State.Drafted.phaseChange (h : s.Drafted u i e f g) (v : Int) : ∃ m how k,
    e.Phases s.servo.params.slewRange v s.now m how k
    ∧ s.Drafted (u.phaseChange i v) i m (fun st d => (f st d).replan how m d s.now) (k ∘ g) := by
  have hnow := h.now
  have hservo : u.servo = s.servo := h.same .servo (by decide)
  have h1 := h.setEntry { e with phi := v }
  have hph : u.phaseChange i v = if e.motion = .pending then
      ((u.setEntry i { e with phi := v }).setEntry i (Entry.waitFrom { e with phi := v } u.now)).replan i (.recompute e) u.now
      else (u.setEntry i { e with phi := v }).moveOffset i e (-(v - e.phi)) 0 (v - e.phi - e.eps) u.now := by
    simp only [State.phaseChange, h.entry]
  rw [hph, hnow]
  by_cases hm : e.motion = .pending
  · rw [if_pos hm]
    exact ⟨_, _, _, .waits hm, (h1.setEntry _).replan _ _⟩
  · rw [if_neg hm]
    by_cases hs : e.snapsBy (-(v - e.phi))
    · exact ⟨_, _, _, .snaps hm hs, h1.moveOffset_snaps e 0 (v - e.phi - e.eps) s.now hs⟩
    · have h2 := h1.moveOffset_absorbs e 0 (v - e.phi - e.eps) s.now hs
      rw [State.setEntry_servo, hservo] at h2
      exact ⟨_, _, _, .absorbs hm hs, h2⟩

/-- A phase change leaves the rate, the other masked fields and the label bases. -/
theorem Entry.Phases.plain (h : e.Phases range v t m how k) : m.num = e.num ∧ m.den = e.den ∧ m.pf = e.pf ∧ m.phi = v
    ∧ m.slew = e.slew ∧ m.policy = e.policy ∧ m.label = e.label ∧ m.base = e.base ∧ m.next = e.next ∧ m.name = e.name := by
  cases h with
  | waits hm => exact ⟨rfl, rfl, rfl, rfl, rfl, rfl, rfl, rfl, rfl, rfl⟩
  | absorbs hm hs => exact ⟨rfl, rfl, rfl, rfl, rfl, rfl, rfl, rfl, rfl, rfl⟩
  | snaps hm hs =>
    unfold Entry.snapped
    dsimp only
    split <;> exact ⟨rfl, rfl, rfl, rfl, rfl, rfl, rfl, rfl, rfl, rfl⟩

theorem Entry.Phases.outlives (h : e.Phases range v t m how k) (hv : e.state ≠ .vacant) : m.outlives e := by
  cases h with
  | waits hm => exact ⟨⟨rfl, rfl, rfl, rfl⟩, hv, rfl, rfl, Iff.rfl⟩
  | absorbs hm hs =>
    obtain ⟨h1, h2, h3, h4, h5⟩ := Entry.carrying_outlives { e with phi := v } range (-(v - e.phi))
    exact ⟨h1, h2, h3, h4, h5⟩
  | snaps hm hs =>
    obtain ⟨h1, h2, h3, h4, h5⟩ := Entry.snapped_outlives { e with phi := v } t
    exact ⟨h1, h2, h3, h4, h5⟩

theorem Entry.Phases.absorbed (h : e.Phases range v t m how k) (hn : 0 < e.num) (hd : 0 < e.den) :
    Entry.absorbed { e with phi := v } range (-(v - e.phi)) t m := by
  cases h with
  | waits hm => exact Entry.absorbed_waiting (e := { e with phi := v }) hm hn hd
  | absorbs hm hs => exact Entry.absorbed_carrying (e := { e with phi := v }) hm hs
  | snaps hm hs => exact Entry.absorbed_snapped (e := { e with phi := v }) hm hs

theorem Entry.Phases.how_eq (h : e.Phases range v t m how k) :
    (e.motion ≠ .pending ∧ e.snapsBy (-(v - e.phi)) → how = .snapped)
    ∧ (¬(e.motion ≠ .pending ∧ e.snapsBy (-(v - e.phi))) → how = .recompute e) := by
  cases h with
  | waits hm => exact ⟨fun hc => absurd hm hc.1, fun _ => rfl⟩
  | absorbs hm hs => exact ⟨fun hc => absurd hc.2 hs, fun _ => rfl⟩
  | snaps hm hs => exact ⟨fun _ => rfl, fun hc => absurd ⟨hm, hs⟩ hc⟩

theorem Entry.Phases.outs (h : e.Phases range v t m how k) (o : Output) : (e.motion = .pending → k o = o)
    ∧ (e.motion ≠ .pending → (¬e.snapsBy (-(v - e.phi)) → o.moved 0 t (k o))
      ∧ (e.snapsBy (-(v - e.phi)) → m.motion = .running → o.moved (v - e.phi - e.eps) t (k o))
      ∧ (e.snapsBy (-(v - e.phi)) → m.motion = .pending → o.emptied (k o))) := by
  cases h with
  | waits hm => exact ⟨fun _ => rfl, fun hc => absurd hm hc⟩
  | absorbs hm hs =>
    exact ⟨fun hc => absurd hc hm, fun _ => ⟨fun _ => o.shift_moved 0 t, fun hc => absurd hc hs, fun hc => absurd hc hs⟩⟩
  | snaps hm hs =>
    refine ⟨fun hc => absurd hc hm, fun _ => ⟨fun hc => absurd hs hc, fun _ hrun => ?_, fun _ hpend => ?_⟩⟩
    · beta_reduce
      rw [Output.atSnap, if_neg (by rw [hrun]; decide)]
      exact o.shift_moved _ _
    · beta_reduce
      rw [Output.atSnap, if_pos hpend, Output.shift_discard]
      exact o.discard_emptied

/-- R16: the masked phase of an edit. -/
theorem Edit.phase_same {x : Edit} (h : s.Drafted x.state i e f g) {q : Option Int}
    (hd : (q.map (clampPhase e.pf)).getD e.phi = e.phi) : (x.phase i q).state = x.state ∧ (x.phase i q).notice = x.notice
    ∧ (x.phase i q).moved = x.moved
    ∧ ((x.phase i q).clamped = true ↔ x.clamped = true ∨ ∃ w, q = some w ∧ (q.map (clampPhase e.pf)).getD e.phi ≠ w) := by
  cases q with
  | none => exact ⟨rfl, rfl, rfl, by simp [Edit.phase]⟩
  | some w =>
    simp only [Option.map_some, Option.getD_some] at hd
    simp only [Edit.phase, h.entry, if_pos hd, Bool.or_eq_true, decide_eq_true_eq, Option.map_some, Option.getD_some,
      Option.some.injEq, exists_eq_left', true_and]

theorem Edit.phase_moved {x : Edit} (h : s.Drafted x.state i e f g) {q : Option Int}
    (hd : (q.map (clampPhase e.pf)).getD e.phi ≠ e.phi) :
    (x.phase i q).state = x.state.phaseChange i ((q.map (clampPhase e.pf)).getD e.phi) ∧ (x.phase i q).notice = true
    ∧ (x.phase i q).moved = true
    ∧ ((x.phase i q).clamped = true ↔ x.clamped = true ∨ ∃ w, q = some w ∧ (q.map (clampPhase e.pf)).getD e.phi ≠ w) := by
  cases q with
  | none => exact absurd rfl hd
  | some w =>
    simp only [Option.map_some, Option.getD_some] at hd
    simp only [Edit.phase, h.entry, if_neg hd, Bool.or_eq_true, decide_eq_true_eq, Option.map_some, Option.getD_some,
      Option.some.injEq, exists_eq_left', true_and]

/-! ## The rate -/

/-- A rate of equal cross-product, or none, is stored. -/
def Entry.recounted (e : Entry) (q : Option (Nat × Nat)) : Entry :=
  { e with num := (q.map Prod.fst).getD e.num, den := (q.map Prod.snd).getD e.den }

theorem Edit.rate_same {q : Option (Nat × Nat)}
    (h : ∀ num den, q = some (num, den) → num * s.entries[i].den = s.entries[i].num * den) :
    ∃ y : Edit, (⟨s, false, false, false⟩ : Edit).rate i q = y
      ∧ s.Drafted y.state i (s.entries[i].recounted q) (fun st _ => st) id
      ∧ y.clamped = false ∧ y.notice = false ∧ y.moved = false := by
  cases q with
  | none => exact ⟨_, rfl, .refl s i, rfl, rfl, rfl⟩
  | some r =>
    obtain ⟨num, den⟩ := r
    have hy : (⟨s, false, false, false⟩ : Edit).rate i (some (num, den))
        = ⟨s.setEntry i { s.entries[i] with num := num, den := den }, false, false, false⟩ := by
      simp only [Edit.rate, if_pos (h num den rfl)]
    exact ⟨_, hy, .of_entry s i _, rfl, rfl, rfl⟩

theorem Edit.rate_new {num den : Nat} (h : num * s.entries[i].den ≠ s.entries[i].num * den) :
    (⟨s, false, false, false⟩ : Edit).rate i (some (num, den)) = ⟨s.restarted i num den,
      s.entries[i].restartClamps (s.entries[i].restart num den s.now s.civil), true, true⟩ := by
  simp only [Edit.rate, if_neg h]
  rfl

/-! ## The refusals -/

theorem SetReq.bad_iff (q : SetReq) : SetReq.bad q = true ↔
    (∃ num den, q.rate = some (num, den) ∧ (den = 0 ∨ 1001 < den ∨ num < den ∨ 240000 * den < num))
    ∨ (∃ c, q.policy = some c ∧ 2 < c) ∨ (∃ c, q.label = some c ∧ 2 < c)
    ∨ ∃ nm, q.name = some nm ∧ (12 < nm.length ∨ ∃ c ∈ nm, c < 0x20#8 ∨ 0x7E#8 < c) := by
  have hrate : (q.rate.any fun r => badRate r.1 r.2) = true ↔
      ∃ num den, q.rate = some (num, den) ∧ (den = 0 ∨ 1001 < den ∨ num < den ∨ 240000 * den < num) := by
    rw [Option.any_eq_true]
    simp [badRate, or_assoc]
  have hpolicy : badCode policyOf q.policy = true ↔ ∃ c, q.policy = some c ∧ 2 < c := by
    match q.policy with
    | none => simp [badCode]
    | some 0 | some 1 | some 2 => simp [badCode, policyOf]
    | some (n + 3) => simp [badCode, policyOf]
  have hlabel : badCode labelModeOf q.label = true ↔ ∃ c, q.label = some c ∧ 2 < c := by
    match q.label with
    | none => simp [badCode]
    | some 0 | some 1 | some 2 => simp [badCode, labelModeOf]
    | some (n + 3) => simp [badCode, labelModeOf]
  have hname : q.name.any badName = true ↔ ∃ nm, q.name = some nm ∧ (12 < nm.length ∨ ∃ c ∈ nm, c < 0x20#8 ∨ 0x7E#8 < c) := by
    rw [Option.any_eq_true]
    simp only [badName_iff]
  simp only [SetReq.bad, Bool.or_eq_true, hrate, hpolicy, hlabel, hname, or_assoc]

theorem SetReq.nameClash_iff (q : SetReq) : SetReq.nameClash q i s = true ↔ ∃ (nm : List Byte) (j : Idx),
    q.name = some nm ∧ nm ≠ [] ∧ j ≠ i ∧ s.entries[j].state ≠ .vacant ∧ s.entries[j].name = some nm := by
  unfold SetReq.nameClash
  cases hq : q.name with
  | none => simp
  | some nm =>
    by_cases hn : nm = []
    · simp [nameField, hn]
    · have hf : (some nm : Option (List Byte)).bind nameField = some nm := if_neg hn
      simp only [hf, List.any_eq_true, List.mem_finRange, true_and, Bool.and_eq_true, decide_eq_true_eq, and_assoc]
      constructor
      · rintro ⟨j, h1, h2, h3⟩
        exact ⟨nm, j, rfl, hn, h1, h2, h3⟩
      · rintro ⟨nm', j, h0, -, h1, h2, h3⟩
        cases h0
        exact ⟨j, h1, h2, h3⟩

end

end Sys2Proof.Machine

/-! PROOFS. O24: a SET that passes its checks, part by part. -/

namespace Sys2Proof.Machine

open Sys2Proof Config

/-! ## What a stream reads of its entry -/

/-- Entry `e` with the policy, the label mode, the bases and the name of `w`. -/
def Entry.dressed (e w : Entry) : Entry :=
  { e with policy := w.policy, label := w.label, base := w.base, next := w.next, name := w.name }

theorem Stream.replan_dressed (st : Stream) (how : Replan) (e w : Entry) (d : Option Nat) (t : Int) :
    st.replan how (e.dressed w) d t = st.replan how e d t := by
  cases how <;> rfl

theorem Stream.replan_recompute_dressed (st : Stream) (old e w : Entry) (d : Option Nat) (t : Int) :
    st.replan (.recompute (old.dressed w)) e d t = st.replan (.recompute old) e d t := rfl

section

variable {s : State} {i : Idx} {q : SetReq}

/-! ## The rate stands, or is stored -/

/-- The φ that SET stores (R16). -/
def Entry.phaseBy (e : Entry) (q : SetReq) : Int := (q.phi.map (clampPhase e.pf)).getD e.phi

/-- What makes a SET's result CLAMPED, the rate apart (R166). -/
def SetReq.cut (q : SetReq) (phi : Int) (r : Entry) : Prop :=
  (∃ w, q.phi = some w ∧ phi ≠ w) ∨ (∃ w, q.slew = some w ∧ r.slew ≠ w) ∨ ∃ w, q.label.bind labelModeOf = some w ∧ r.label ≠ w

theorem setApply_kept_phase (hx : ∀ num den, q.rate = some (num, den) → num * s.entries[i].den = s.entries[i].num * den)
    (hd : s.entries[i].phaseBy q = s.entries[i].phi) :
    s.Drafted (SetReq.apply q i s).state i ((s.entries[i].recounted q.rate).revised q s.civil)
      (fun st d => if q.slew = none then st else st.replan (.recompute (s.entries[i].recounted q.rate))
        { s.entries[i].recounted q.rate with slew := ((s.entries[i].recounted q.rate).revised q s.civil).slew } d s.now) id
    ∧ ((SetReq.apply q i s).clamped = true
        ↔ SetReq.cut q (s.entries[i].phaseBy q) ((s.entries[i].recounted q.rate).revised q s.civil))
    ∧ ((SetReq.apply q i s).notice = true ↔ ((s.entries[i].recounted q.rate).revised q s.civil).policy ≠ s.entries[i].policy
        ∨ (s.entries[i].recounted q.rate).modeBy (q.label.bind labelModeOf) ≠ s.entries[i].label)
    ∧ (SetReq.apply q i s).moved = false := by
  obtain ⟨y, hy, h, hc, hn, hv⟩ := Edit.rate_same hx
  obtain ⟨p1, p2, p3, p4⟩ := Edit.phase_same h (q := q.phi) hd
  have h1 : s.Drafted (y.phase i q.phi).state i (s.entries[i].recounted q.rate) (fun st _ => st) id := by rwa [p1]
  obtain ⟨f1, f2, f3⟩ := Edit.revise_flags h1 q
  rw [setApply_eq, hy]
  refine ⟨Edit.revise_drafted h1 q, ?_, ?_, ?_⟩
  · rw [f1, p4, hc]
    simp only [Bool.false_eq_true, false_or]
    rfl
  · rw [f2, p2, hn]
    simp only [Bool.false_eq_true, false_or]
    rfl
  · rw [f3, p3, hv]

theorem setApply_moved_phase (hx : ∀ num den, q.rate = some (num, den) → num * s.entries[i].den = s.entries[i].num * den)
    (hd : s.entries[i].phaseBy q ≠ s.entries[i].phi) : ∃ m how k,
    (s.entries[i].recounted q.rate).Phases s.servo.params.slewRange (s.entries[i].phaseBy q) s.now m how k
    ∧ s.Drafted (SetReq.apply q i s).state i (m.revised q s.civil)
      (fun st d => if q.slew = none then st.replan how m d s.now else (st.replan how m d s.now).replan (.recompute m)
        { m with slew := (m.revised q s.civil).slew } d s.now) k
    ∧ ((SetReq.apply q i s).clamped = true ↔ SetReq.cut q (s.entries[i].phaseBy q) (m.revised q s.civil))
    ∧ (SetReq.apply q i s).notice = true ∧ (SetReq.apply q i s).moved = true := by
  obtain ⟨y, hy, h, hc, hn, hv⟩ := Edit.rate_same hx
  obtain ⟨p1, p2, p3, p4⟩ := Edit.phase_moved h (q := q.phi) hd
  obtain ⟨m, how, k, hph, h0⟩ := h.phaseChange (s.entries[i].phaseBy q)
  have h1 : s.Drafted (y.phase i q.phi).state i m (fun st d => st.replan how m d s.now) k := by rw [p1]; exact h0
  obtain ⟨f1, f2, f3⟩ := Edit.revise_flags h1 q
  refine ⟨m, how, k, hph, ?_⟩
  rw [setApply_eq, hy]
  refine ⟨Edit.revise_drafted h1 q, ?_, ?_, ?_⟩
  · rw [f1, p4, hc]
    simp only [Bool.false_eq_true, false_or]
    rfl
  · exact f2.2 (.inl p2)
  · rw [f3, p3]

/-! ## A new rate -/

/-- R15, R16: the entry restarted at a new rate, its φ that of the SET. -/
def Entry.rephased (e : Entry) (phi t : Int) : Entry := Entry.waitFrom { e with phi := phi } t

theorem Entry.restart_rephased {e : Entry} {num den t : Nat} {c : Civil} :
    (e.restart num den t c).rephased (e.restart num den t c).phi t = e.restart num den t c := by
  obtain ⟨b, n, h⟩ := (e.rerated num den).withBases_eq c
  rw [Entry.restart_eq, h]
  rfl

theorem setApply_restart {num den : Nat} (hrate : q.rate = some (num, den))
    (hx : num * s.entries[i].den ≠ s.entries[i].num * den) :
    let w := s.entries[i].restart num den s.now s.civil
    let m := w.rephased (w.phaseBy q) s.now
    s.Drafted (SetReq.apply q i s).state i (m.revised q s.civil)
      (fun st d =>
        let st1 := st.replan .restarted w d s.now
        let st2 := if w.phaseBy q = w.phi then st1 else st1.replan (.recompute w) m d s.now
        if q.slew = none then st2 else st2.replan (.recompute m) { m with slew := (m.revised q s.civil).slew } d s.now)
      Output.discard
    ∧ ((SetReq.apply q i s).clamped = true
        ↔ (w.phi ≠ s.entries[i].phi ∨ w.slew ≠ s.entries[i].slew ∨ w.label ≠ s.entries[i].label)
          ∨ SetReq.cut q (w.phaseBy q) (m.revised q s.civil))
    ∧ (SetReq.apply q i s).notice = true ∧ (SetReq.apply q i s).moved = true := by
  intro w m
  have hy := Edit.rate_new hx
  have h : s.Drafted ((⟨s, false, false, false⟩ : Edit).rate i q.rate).state i w
      (fun st d => st.replan .restarted w d s.now) Output.discard := by
    rw [hrate, hy]
    exact State.restarted_drafted
  have hflags : ((⟨s, false, false, false⟩ : Edit).rate i q.rate).clamped = s.entries[i].restartClamps w
      ∧ ((⟨s, false, false, false⟩ : Edit).rate i q.rate).notice = true
      ∧ ((⟨s, false, false, false⟩ : Edit).rate i q.rate).moved = true := by
    rw [hrate, hy]
    exact ⟨rfl, rfl, rfl⟩
  obtain ⟨hc, hn, hv⟩ := hflags
  have hclamps := Entry.restartClamps_iff s.entries[i] w
  rw [setApply_eq]
  by_cases hd : w.phaseBy q = w.phi
  · obtain ⟨p1, p2, p3, p4⟩ := Edit.phase_same h (q := q.phi) hd
    have hm : m = w := by
      rw [show m = w.rephased w.phi s.now from congrArg (w.rephased · s.now) hd]
      exact Entry.restart_rephased
    have h1 : s.Drafted (((⟨s, false, false, false⟩ : Edit).rate i q.rate).phase i q.phi).state i m
        (fun st d => st.replan .restarted w d s.now) Output.discard := by rw [p1, hm]; exact h
    obtain ⟨f1, f2, f3⟩ := Edit.revise_flags h1 q
    simp only [if_pos hd]
    refine ⟨Edit.revise_drafted h1 q, ?_, f2.2 (.inl (p2.trans hn)), by rw [f3, p3, hv]⟩
    rw [f1, p4, hc, hclamps]
    simp only [or_assoc]
    rfl
  · obtain ⟨p1, p2, p3, p4⟩ := Edit.phase_moved h (q := q.phi) hd
    obtain ⟨m', how, k, hph, h0⟩ := h.phaseChange (w.phaseBy q)
    have hpend : w.motion = .pending := rfl
    cases hph with
    | snaps hm hs => exact absurd hpend hm
    | absorbs hm hs => exact absurd hpend hm
    | waits hm =>
      have h1 : s.Drafted (((⟨s, false, false, false⟩ : Edit).rate i q.rate).phase i q.phi).state i m
          (fun st d => (st.replan .restarted w d s.now).replan (.recompute w) m d s.now) Output.discard := by
        rw [p1]; exact h0
      obtain ⟨f1, f2, f3⟩ := Edit.revise_flags h1 q
      simp only [if_neg hd]
      refine ⟨Edit.revise_drafted h1 q, ?_, f2.2 (.inl p2), by rw [f3, p3]⟩
      rw [f1, p4, hc, hclamps]
      simp only [or_assoc]
      rfl

end

end Sys2Proof.Machine

/-! PROOFS. O24: SET is refused in order, or applies its masked fields and its phase change. -/

namespace Sys2Proof.Machine

open Sys2Proof Config

section

variable {s s' : State} {i : Idx} {q : SetReq} {c : Civil} {e m : Entry}

theorem State.leftStations_congr {gone gone' : Prop} {f f' : Stream → Option Nat → Stream} (h : s.leftStations s' i gone f)
    (hg : gone ↔ gone') (hf : ∀ st d, f st d = f' st d) : s.leftStations s' i gone' f' := by
  obtain rfl : gone = gone' := propext hg
  obtain rfl : f = f' := funext fun st => funext fun d => hf st d
  exact h

theorem Entry.revised_name (m : Entry) (q : SetReq) (c : Civil) : m.revised q c =
    { (m.reset q).relabelled (q.label.bind labelModeOf) c with name := (q.name.map nameField).getD m.name } := by
  have h : ((m.reset q).relabelled (q.label.bind labelModeOf) c).name = m.name := by rw [Entry.relabelled_eq]; rfl
  rw [Entry.revised, h]

theorem Entry.labelled_revised (h : m.labelled c) (hn : 0 < m.num) (hd : 0 < m.den) : (m.revised q c).labelled c := by
  by_cases hm : m.modeBy (q.label.bind labelModeOf) = m.label
  · have hr : (m.reset q).relabelled (q.label.bind labelModeOf) c = m.reset q := if_pos hm
    rw [Entry.revised, hr]
    exact h
  · exact Entry.revised_labelled hm hn hd

theorem Entry.checked_of_not_taken (h : m.endTaken = false) : m.checked = m := by
  have h1 : m.checked.endTaken = m.endTaken := by rw [Entry.checked_endTaken, h]; simp
  rw [m.checked_eq, h1]

theorem SetReq.rate_pos {num den : Nat} (hb : ¬SetReq.bad q = true) (hr : q.rate = some (num, den)) : 0 < num ∧ 0 < den := by
  have h : ¬(den = 0 ∨ 1001 < den ∨ num < den ∨ 240000 * den < num) := fun h =>
    hb ((SetReq.bad_iff q).2 (.inl ⟨num, den, hr, h⟩))
  omega

theorem Entry.recounted_pos (hb : ¬SetReq.bad q = true) (hn : 0 < e.num) (hd : 0 < e.den) :
    0 < (e.recounted q.rate).num ∧ 0 < (e.recounted q.rate).den := by
  cases hr : q.rate with
  | none => exact ⟨hn, hd⟩
  | some r => exact SetReq.rate_pos hb (num := r.1) (den := r.2) hr

/-- R49, R50: a phase change by `d` makes the entry snap. -/
theorem Entry.snapsBy_sub (e : Entry) (d : Int) : e.snapsBy (-d) ↔
    e.policy = .snap ∨ e.eps - d < -9223372036854775808 ∨ 9223372036854775807 < e.eps - d := by
  rw [e.snapsBy_iff, ← sub_eq_add_neg]

end

/-! ## SET without a rate and without a phase -/

section

variable {s : State} {i : Idx} {q : SetReq}

/-- What a SET whose rate stands or is stored, and whose phase stands, leaves. -/
theorem setFinish_kept_phase (hlive : s.entries[i].state ≠ .vacant)
    (hx : ∀ num den, q.rate = some (num, den) → num * s.entries[i].den = s.entries[i].num * den)
    (hd : s.entries[i].phaseBy q = s.entries[i].phi) :
    s.Settled ((SetReq.apply q i s).finish i) i ((s.entries[i].recounted q.rate).revised q s.civil)
      (fun st d => if q.slew = none then st else st.replan (.recompute (s.entries[i].recounted q.rate))
        { s.entries[i].recounted q.rate with slew := ((s.entries[i].recounted q.rate).revised q s.civil).slew } d s.now) id False
    ∧ ((SetReq.apply q i s).notice = true → ((SetReq.apply q i s).finish i).noted i s.entries[i]) := by
  obtain ⟨h, -, -, hv⟩ := setApply_kept_phase hx hd
  have ho : ((s.entries[i].recounted q.rate).revised q s.civil).outlives (s.entries[i].recounted q.rate) :=
    Entry.revised_outlives hlive
  have hm : ((s.entries[i].recounted q.rate).revised q s.civil).outlives s.entries[i] :=
    ⟨ho.tied, ho.live, ho.endAt, ho.endTaken, ho.ending⟩
  obtain ⟨hset, hn⟩ := Edit.finish_settled h hm
  rw [hv] at hset
  simp only [Bool.false_eq_true, if_false, false_and] at hset
  exact ⟨hset, hn⟩

theorem Entry.outlives.revise {m e : Entry} (h : m.outlives e) (q : SetReq) (c : Civil) : (m.revised q c).outlives e := by
  have ho := Entry.revised_outlives (q := q) (c := c) h.live
  obtain ⟨g1, g2, g3, g4⟩ := h.tied
  obtain ⟨k1, k2, k3, k4⟩ := ho.tied
  exact ⟨⟨k1.trans g1, k2.trans g2, k3.trans g3, k4.trans g4⟩, ho.live, ho.endAt.trans h.endAt, ho.endTaken.trans h.endTaken,
    ho.ending.trans h.ending⟩

/-- What a SET whose rate stands or is stored, and whose phase changes, leaves. -/
theorem setFinish_moved_phase (hlive : s.entries[i].state ≠ .vacant)
    (hx : ∀ num den, q.rate = some (num, den) → num * s.entries[i].den = s.entries[i].num * den)
    (hd : s.entries[i].phaseBy q ≠ s.entries[i].phi) : ∃ m how k,
    (s.entries[i].recounted q.rate).Phases s.servo.params.slewRange (s.entries[i].phaseBy q) s.now m how k
    ∧ (SetReq.apply q i s).state.entries[i] = m.revised q s.civil
    ∧ s.Settled ((SetReq.apply q i s).finish i) i (m.revised q s.civil).checked
      (fun st d => if q.slew = none then st.replan how m d s.now else (st.replan how m d s.now).replan (.recompute m)
        { m with slew := (m.revised q s.civil).slew } d s.now) k ((m.revised q s.civil).endsAt s.now False)
    ∧ ((SetReq.apply q i s).clamped = true ↔ SetReq.cut q (s.entries[i].phaseBy q) (m.revised q s.civil))
    ∧ ((SetReq.apply q i s).finish i).noted i s.entries[i] := by
  obtain ⟨m, how, k, hph, h, hc, hn, hv⟩ := setApply_moved_phase hx hd
  have hm : m.outlives s.entries[i] := by
    have ho := hph.outlives (show (s.entries[i].recounted q.rate).state ≠ .vacant from hlive)
    exact ⟨ho.tied, ho.live, ho.endAt, ho.endTaken, ho.ending⟩
  obtain ⟨hset, hnoted⟩ := Edit.finish_settled h (hm.revise q s.civil)
  rw [hv] at hset
  simp only [if_true, true_and] at hset
  exact ⟨m, how, k, hph, h.entry, hset, hc, hnoted hn⟩

/-- The entry that a SET of a new rate leaves. -/
def Entry.restartedBy (e : Entry) (q : SetReq) (num den t : Nat) (c : Civil) : Entry :=
  ((e.restart num den t c).rephased ((e.restart num den t c).phaseBy q) t).revised q c

theorem Entry.rephased_outlives {e : Entry} (hv : e.state ≠ .vacant) (phi t : Int) : (e.rephased phi t).outlives e :=
  ⟨⟨rfl, rfl, rfl, rfl⟩, hv, rfl, rfl, Iff.rfl⟩

/-- Without a phase change no waiting pulse is touched. -/
theorem State.Settled.outs_same {s' : State} {m : Entry} {f : Stream → Option Nat → Stream} {gone : Prop}
    (h : s.Settled s' i m f id gone) (hg : ¬gone) : s'.outs = s.outs := by
  refine Vector.ext_fin fun o => ?_
  cases hb : s.outs[o].boundTo i with
  | true => exact h.boundKept hg o hb
  | false => exact h.free o hb

section

variable {e : Entry} {num den t : Nat} {c : Civil}

theorem Entry.restart_plain : (e.restart num den t c).pf = wholePeriod num den ∧ (e.restart num den t c).num = num
    ∧ (e.restart num den t c).den = den ∧ (e.restart num den t c).phi = clampPhase (wholePeriod num den) e.phi
    ∧ (e.restart num den t c).slew = clampSlew (wholePeriod num den) e.slew
    ∧ (e.restart num den t c).label = degrade e.label num den ∧ (e.restart num den t c).policy = e.policy
    ∧ (e.restart num den t c).name = e.name := by
  have h := Entry.restart_fields (e := e) (num := num) (den := den) (t := t) (c := c)
  have hpolicy := congrArg Entry.policy h
  have hname := congrArg Entry.name h
  exact ⟨congrArg Entry.pf h, congrArg Entry.num h, congrArg Entry.den h, congrArg Entry.phi h, congrArg Entry.slew h,
    congrArg Entry.label h, hpolicy, hname⟩

theorem Entry.restart_phaseBy (q : SetReq) : (e.restart num den t c).phaseBy q
    = clampPhase (wholePeriod num den) (q.phi.getD e.phi) := by
  obtain ⟨hpf, -, -, hphi, -⟩ := Entry.restart_plain (e := e) (num := num) (den := den) (t := t) (c := c)
  rw [Entry.phaseBy, hpf, hphi]
  cases q.phi with
  | none => rw [Option.map_none, Option.getD_none, Option.getD_none]
  | some v => rw [Option.map_some, Option.getD_some, Option.getD_some]

/-- R15, R16: the fields of an entry after a SET of a new rate. -/
theorem Entry.restartedBy_eq (q : SetReq) : e.restartedBy q num den t c = { e with
    num := num, den := den, pf := wholePeriod num den, phi := clampPhase (wholePeriod num den) (q.phi.getD e.phi)
    slew := clampSlew (wholePeriod num den) (q.slew.getD e.slew), policy := (q.policy.bind policyOf).getD e.policy
    label := degrade ((q.label.bind labelModeOf).getD e.label) num den
    eps := 0, kl := none, lm := none, motion := .pending
    state := if e.state = .ending then .ending else .pending, endTaken := false
    ks := (e.restartedBy q num den t c).ks, base := (e.restartedBy q num den t c).base, next := (e.restartedBy q num den t c).next
    name := (q.name.map nameField).getD e.name } := by
  have hphase := Entry.restart_phaseBy (e := e) (num := num) (den := den) (t := t) (c := c) q
  have hsl : (q.slew.map (clampSlew (wholePeriod num den))).getD (clampSlew (wholePeriod num den) e.slew)
      = clampSlew (wholePeriod num den) (q.slew.getD e.slew) := Option.getD_map _ _ _
  have hmode : ((q.label.bind labelModeOf).map fun w => degrade w num den).getD (degrade e.label num den)
      = degrade ((q.label.bind labelModeOf).getD e.label) num den := Option.getD_map (fun w => degrade w num den) _ _
  have hfields := Entry.restart_fields (e := e) (num := num) (den := den) (t := t) (c := c)
  obtain ⟨k, b, n, hw⟩ : ∃ k b n, e.restart num den t c = { e with
      num := num, den := den, pf := wholePeriod num den, phi := clampPhase (wholePeriod num den) e.phi
      slew := clampSlew (wholePeriod num den) e.slew, label := degrade e.label num den, eps := 0, kl := none, lm := none
      motion := .pending, state := if e.state = .ending then .ending else .pending, endTaken := false
      ks := k, base := b, next := n } := ⟨_, _, _, hfields⟩
  rw [Entry.restartedBy, hphase, hw]
  have hr := Entry.revised_eq (Entry.rephased { e with
      num := num, den := den, pf := wholePeriod num den, phi := clampPhase (wholePeriod num den) e.phi
      slew := clampSlew (wholePeriod num den) e.slew, label := degrade e.label num den, eps := 0, kl := none, lm := none
      motion := .pending, state := if e.state = .ending then .ending else .pending, endTaken := false
      ks := k, base := b, next := n } (clampPhase (wholePeriod num den) (q.phi.getD e.phi)) t) q c
  rw [congrArg Entry.ks hr]
  refine hr.trans ?_
  congr 1
theorem Entry.restartedBy_ks (q : SetReq) (hn : 0 < num) (hd : 0 < den) : ∃ k, (e.restartedBy q num den t c).ks = some k
    ∧ ∀ j : Nat, k ≤ j ↔ (t : Int) + 1000000 ≤ nominal num den j + (e.restartedBy q num den t c).phi := by
  obtain ⟨-, hnum, hden, -⟩ := Entry.restart_plain (e := e) (num := num) (den := den) (t := t) (c := c)
  have hphi : (e.restartedBy q num den t c).phi = (e.restart num den t c).phaseBy q := by
    rw [Entry.restartedBy_eq, Entry.restart_phaseBy]
  refine ⟨startMark num den ((e.restart num den t c).phaseBy q) t, ?_, fun j => ?_⟩
  · rw [Entry.restartedBy, Entry.revised_eq]
    simp only [Entry.rephased, Entry.waitFrom, hnum, hden]
  · rw [hphi]
    exact startMark_le_iff _ _ _ hn hd

theorem Entry.restartedBy_labelled (q : SetReq) (hn : 0 < num) (hd : 0 < den) : (e.restartedBy q num den t c).labelled c := by
  obtain ⟨-, hnum, hden, -⟩ := Entry.restart_plain (e := e) (num := num) (den := den) (t := t) (c := c)
  have hl : (e.restart num den t c).labelled c := Entry.restart_labelled hn hd
  exact Entry.labelled_revised (m := (e.restart num den t c).rephased ((e.restart num den t c).phaseBy q) t) hl
    (by rw [← hnum] at hn; exact hn) (by rw [← hden] at hd; exact hd)

end

theorem Entry.revised_dressed (m : Entry) (q : SetReq) (c : Civil) :
    m.revised q c = Entry.dressed { m with slew := (m.revised q c).slew } (m.revised q c) := by
  obtain ⟨a, p, l, b, n, nm, h⟩ : ∃ a p l b n nm, m.revised q c = { m with
      slew := a, policy := p, label := l, base := b, next := n, name := nm } := ⟨_, _, _, _, _, _, m.revised_eq q c⟩
  rw [h]
  rfl

theorem Entry.dressed_before_slew {w r : Entry} {a : Nat} (h : r = Entry.dressed { w with slew := a } r) :
    ({ r with slew := w.slew } : Entry) = w.dressed r := by
  rw [h]
  rfl

theorem Entry.dressed_before_phase {w r : Entry} {a : Nat} {phi t : Int}
    (h : r = Entry.dressed { w.rephased phi t with slew := a } r) :
    ({ r with phi := w.phi, ks := w.ks, slew := w.slew } : Entry) = w.dressed r := by
  rw [h]
  rfl

/-- R20: what decides of the retirement of an ENDING entry that a SET has restarted. -/
def Entry.expires (e : Entry) (t : Nat) : Prop := e.state = .ending ∧ ∃ x, e.endAt = some x ∧ x ≤ t

theorem Entry.restartedBy_endsAt {e : Entry} {num den t : Nat} {c : Civil} (q : SetReq) (hn : 0 < num) (hd : 0 < den) :
    (e.restartedBy q num den t c).endsAt t False ↔ e.expires t := by
  obtain ⟨k, hk, hfirst⟩ := Entry.restartedBy_ks (e := e) (t := t) (c := c) q hn hd
  have hf := Entry.restartedBy_eq (e := e) (num := num) (den := den) (t := t) (c := c) q
  have hp : (e.restartedBy q num den t c).motion = .pending ∧ (e.restartedBy q num den t c).eps = 0
      ∧ (e.restartedBy q num den t c).num = num ∧ (e.restartedBy q num den t c).den = den
      ∧ (e.restartedBy q num den t c).endAt = e.endAt
      ∧ (e.restartedBy q num den t c).state = if e.state = .ending then .ending else .pending := by
    rw [hf]; exact ⟨rfl, rfl, rfl, rfl, rfl, rfl⟩
  obtain ⟨h1, h2, h3, h4, h5, h6⟩ := hp
  rw [Entry.waiting_endsAt_iff h1 hk h2 (by rw [h3, h4]; exact (hfirst k).1 le_rfl), h5, h6, Entry.expires]
  by_cases he : e.state = .ending
  · simp [he]
  · simp [he]

/-- What a SET of a new rate leaves. -/
theorem setFinish_restart {num den : Nat} (hrate : q.rate = some (num, den)) (hn : 0 < num) (hd : 0 < den)
    (hx : num * s.entries[i].den ≠ s.entries[i].num * den) :
    let w := s.entries[i].restart num den s.now s.civil
    let m := w.rephased (w.phaseBy q) s.now
    (SetReq.apply q i s).state.entries[i] = s.entries[i].restartedBy q num den s.now s.civil
    ∧ s.Settled ((SetReq.apply q i s).finish i) i (s.entries[i].restartedBy q num den s.now s.civil)
      (fun st d =>
        let st1 := st.replan .restarted w d s.now
        let st2 := if w.phaseBy q = w.phi then st1 else st1.replan (.recompute w) m d s.now
        if q.slew = none then st2 else st2.replan (.recompute m)
          { m with slew := (s.entries[i].restartedBy q num den s.now s.civil).slew } d s.now)
      Output.discard (s.entries[i].expires s.now)
    ∧ ((SetReq.apply q i s).clamped = true
        ↔ (w.phi ≠ s.entries[i].phi ∨ w.slew ≠ s.entries[i].slew ∨ w.label ≠ s.entries[i].label)
          ∨ SetReq.cut q (w.phaseBy q) (s.entries[i].restartedBy q num den s.now s.civil))
    ∧ ((SetReq.apply q i s).finish i).noted i s.entries[i] := by
  intro w m
  obtain ⟨h, hc, hnotice, hv⟩ := setApply_restart hrate hx
  have htied := Entry.restart_outlives (e := s.entries[i]) (num := num) (den := den) (t := s.now) (c := s.civil)
  have hm := (Entry.rephased_outlives htied.2 (w.phaseBy q) s.now).revise q s.civil
  obtain ⟨g1, g2, g3, g4⟩ := hm.tied
  obtain ⟨k1, k2, k3, k4⟩ := htied.1
  have ht : (s.entries[i].restartedBy q num den s.now s.civil).tiedAs s.entries[i] :=
    ⟨g1.trans k1, g2.trans k2, g3.trans k3, g4.trans k4⟩
  have hset := h.notify.endCheck hm.live ht
  have hnoted := (h.noted ht).endCheck i
  have he : (SetReq.apply q i s).finish i = ((SetReq.apply q i s).state.notify i).endCheck i := by
    rw [Edit.finish, hnotice, hv]
    rfl
  have htaken : (s.entries[i].restartedBy q num den s.now s.civil).endTaken = false := by rw [Entry.restartedBy_eq]
  have hends := propext (Entry.restartedBy_endsAt (e := s.entries[i]) (t := s.now) (c := s.civil) q hn hd)
  have hsettled : s.Settled _ i (s.entries[i].restartedBy q num den s.now s.civil).checked _ Output.discard
    ((s.entries[i].restartedBy q num den s.now s.civil).endsAt s.now False) := hset
  rw [Entry.checked_of_not_taken htaken, hends, ← he] at hsettled
  rw [← he] at hnoted
  exact ⟨h.entry, hsettled, hc, hnoted⟩

theorem setFinish_same_phase {v : Int} (hq : q = ⟨q.handle, none, some v, none, none, none, none⟩)
    (hv : clampPhase s.entries[i].pf v = s.entries[i].phi) : (SetReq.apply q i s).finish i = s := by
  have hp : (⟨s, false, false, false⟩ : Edit).phase i (some v)
      = ⟨s, false || decide (clampPhase s.entries[i].pf v ≠ v), false, false⟩ := if_pos hv
  rw [hq]
  simp only [SetReq.apply, Edit.rate, hp]
  rfl

theorem set_others_stand (hlive : s.entries[i].state ≠ .vacant) :
    (∀ j : Idx, j ≠ i → ((SetReq.apply q i s).finish i).entries[j] = s.entries[j])
    ∧ s.sameBut [.entries, .stations, .outs, .chain, .mgmtNotices, .attn] ((SetReq.apply q i s).finish i) := by
  by_cases hx : ∀ num den, q.rate = some (num, den) → num * s.entries[i].den = s.entries[i].num * den
  · by_cases hd : s.entries[i].phaseBy q = s.entries[i].phi
    · obtain ⟨h, -⟩ := setFinish_kept_phase hlive hx hd
      exact ⟨h.others, h.same⟩
    · obtain ⟨m, how, k, -, -, h, -⟩ := setFinish_moved_phase hlive hx hd
      exact ⟨h.others, h.same⟩
  · obtain ⟨num, den, hr, hne⟩ : ∃ num den, q.rate = some (num, den) ∧ num * s.entries[i].den ≠ s.entries[i].num * den := by
      simpa using hx
    obtain ⟨h, -, hn, hv⟩ := setApply_restart hr hne
    have htied := Entry.restart_outlives (e := s.entries[i]) (num := num) (den := den) (t := s.now) (c := s.civil)
    have hm := (Entry.rephased_outlives htied.2 ((s.entries[i].restart num den s.now s.civil).phaseBy q) s.now).revise q s.civil
    obtain ⟨g1, g2, g3, g4⟩ := hm.tied
    obtain ⟨k1, k2, k3, k4⟩ := htied.1
    have h1 := (h.notify).endCheck hm.live ⟨g1.trans k1, g2.trans k2, g3.trans k3, g4.trans k4⟩
    have he : (SetReq.apply q i s).finish i = ((SetReq.apply q i s).state.notify i).endCheck i := by
      rw [Edit.finish, hn, hv]
      rfl
    rw [he]
    exact ⟨h1.others, h1.same⟩

/-! ## The statement -/

theorem setReply_passes {l : Link} (hb : ¬SetReq.bad q = true) (hi : q.handle.index = i.val) (hg : s.entries[i].gen = q.handle.gen)
    (hlive : s.entries[i].state ≠ .vacant) (ha : l = .mgmt ∨ s.entries[i].owner = l) (hc : ¬SetReq.nameClash q i s = true) :
    setReply l q s = ((SetReq.apply q i s).finish i, some (okOr (SetReq.apply q i s).clamped,
      if (SetReq.apply q i s).clamped then .stored (SetReq.apply q i s).state.entries[i].storedView else .empty)) := by
  rw [setReply_checked (by simpa using hb), onEntry_ok ((checkHandle_ok_iff q.handle i).2 ⟨hi, hg, hlive⟩),
    withAuthority_ok ((authority_iff l _).2 ha), Bool.eq_false_iff.2 hc]
  rfl

theorem setReply_clash {l : Link} (hb : ¬SetReq.bad q = true) (hi : q.handle.index = i.val) (hg : s.entries[i].gen = q.handle.gen)
    (hlive : s.entries[i].state ≠ .vacant) (ha : l = .mgmt ∨ s.entries[i].owner = l) (hc : SetReq.nameClash q i s = true) :
    setReply l q s = (s, some (.nameTaken, .empty)) := by
  rw [setReply_checked (by simpa using hb), onEntry_ok ((checkHandle_ok_iff q.handle i).2 ⟨hi, hg, hlive⟩),
    withAuthority_ok ((authority_iff l _).2 ha), hc]
  rfl

/-- Settles O24: every edit is an event at the entry, and so are their compositions, with the notice and the end check. -/
theorem setAppliesMaskedFields : Obligations.SetAppliesMaskedFields := by
  unfold Obligations.SetAppliesMaskedFields
  intro s l t q hs bad
  have hbad : SetReq.bad q = true ↔ bad := SetReq.bad_iff q
  have hans {s2 : State} {st : Status} {b : Body} (h : setReply l q s = (s2, some (st, b))) :
      exec (.set l t q) s = .next (s2.reply l t (.set q) st b) := exec_reply (r := .set q) hs h
  refine ⟨fun hb => hans (by rw [setReply, if_pos (hbad.2 hb)]; rfl), fun hb => ?_⟩
  have hb' : ¬SetReq.bad q = true := fun h => hb (hbad.1 h)
  have hb0 : SetReq.bad q = false := by simpa using hb'
  have herror {st : Status} (h : checkHandle s q.handle = .error st) :
      exec (.set l t q) s = .next (s.reply l t (.set q) st .empty) :=
    hans ((setReply_checked hb0 l s).trans (onEntry_error h _))
  refine ⟨fun h => herror (checkHandle_badField h), fun i hi => ⟨fun h => herror (checkHandle_stale hi.symm h),
    fun h hv => herror (checkHandle_notFound hi.symm h hv), ?_⟩⟩
  intro hg hlive e mine clash
  have hclash : SetReq.nameClash q i s = true ↔ clash := SetReq.nameClash_iff q
  refine ⟨fun hm => ?_, fun hm hc => hans (setReply_clash hb' hi hg hlive hm (hclash.2 hc)), fun hm hc => ?_⟩
  · refine hans ((setReply_checked hb0 l s).trans ((onEntry_ok ((checkHandle_ok_iff q.handle i).2 ⟨hi, hg, hlive⟩) _).trans
      (withAuthority_refused ?_ _)))
    rw [← Bool.not_eq_true]
    exact fun h => hm ((authority_iff l e).1 h)
  intro x kept
  have hexec := hans (setReply_passes hb' hi hg hlive hm fun h => hc (hclash.1 h))
  obtain ⟨hothers, hsame⟩ := set_others_stand (q := q) hlive
  refine ⟨x.finish i, ?_, rfl, hothers, hsame, ?_, ?_, ?_, ?_⟩
  · rw [hexec]
    cases hcl : x.clamped
    · rfl
    · rfl
  · intro hrate hphi e1 m e2
    have hx : ∀ num den, q.rate = some (num, den) → num * s.entries[i].den = s.entries[i].num * den := fun num den h => by
      rw [hrate] at h; exact nomatch h
    have hd : s.entries[i].phaseBy q = s.entries[i].phi := by rw [Entry.phaseBy, hphi]; rfl
    obtain ⟨hset, -⟩ := setFinish_kept_phase hlive hx hd
    obtain ⟨-, hcl, -, -⟩ := setApply_kept_phase hx hd
    have he0 : e.recounted q.rate = e := by rw [hrate]; rfl
    rw [show s.entries[i].recounted q.rate = e from he0] at hset hcl
    have hfin : (x.finish i).entries[i] = e.revised q s.civil := hset.entryKept not_false
    refine ⟨?_, ?_, ?_⟩
    · rw [hfin, Entry.revised_name]
      cases q.name <;> rfl
    · intro hne hn hd
      rw [hfin]
      exact Entry.revised_labelled hne hn hd
    · rw [hfin]
      refine hcl.trans ⟨fun h => h.resolve_left ?_, .inr⟩
      rintro ⟨w, hw, -⟩
      rw [hphi] at hw
      exact nomatch hw
  · intro hx hn hd e0 phi d snaps mode
    obtain ⟨hn0, hd0⟩ := Entry.recounted_pos hb' hn hd
    have hsnaps : e0.snapsBy (-d) ↔ snaps := Entry.snapsBy_sub e0 d
    by_cases h0 : d = 0
    · have hphi : s.entries[i].phaseBy q = s.entries[i].phi := sub_eq_zero.1 h0
      obtain ⟨hset, hnoted⟩ := setFinish_kept_phase hlive hx hphi
      obtain ⟨h, hcl, hnotice, -⟩ := setApply_kept_phase hx hphi
      obtain ⟨how, hh⟩ : ∃ how : Replan, (e.motion ≠ .pending ∧ snaps → how = .snapped)
          ∧ (¬(e.motion ≠ .pending ∧ snaps) → how = .recompute e0) := by
        by_cases hc : e.motion ≠ .pending ∧ snaps
        · exact ⟨.snapped, fun _ => rfl, fun g => absurd hc g⟩
        · exact ⟨.recompute e0, fun g => absurd g hc, fun _ => rfl⟩
      refine ⟨e0, e0.revised q s.civil, how, fun _ => rfl, fun hne => absurd h0 hne, (Entry.revised_name e0 q s.civil).trans ?_,
        h.entry, fun hm => Entry.revised_labelled hm hn0 hd0, hh.1, hh.2, State.leftStations_congr hset.stations ?_ fun st dl => ?_,
        hcl, fun _ => ⟨hset.entryKept not_false, hset.outs_same not_false⟩, fun hne => absurd h0 hne, fun hne => absurd h0 hne,
        fun hor => hnoted (hnotice.2 (hor.resolve_left fun hne => hne h0))⟩
      · cases q.name <;> rfl
      · exact ⟨fun hf => hf.elim, fun hc => hc.1 h0⟩
      · simp only [if_pos h0]
        rfl
    · have hphi : s.entries[i].phaseBy q ≠ s.entries[i].phi := fun g => h0 (sub_eq_zero.2 g)
      obtain ⟨m, how, k, hph, hentry, hset, hcl, hnoted⟩ := setFinish_moved_phase hlive hx hphi
      obtain ⟨hnum, hden, hpf, -, hslew, hpolicy, hlabel, -, -, hname⟩ := hph.plain
      have hmode : m.modeBy (q.label.bind labelModeOf) = mode := by
        simp only [Entry.modeBy, hnum, hden, hlabel]
        rfl
      have hr : m.revised q s.civil = { (if mode = e.label then { m with
            slew := (q.slew.map (clampNat 1 (e.pf / 4))).getD e.slew, policy := (q.policy.bind policyOf).getD e.policy }
          else Entry.withBases { m with
            slew := (q.slew.map (clampNat 1 (e.pf / 4))).getD e.slew, policy := (q.policy.bind policyOf).getD e.policy
            label := mode } s.civil) with name := (q.name.map nameField).getD e.name } := by
        have hreset : m.reset q = { m with
            slew := (q.slew.map (clampNat 1 (e.pf / 4))).getD e.slew
            policy := (q.policy.bind policyOf).getD e.policy } := by
          rw [Entry.reset, hpf, hslew, hpolicy]
          rfl
        have hmode' : (m.reset q).modeBy (q.label.bind labelModeOf) = mode := hmode
        have hlabel' : (m.reset q).label = e.label := hlabel
        rw [Entry.revised_name, Entry.relabelled, hmode', hlabel', hreset, hname]
        rfl
      refine ⟨m, m.revised q s.civil, how, fun g => absurd g h0, fun _ => hph.absorbed hn0 hd0, hr.trans ?_, hentry, fun hm => ?_,
        fun hc => hph.how_eq.1 ⟨hc.1, hsnaps.2 hc.2⟩, fun hc => hph.how_eq.2 fun g => hc ⟨g.1, hsnaps.1 g.2⟩,
        State.leftStations_congr hset.stations ?_ fun st dl => ?_, hcl, fun g => absurd g h0, fun _ hgone => hset.entryGone hgone,
        fun _ hkept => ⟨?_, fun o => ⟨fun ho => ?_, fun ho hm => ?_⟩⟩, fun _ => hnoted⟩
      · cases q.name <;> rfl
      · refine Entry.revised_labelled (fun g => hm ?_) (by rw [hnum]; exact hn0) (by rw [hden]; exact hd0)
        exact hmode.symm.trans (g.trans hlabel)
      · exact ⟨fun g => ⟨h0, g⟩, fun g => g.2⟩
      · simp only [if_neg h0]
      · rw [hset.entryKept hkept, (m.revised q s.civil).checked_eq]
      · by_cases hbound : s.outs[o].boundTo i = true
        · rw [hset.boundKept hkept o hbound]
          exact (hph.outs _).1 (ho.resolve_left fun g => by rw [hbound] at g; exact nomatch g)
        · exact hset.free o (by simpa using hbound)
      · rw [hset.boundKept hkept o ho]
        obtain ⟨g1, g2, g3⟩ := (hph.outs s.outs[o]).2 hm
        exact ⟨fun g => g1 fun g' => g (hsnaps.1 g'), fun g => g2 (hsnaps.2 g), fun g => g3 (hsnaps.2 g)⟩
  · intro v hq hv
    exact setFinish_same_phase hq hv
  · intro num den hrate hx pf fit ends
    obtain ⟨hn, hd⟩ := SetReq.rate_pos hb' hrate
    obtain ⟨hentry, hset, hcl, hnoted⟩ := setFinish_restart hrate hn hd hx
    obtain ⟨-, -, -, hwphi, hwslew, hwlabel, -, -⟩ :=
      Entry.restart_plain (e := e) (num := num) (den := den) (t := s.now) (c := s.civil)
    obtain ⟨k, hk, hfirst⟩ := Entry.restart_ks (e := e) (t := s.now) (c := s.civil) hn hd
    have hf := Entry.restartedBy_eq (e := e) (num := num) (den := den) (t := s.now) (c := s.civil) q
    have hks := Entry.restartedBy_ks (e := e) (t := s.now) (c := s.civil) q hn hd
    have hdress := Entry.revised_dressed ((e.restart num den s.now s.civil).rephased
      ((e.restart num den s.now s.civil).phaseBy q) s.now) q s.civil
    have hlabelled := Entry.restartedBy_labelled (e := e) (t := s.now) (c := s.civil) q hn hd
    have hphi : (e.restartedBy q num den s.now s.civil).phi = (e.restart num den s.now s.civil).phaseBy q := by
      rw [Entry.restart_phaseBy, hf]
    change e.restartedBy q num den s.now s.civil = Entry.dressed { Entry.rephased _ _ _ with
      slew := (e.restartedBy q num den s.now s.civil).slew } (e.restartedBy q num den s.now s.civil) at hdress
    refine ⟨e.restartedBy q num den s.now s.civil, hf.trans ?_, hks, hlabelled, hentry, ⟨k, fun j => ?_, ?_⟩, hset.entryGone,
      hset.entryKept, hcl.trans ?_, hset.free, fun o ho => ⟨_, s.outs[o].discard_emptied, fun he => ?_,
      fun he => hset.boundKept he o ho⟩, hnoted.1, hnoted.2⟩
    · cases q.name <;> rfl
    · rw [hfirst j, hwphi]
      rfl
    · intro r1 r2
      have hw1 : fit e.phi = (e.restart num den s.now s.civil).phi := hwphi.symm
      have hw2 : clampNat 1 (pf / 4) e.slew = (e.restart num den s.now s.civil).slew := hwslew.symm
      have hr1 : r1 = (e.restart num den s.now s.civil).dressed (e.restartedBy q num den s.now s.civil) := by
        simp only [r1, hw1, hw2, ← hk]
        exact Entry.dressed_before_phase hdress
      have hr2 : r2 = ((e.restart num den s.now s.civil).rephased ((e.restart num den s.now s.civil).phaseBy q) s.now).dressed
          (e.restartedBy q num den s.now s.civil) := by
        simp only [r2, hw2]
        exact Entry.dressed_before_slew hdress
      have hlast (st : Stream) (dl : Option Nat) : st.replan (.recompute r2) (e.restartedBy q num den s.now s.civil) dl s.now
          = st.replan (.recompute ((e.restart num den s.now s.civil).rephased
              ((e.restart num den s.now s.civil).phaseBy q) s.now))
            { (e.restart num den s.now s.civil).rephased ((e.restart num den s.now s.civil).phaseBy q) s.now with
              slew := (e.restartedBy q num den s.now s.civil).slew } dl s.now := by
        rw [hr2, Stream.replan_recompute_dressed]
        exact (congrArg (fun w => st.replan _ w dl s.now) hdress).trans (st.replan_dressed _ _ _ dl s.now)
      refine State.leftStations_congr hset.stations Iff.rfl fun st dl => ?_
      simp only [hlast, hphi, hw1]
      simp only [hr1, hr2, Stream.replan_dressed, Stream.replan_recompute_dressed]
      rfl
    · rw [hphi, hwphi, hwslew, hwlabel]
      simp only [or_assoc]
      rfl
    · rw [hset.boundGone he o ho, Output.unbind_eq, Output.discard_discard]

end

end Sys2Proof.Machine

/-! PROOFS. O59: what follows when a timer runs out. -/

namespace Sys2Proof.Machine

open Sys2Proof Config

section

variable {s u v : State} {x y : Addr}

/-! ## Stations that turn SILENT (R135, R129) -/

/-- R135: the record of a station that enters SILENT at instant `now`, in cycle `c`. -/
def Station.silenced (r : Station) (now c : Nat) : Station :=
  { r with state := .silent, silentSince := some now, orphanStart := some c, reRangeStart := none
           stream := r.stream.map fun st => st.suspend c }

theorem State.silence_stations_at (s : State) (x y : Addr) : (s.silence x).stations[y] =
    if y = x then s.stations[x].silenced s.now s.cycle else s.stations[y] := by
  have h : (s.silence x).stations = (s.setStation x (s.stations[x].silenced s.now s.cycle)).stations :=
    (State.raise_sameBut _ Cause.stations) .stations (by decide)
  simp only [h, Fin.getElem_fin, State.setStation_get]

theorem State.silence_raises (s : State) (x : Addr) : s.Raises (s.silence x) [.stations] :=
  ((s.setStation_sameBut x (s.stations[x].silenced s.now s.cycle)).raises (by decide)).trans (State.raise_raises _ (.head _))

/-- R129: a station that is on the line. -/
abbrev State.onLine (s : State) (x : Addr) : Prop := s.stations[x].state = .present ∨ s.stations[x].state = .joining

/-- The stations of `l` that are on the line turn SILENT. -/
theorem silenceAll {l : List Addr} (hl : l.Nodup) (s : State) : ∃ v,
    l.foldl (fun s x => if s.stations[x].state = .present ∨ s.stations[x].state = .joining then s.silence x else s) s = v
    ∧ (∀ y ∈ l, s.onLine y → v.stations[y] = s.stations[y].silenced s.now s.cycle ∧ v.shows .stations)
    ∧ (∀ y : Addr, ¬(y ∈ l ∧ s.onLine y) → v.stations[y] = s.stations[y])
    ∧ s.Raises v [.stations] ∧ s.sameBut [.stations, .attn] v := by
  induction l generalizing s with
  | nil => exact ⟨s, rfl, nofun, fun _ _ => rfl, .refl s, .refl s _⟩
  | cons x l ih =>
    obtain ⟨hx, hl'⟩ := List.nodup_cons.1 hl
    by_cases hon : s.onLine x
    · obtain ⟨v, hv, hin, hout, hr, hs⟩ := ih hl' (s.silence x)
      have hsame := s.silence_sameBut x
      have htime : (s.silence x).now = s.now ∧ (s.silence x).cycle = s.cycle := by
        have h1 : (s.silence x).tb = s.tb := hsame .tb (by decide)
        exact ⟨by rw [State.now, State.now, h1], hsame .cycle (by decide)⟩
      have hne (y : Addr) (hy : y ≠ x) : (s.silence x).stations[y] = s.stations[y] :=
        (s.silence_stations_at x y).trans (if_neg hy)
      refine ⟨v, ?_, fun y hy hony => ?_, fun y hy => ?_, (s.silence_raises x).trans hr, hsame.comp hs⟩
      · rw [List.foldl_cons, if_pos hon]; exact hv
      · rcases List.mem_cons.1 hy with rfl | hy
        · refine ⟨?_, hr.kept _ (State.raise_shows _ _)⟩
          rw [hout y fun g => hx g.1, s.silence_stations_at, if_pos rfl]
        · have hyx : y ≠ x := fun g => hx (g ▸ hy)
          have h1 := hin y hy (by rw [State.onLine, hne y hyx]; exact hony)
          rw [hne y hyx, htime.1, htime.2] at h1
          exact h1
      · have hyx : y ≠ x := fun g => hy ⟨g ▸ List.mem_cons_self, g ▸ hon⟩
        rw [hout y fun g => hy ⟨List.mem_cons_of_mem _ g.1, by rw [State.onLine, hne y hyx] at g; exact g.2⟩, hne y hyx]
    · obtain ⟨v, hv, hin, hout, hr, hs⟩ := ih hl' s
      refine ⟨v, ?_, fun y hy hony => ?_, fun y hy => hout y fun g => hy ⟨List.mem_cons_of_mem _ g.1, g.2⟩, hr, hs⟩
      · rw [List.foldl_cons, if_neg hon]; exact hv
      · rcases List.mem_cons.1 hy with rfl | hy
        · exact absurd hony hon
        · exact hin y hy hony

/-- R129: the chain enters BROKEN. -/
theorem State.enterBroken_eq (s : State) : ∃ v, s.enterBroken = v
    ∧ (∀ y, s.onLine y → v.stations[y] = (s.abortTx.stations[y]).silenced s.now s.cycle ∧ v.shows .stations)
    ∧ (∀ y, ¬s.onLine y → v.stations[y] = s.abortTx.stations[y])
    ∧ v.shows .chain ∧ v.chain.line.broken = min 65535 (s.chain.line.broken + 1)
    ∧ v.chain.state = .broken ∧ v.chain.svc = none ∧ v.chain.liveStart = s.chain.liveStart
    ∧ v.chain.tx = none ∧ v.chain.cut = s.abortTx.chain.cut ∧ v.chain.lineBase = s.abortTx.chain.lineBase
    ∧ s.sameBut [.chain, .stations, .attn] v := by
  obtain ⟨re, cut, base, habort⟩ := s.abortTx_chain
  have hchain : (s.leaveChain .broken).chain = { s.abortTx.chain with state := .broken, svc := none, chosen := none } :=
    (State.raise_sameBut _ Cause.chain) .chain (by decide)
  have hsame := (s.leaveChain_sameBut .broken).comp
    ((State.countLine_sameBut (s.leaveChain .broken) fun c => { c with broken := satAdd counterTop c.broken 1 }).mono (by decide))
  obtain ⟨v, hv, hin, hout, hr, hs⟩ := silenceAll (List.nodup_finRange 30)
    ((s.leaveChain .broken).countLine fun c => { c with broken := satAdd counterTop c.broken 1 })
  have hst : (s.leaveChain .broken).stations = s.abortTx.stations := s.leaveChain_stations .broken
  have hon (y : Addr) : ((s.leaveChain .broken).countLine fun c =>
      { c with broken := satAdd counterTop c.broken 1 }).onLine y ↔ s.onLine y := by
    show (s.leaveChain .broken).onLine y ↔ s.onLine y
    rw [State.onLine, State.onLine, hst, s.abortTx_stations_at y]
  have htime : (s.leaveChain .broken).now = s.now ∧ (s.leaveChain .broken).cycle = s.cycle := by
    have h1 : (s.leaveChain .broken).tb = s.tb := (s.leaveChain_sameBut .broken) .tb (by decide)
    exact ⟨by rw [State.now, State.now, h1], (s.leaveChain_sameBut .broken) .cycle (by decide)⟩
  have hvc : v.chain = ((s.leaveChain .broken).countLine fun c => { c with broken := satAdd counterTop c.broken 1 }).chain :=
    hs .chain (by decide)
  refine ⟨v, hv, fun y hy => ?_, fun y hy => ?_, hr.kept _ (s.leaveChain_shows .broken), ?_, ?_, ?_, ?_, ?_, ?_, ?_,
    hsame.comp (hs.mono (by decide))⟩
  · have h1 := hin y (List.mem_finRange y) ((hon y).2 hy)
    have h2 : v.stations[y] = ((s.leaveChain .broken).stations[y]).silenced (s.leaveChain .broken).now
      (s.leaveChain .broken).cycle := h1.1
    rw [htime.1, htime.2, hst] at h2
    exact ⟨h2, h1.2⟩
  · have h2 : v.stations[y] = (s.leaveChain .broken).stations[y] := hout y fun g => hy ((hon y).1 g.2)
    rw [h2, hst]
  all_goals rw [hvc, State.countLine, hchain, habort]
  rfl

/-! ## What CTX carries after a cut (R124) -/

theorem State.ctxHigh_cut {w : CutFrame} (hr : s.resetPin = false) (htx : s.chain.tx = none) (hc : s.chain.cut = some w)
    (hb : s.chain.lineBase = w.stop) (c : Nat) : State.ctxHigh { s with cycle := c } =
    if c < w.start then w.bit
    else if c < w.start + 45 then true
    else ([false, true, true, true, true, true, true, true, true, false] : List Bool).getD
      ((c - (w.start + 45)) / 5 % 10) false := by
  simp only [State.ctxHigh, hr, htx, hc, hb]
  rfl

theorem State.abortTx_cut_frame {f : TxFrame} (hf : s.chain.tx = some f) :
    s.abortTx.chain.cut = some (s.cutOf f) ∧ s.abortTx.chain.lineBase = (s.cutOf f).stop := by
  by_cases hr : f.kind = .report ∧ f.live = true
  · rw [State.abortTx_report hf hr]
    exact ⟨rfl, rfl⟩
  · rw [State.abortTx_other hf hr]
    exact ⟨rfl, rfl⟩

/-- R124: the nine 1s begin at the end of the bit that is on the line. -/
theorem State.cutOf_start {f : TxFrame} (hf : f.startCycle ≤ s.cycle) : s.cycle ≤ (s.cutOf f).start
    ∧ (s.cutOf f).start < s.cycle + 5 ∧ ((s.cutOf f).start - f.startCycle) % 5 = 0 := by
  simp only [State.cutOf, ceilDiv, cyclesPerBit]
  omega

/-- R124: where the last bit of a service frame, which lies up to `base`, ends on the line. -/
def State.cutLast (s : State) (base : Nat) : CutFrame :=
  { bit := false, start := base - cyclesPerBit * ((base - s.cycle) / cyclesPerBit) }

theorem State.abortTx_cut_last (hf : s.chain.tx = none) (hc : s.chain.cut = none) (hl : s.cycle < s.chain.lineBase) :
    s.abortTx.chain.cut = some (s.cutLast s.chain.lineBase)
    ∧ s.abortTx.chain.lineBase = (s.cutLast s.chain.lineBase).stop := by
  have hlast : s.lastBit = true := by simp [State.lastBit, hc, hl]
  rw [State.abortTx_none hf, if_pos hlast]
  exact ⟨rfl, rfl⟩

theorem State.cutLast_start {base : Nat} (h1 : s.cycle < base) (h2 : base ≤ s.cycle + 5) : s.cycle ≤ (s.cutLast base).start
    ∧ (s.cutLast base).start < s.cycle + 5 ∧ (s.cutLast base).start ≤ base ∧ (base - (s.cutLast base).start) % 5 = 0 := by
  simp only [State.cutLast, cyclesPerBit]
  omega

/-! ## Orphans (R21, R136) -/

theorem State.retireOwned_entry {i : Idx} (h : ¬(s.entries[i].state ≠ .vacant ∧ s.entries[i].owner = .station x)) :
    (s.retireOwned x).entries[i] = s.entries[i] := by
  have hfold (l : List Idx) (u : State) (hu : u.entries[i] = s.entries[i]) : (l.foldl (fun s i =>
      if s.entries[i].state ≠ .vacant ∧ s.entries[i].owner = .station x then s.retire i else s) u).entries[i] = s.entries[i] := by
    induction l generalizing u with
    | nil => exact hu
    | cons j l ih =>
      rw [List.foldl_cons]
      refine ih _ ?_
      split
      · next hj =>
        have hij : i ≠ j := fun g => h (by rw [← hu, g]; exact hj)
        exact (State.retire_ne hij).trans hu
      · exact hu
  exact hfold _ s rfl

theorem State.stationAbsent_entry (hw : s.watchInv) {i : Idx}
    (h : ¬(s.entries[i].state ≠ .vacant ∧ s.entries[i].owner = .station x)) :
    (s.stationAbsent x).entries[i] = { s.entries[i] with watchers := s.entries[i].watchers.erase x } := by
  have hwatch : (s.retireOwned x).watchInv := (s.retireOwned_sound x).watch hw
  obtain ⟨w, hv, hsame, -⟩ := ((s.retireOwned x).unwatchAll x).clearStation_eq x
  have h1 : (s.stationAbsent x).entries = ((s.retireOwned x).unwatchAll x).entries := by
    have h2 : s.stationAbsent x = w.raise .stations := hv
    rw [h2, (w.raise_sameBut .stations) .entries (by decide)]
    exact hsame .entries (by decide)
  have hent := (s.retireOwned x).unwatchAll_entries_at x i
  have hstay : (s.retireOwned x).entries[i.val] = s.entries[i.val] := State.retireOwned_entry h
  simp only [Fin.getElem_fin, h1, hent, hstay]
  by_cases hm : i ∈ (s.retireOwned x).stations[x.val].watchList
  · rw [if_pos hm]
  · rw [if_neg hm]
    have hx : x ∉ s.entries[i.val].watchers := fun g => hm ((hwatch.1 i x).1 (by
      simp only [Fin.getElem_fin, hstay]; exact g))
    rw [List.erase_of_not_mem hx]

/-! ## The statement -/

theorem State.counted_iff {start : Option Nat} {n : Nat} :
    s.counted start n = true ↔ ∃ c, start = some c ∧ n ≤ s.cycle - c := by
  rw [State.counted, Option.any_eq_true]
  simp only [decide_eq_true_eq]

/-- R171: a raised cause that is masked asserts ATTN. -/
theorem State.raise_asserts {c : Cause} (hc : ¬s.shows c) (hm : s.attn.mask.has c = true) : (s.raise c).attnAsserted = true := by
  rw [State.raise_of_not_shows hc]
  simp only [State.attnAsserted]
  cases hmode : s.attn.mode with
  | level =>
    simp only [CauseSet.meets]
    cases c <;> simp_all [CauseSet.put, CauseSet.has]
  | pulse => simp [hm]

theorem State.silenceDue_iff : s.silenceDue = true ↔
    (s.chain.state = .running ∨ s.chain.liveStart.isSome = true) ∧ 125000 ≤ s.cycle - s.chain.silenceStart := by
  simp only [State.silenceDue, Bool.and_eq_true, Bool.or_eq_true, decide_eq_true_eq]

/-- Settles O59: each timer by what its expiry does. -/
theorem timersRunOut : Obligations.TimersRunOut := by
  unfold Obligations.TimersRunOut
  intro s x hreset r
  have hexec (f : State → State) : (Host.Outcome.next (s.whenReleased f) : Host.Outcome State Fault Refusal) = .next (f s) := by
    rw [State.whenReleased_deasserted hreset]
  have hsilence : exec .silenceTimerExpiry s = .next (if s.silenceDue then s.silenceExpire else s) := hexec _
  refine ⟨fun hrun hle => ?_, fun hrun hle => ?_, fun hlt => ?_, fun a d hb ha hd hgap hle => ?_, fun c hst hc hle howned hwatch => ?_,
    fun c hst hc hle => ?_, fun st c hst hsus hc hle => ?_, fun c hc hle => ?_, fun c hc => ⟨fun hle => ?_, fun hlt => ?_⟩,
    fun c hc => State.raise_of_shows hc, fun c hc => ⟨State.raise_shows s c, fun d hd => ?_, State.raise_asserts hc, ?_, ?_,
      State.raise_sameBut s c⟩⟩
  · obtain ⟨v, hv, hon, hoff, hshows, hline, hstate, hsvc, hlive, htx, hcut, hbase, hsame⟩ :=
      State.enterBroken_eq { s with chain := { s.chain with liveStart := none } }
    have hdue : s.silenceDue = true := State.silenceDue_iff.2 ⟨.inl hrun, by omega⟩
    have hx : s.silenceExpire = v := (if_pos hrun).trans hv
    have hstation : ({ s with chain := { s.chain with liveStart := none } } : State).abortTx.stations[x] = _ :=
      State.abortTx_stations_at _ x
    have hv1 : v.resetPin = false := (hsame .resetPin (by decide)).trans hreset
    refine ⟨v, ?_, hstate, hsvc, htx, hlive, hshows, hline, ?_, fun hxon => ?_, fun f hf hfs => ?_, fun h1 h2 h3 h4 => ?_,
      fun h1 h2 => ?_⟩
    · rw [hsilence, if_pos hdue, hx]
    · exact ((State.setChain_sameBut s _).mono (by decide)).comp hsame
    · obtain ⟨hrec, hsh⟩ := hon x hxon.symm
      rw [hstation] at hrec
      refine ⟨by rw [hrec]; rfl, by rw [hrec]; rfl, by rw [hrec]; rfl, by rw [hrec]; rfl, by rw [hrec]; rfl, hsh, ?_⟩
      rw [hrec]
      refine Option.map_map _ _ _ |>.trans (congrArg (Option.map · r.stream) (funext fun st => ?_))
      by_cases hcut : s.cutsReport x
      · have h1 : ({ s with chain := { s.chain with liveStart := none } } : State).cutsReport x := hcut
        have h2 : ∃ f, s.chain.tx = some f ∧ f.kind = .report ∧ f.live = true ∧ f.addr = x := hcut
        simp only [Function.comp, if_pos h1, if_pos h2]
        rfl
      · have h1 : ¬({ s with chain := { s.chain with liveStart := none } } : State).cutsReport x := hcut
        have h2 : ¬∃ f, s.chain.tx = some f ∧ f.kind = .report ∧ f.live = true ∧ f.addr = x := hcut
        simp only [Function.comp, if_neg h1, if_neg h2]
        rfl
    · obtain ⟨h1, h2⟩ := State.abortTx_cut_frame (s := { s with chain := { s.chain with liveStart := none } }) hf
      obtain ⟨g1, g2, g3⟩ := State.cutOf_start hfs
      refine ⟨(s.cutOf f).start, g1, g2, g3, hbase.trans h2, fun c _ => ?_⟩
      exact State.ctxHigh_cut hv1 htx (hcut.trans h1) (hbase.trans h2) c
    · obtain ⟨k1, k2⟩ := State.abortTx_cut_last (s := { s with chain := { s.chain with liveStart := none } }) h1 h2 h3
      obtain ⟨g1, g2, g3, g4⟩ := State.cutLast_start h3 h4
      refine ⟨(s.cutLast s.chain.lineBase).start, g1, g2, g3, g4, hbase.trans k2, fun c _ => ?_⟩
      exact State.ctxHigh_cut hv1 htx (hcut.trans k1) (hbase.trans k2) c
    · have hrec := hoff x fun g => g.elim h2 h1
      rw [hrec, hstation]
      exact ⟨rfl, rfl, rfl, rfl⟩
  · rw [hsilence]
    by_cases hl : s.chain.liveStart.isSome = true
    · rw [if_pos (State.silenceDue_iff.2 ⟨.inr hl, by omega⟩), State.silenceExpire, if_neg hrun]
    · have hn : s.chain.liveStart = none := by simpa using hl
      rw [if_neg fun g => (State.silenceDue_iff.1 g).1.elim hrun hl, ← hn]
  · rw [hsilence, if_neg fun g => ?_]
    have := (State.silenceDue_iff.1 g).2
    omega
  · have hlive : ∃ n, s.liveRun = some n ∧ liveRunGoal ≤ n :=
      s.liveRun_reaches.2 ⟨a, d, ha, hd, by omega, by omega⟩
    have hdue : s.liveDue = true := by
      obtain ⟨n, hn, hg⟩ := hlive
      simp [State.liveDue, hb, hn, hg]
    have hx : exec .liveRunReached s = .next (if s.liveDue then s.enterRunning else s) := hexec _
    refine ⟨s.enterRunning, by rw [hx, if_pos hdue], (State.raise_sameBut _ Cause.chain) .chain (by decide),
      State.raise_shows _ _, s.enterRunning_sameBut⟩
  · have hdue : s.orphanDue x = true := by
      simp only [State.orphanDue, Bool.and_eq_true, decide_eq_true_eq, State.counted_iff]
      exact ⟨hst, c, hc, Nat.le_sub_of_add_le (by rw [Nat.add_comm]; exact hle)⟩
    have hx : exec (.orphanTimerExpiry x) s = .next (if s.orphanDue x then s.stationAbsent x else s) := hexec _
    have hout := s.stationAbsent_takesOut x
    refine ⟨s.stationAbsent x, by rw [hx, if_pos hdue], hout.cleared howned hwatch x rfl, hout.shows x rfl, fun i hi =>
      ⟨fun ho => hout.went i ⟨hi, ho⟩, fun ho => State.stationAbsent_entry hwatch fun g => ho g.2⟩, hout.same⟩
  · have hdue : s.conflictDue x = true := by
      simp only [State.conflictDue, Bool.and_eq_true, decide_eq_true_eq, State.counted_iff]
      exact ⟨hst, c, hc, Nat.le_sub_of_add_le (by rw [Nat.add_comm]; exact hle)⟩
    have hx : exec (.conflictTimerExpiry x) s = .next (if s.conflictDue x then s.conflictOver x else s) := hexec _
    refine ⟨s.conflictOver x, by rw [hx, if_pos hdue], State.raise_shows _ _,
      (State.raise_sameBut _ Cause.stations) .stations (by decide), ?_⟩
    exact ((s.setStation_sameBut x _).trans (State.raise_sameBut _ _)).mono (by decide)
  · have hdue : s.holdDue x = some st := by
      have hr : s.stations[x].stream = some st := hst
      simp only [State.holdDue, hr]
      exact if_pos ⟨hsus, State.counted_iff.2 ⟨c, hc, Nat.le_sub_of_add_le (by rw [Nat.add_comm]; exact hle)⟩⟩
    have hx : exec (.streamHoldExpiry x) s = .next (s.holdOver x st) := by
      refine (hexec _).trans ?_
      rw [hdue]
    have hat : (s.holdOver x st).stations[x] = { r with
        stream := none, notices := insertIdx st.entry.index r.notices } := by
      simp only [State.holdOver, Fin.getElem_fin, State.setStation_get, State.closeStream_at, if_true]
      rfl
    refine ⟨s.holdOver x st, hx, by rw [hat], fun i => by rw [hat]; exact mem_insertIdx _ _ _, fun y hy => ?_, ?_⟩
    · exact (State.setStation_ne _ x y _ hy).trans (s.closeStream_ne hy)
    · exact ((s.closeStream_sameBut x).trans (State.setStation_sameBut _ x _)).mono (by decide)
  · have hdue : s.reRangeDue x = true :=
      State.counted_iff.2 ⟨c, hc, Nat.le_sub_of_add_le (by rw [Nat.add_comm]; exact hle)⟩
    exact (hexec _).trans (congrArg _ (if_pos hdue))
  · have hdue : s.pulseDue = true := by
      simp only [State.pulseDue, hc, Option.any_some, decide_eq_true_eq]
      exact Nat.le_sub_of_add_le (by rw [Nat.add_comm]; exact hle)
    exact (hexec _).trans (congrArg _ (if_pos hdue))
  · have hdue : ¬s.pulseDue = true := by
      simp only [State.pulseDue, hc, Option.any_some, decide_eq_true_eq, attnPulse]
      omega
    exact (hexec _).trans (congrArg _ (if_neg hdue))
  · exact (s.raise_shows_iff c d).trans ⟨fun g => g.resolve_left hd, .inr⟩
  · exact (State.raise_raises s (List.mem_singleton_self c)).mask
  · exact (State.raise_raises s (List.mem_singleton_self c)).mode

end

end Sys2Proof.Machine

/-! PROOFS. O58: reports start, drop and end. -/

namespace Sys2Proof.Machine

open Sys2Proof Config

/-! ## What a choice keeps (R153) -/

theorem searchLeast_ge (p : Nat → Bool) (n : Nat) {lo hi : Nat} (h : lo ≤ hi) : lo ≤ searchLeast p n lo hi := by
  induction n generalizing lo hi with
  | zero => exact h
  | succ n ih =>
    unfold searchLeast
    split
    · exact h
    · next hlt =>
      split
      · exact ih (by omega)
      · exact le_trans (by omega) (ih (lo := (lo + hi) / 2 + 1) (by omega))

section

variable {st : Stream} {e : Entry} {d : Nat} {t : Int} {k : Nat}

/-- A choice that is not counted leaves the skipped count. -/
theorem Stream.choose_uncounted (st : Stream) (e : Entry) (delta : Option Nat) (t : Int) (above : Option Nat) :
    st.choose e delta t above false = { st with
      kr := (st.choose e delta t above false).kr, s0 := (st.choose e delta t above false).s0 } := by
  cases delta with
  | none => rfl
  | some d =>
    rw [Stream.choose_some]
    split <;> rfl

theorem Stream.choose_none (st : Stream) (e : Entry) (t : Int) (above : Option Nat) (counted : Bool) :
    st.choose e none t above counted = { st with kr := none, s0 := none } := rfl

/-- R153: kr lies above the previous one, where one is given. -/
theorem Stream.choose_above (hs : 1 ≤ st.step) {counted : Bool} {j : Nat}
    (h : (st.choose e (some d) t (some k) counted).kr = some j) : k < j := by
  rw [Stream.choose_some] at h
  split at h
  · exact nomatch h
  · have hj : st.found e d t (some k) * st.step = j := Option.some.inj h
    have hlow : st.lowest e (some k) ≤ st.found e d t (some k) := searchLeast_ge _ _ (Nat.le_max_left ..)
    rw [← hj]
    exact ((Stream.lowest_le_iff hs _).1 hlow).2 k rfl

end

/-! ## The report that goes first (R146) -/

section

variable {s : State} {x : Addr}

/-- Report `b`, if there is one, goes first among the scheduled reports of `l`. -/
def State.leads (s : State) (l : List Addr) (b : Option (Addr × Int)) : Prop :=
  match b with
  | none => ∀ y ∈ l, s.holdsReport y = none
  | some (x, t) => x ∈ l ∧ s.holdsReport x = some t ∧ ∀ y ∈ l, ∀ u, s.holdsReport y = some u → y ≠ x → t < u ∨ t = u ∧ x < y

theorem State.leads_step {l : List Addr} {b : Option (Addr × Int)} (h : s.leads l b) (hx : ∀ y ∈ l, y < x) :
    s.leads (l ++ [x]) (earlierReport s b x) := by
  unfold earlierReport
  cases hr : s.holdsReport x with
  | none =>
    cases b with
    | none =>
      intro y hy
      rcases List.mem_append.1 hy with hy | hy
      · exact h y hy
      · rw [List.mem_singleton.1 hy]; exact hr
    | some b =>
      obtain ⟨h1, h2, h3⟩ := h
      refine ⟨List.mem_append_left _ h1, h2, fun y hy u hu hne => ?_⟩
      rcases List.mem_append.1 hy with hy | hy
      · exact h3 y hy u hu hne
      · rw [List.mem_singleton.1 hy, hr] at hu; exact nomatch hu
  | some t =>
    cases b with
    | none =>
      refine ⟨List.mem_append_right _ (List.mem_singleton_self x), hr, fun y hy u hu hne => ?_⟩
      rcases List.mem_append.1 hy with hy | hy
      · rw [h y hy] at hu; exact nomatch hu
      · exact absurd (List.mem_singleton.1 hy) hne
    | some b =>
      obtain ⟨y0, u0⟩ := b
      obtain ⟨h1, h2, h3⟩ := h
      by_cases hlt : t < u0
      · simp only [if_pos hlt]
        refine ⟨List.mem_append_right _ (List.mem_singleton_self x), hr, fun y hy u hu hne => ?_⟩
        rcases List.mem_append.1 hy with hy | hy
        · by_cases hy0 : y = y0
          · rw [hy0, h2] at hu
            cases hu
            exact .inl hlt
          · rcases h3 y hy u hu hy0 with g | g
            · exact .inl (hlt.trans g)
            · exact .inl (g.1 ▸ hlt)
        · exact absurd (List.mem_singleton.1 hy) hne
      · simp only [if_neg hlt]
        refine ⟨List.mem_append_left _ h1, h2, fun y hy u hu hne => ?_⟩
        rcases List.mem_append.1 hy with hy | hy
        · exact h3 y hy u hu hne
        · rw [List.mem_singleton.1 hy] at hu ⊢
          rw [hr] at hu
          cases hu
          rcases lt_or_eq_of_le (not_lt.1 hlt) with g | g
          · exact .inl g
          · exact .inr ⟨g, hx y0 h1⟩

theorem State.leads_foldl (s : State) (l r : List Addr) (b : Option (Addr × Int)) (hb : s.leads l b)
    (hp : (l ++ r).Pairwise (· < ·)) : s.leads (l ++ r) (r.foldl (earlierReport s) b) := by
  induction r generalizing l b with
  | nil => simpa using hb
  | cons x r ih =>
    have hx : ∀ y ∈ l, y < x := fun y hy => (List.pairwise_append.1 hp).2.2 y hy x List.mem_cons_self
    have h := ih (l ++ [x]) _ (State.leads_step hb hx) (by simpa using hp)
    simpa using h

theorem State.firstReport_leads (s : State) : s.leads (List.finRange 30) s.firstReport :=
  s.leads_foldl [] (List.finRange 30) none nofun (by simpa using List.pairwise_lt_finRange 30)

/-- R146: the earliest report, the lower address first, is the one that goes first. -/
theorem State.firstReport_eq {t : Int} (hx : s.holdsReport x = some t)
    (h : ∀ (y : Addr) (u : Int), s.holdsReport y = some u → y ≠ x → t < u ∨ t = u ∧ x < y) : s.firstReport = some (x, t) := by
  have hl := s.firstReport_leads
  cases hf : s.firstReport with
  | none =>
    rw [hf] at hl
    rw [hl x (List.mem_finRange x)] at hx
    exact nomatch hx
  | some b =>
    obtain ⟨y, u⟩ := b
    rw [hf] at hl
    obtain ⟨-, h2, h3⟩ := hl
    by_cases hy : y = x
    · subst hy
      rw [h2] at hx
      cases hx
      rfl
    · rcases h y u h2 hy with g | g
      · rcases h3 x (List.mem_finRange x) t hx (Ne.symm hy) with k | k <;> omega
      · rcases h3 x (List.mem_finRange x) t hx (Ne.symm hy) with k | k
        · omega
        · exact absurd (lt_trans g.2 k.2) (lt_irrefl _)

/-! ## The statement -/

theorem State.lineFree_iff (s : State) : s.lineFree = true ↔
    s.chain.tx = none ∧ s.chain.lineBase ≤ s.cycle ∧ (s.cycle - s.chain.lineBase) % 50 = 0 := by
  simp only [State.lineFree, Bool.and_eq_true, decide_eq_true_eq, Option.isNone_iff_eq_none, and_assoc]

/-- R154: a report that is dropped. -/
theorem State.dropReport_stations (s : State) (x : Addr) (st : Stream) (k : Nat) (y : Addr) :
    (s.dropReport x st k).stations[y] = if y = x then { s.stations[x] with
        stream := some (Stream.choose { st with skipped := min 255 (st.skipped + 1) } s.entries[st.entry.index]
          s.stations[x].delta s.now (some k) false) }
      else s.stations[y] :=
  State.setStation_get _ _ _ _

theorem State.finishReport_live {f : TxFrame} {st : Stream} (hst : s.stations[f.addr].stream = some st) (hl : f.live = true) :
    s.finishReport f = State.setStation f.addr { s.stations[f.addr] with
        stream := some (st.reported f.mark s.entries[st.entry.index] s.stations[f.addr].delta s.now) }
      { s with chain := { s.chain with
          tx := none, lineBase := f.startCycle + 5 * f.bits, reportEnd := some (f.startCycle + 5 * f.bits) } } := by
  simp only [State.finishReport, hst, hl, if_true]

theorem State.finishReport_closed {f : TxFrame} (hl : f.live = false) : s.finishReport f = { s with chain := { s.chain with
    tx := none, lineBase := f.startCycle + 5 * f.bits, reportEnd := some (f.startCycle + 5 * f.bits) } } := by
  simp only [State.finishReport, hl, Bool.false_eq_true, if_false]
  split <;> rfl

theorem exec_reportSent {f : TxFrame} (hr : s.resetPin = false) (hf : s.chain.tx = some f) (hk : f.kind = .report)
    (hle : f.startCycle + 5 * f.bits ≤ s.cycle) : exec .reportSent s = .next (s.finishReport f) := by
  have hover : s.reportOver = some f := by
    simp only [State.reportOver, hf]
    exact if_pos ⟨hk, hle⟩
  have h : exec .reportSent s = execReportSent s := rfl
  rw [h, execReportSent, State.whenReleased_deasserted hr, hover]

end

/-- Settles O58: the report that goes first starts or is dropped, and what follows the sending of one. -/
theorem reportsStartAndEnd : Obligations.ReportsStartAndEnd := by
  unfold Obligations.ReportsStartAndEnd
  refine ⟨fun s x st hreset hst hstep => ⟨?_, ?_⟩, fun s f hreset hf hk hl hle => ?_⟩
  · intro s0 k d hs0 hk hd hrun htx hbase hmod hgap hstart hfirst e label body dropped
    have hdue : s.reportDue = some x := by
      have hg : s.gapOver = true := by
        simp only [State.gapOver, Option.all_eq_true, decide_eq_true_eq]
        exact hgap
      simp only [State.reportDue, State.firstReport_eq hs0 hfirst]
      exact if_pos ⟨hrun, s.lineFree_iff.2 ⟨htx, hbase, hmod⟩, hg, hstart⟩
    have hexec : exec .reportStart s = .next (if s.countdown e k d < 2000 then s.dropReport x st k
        else s.sendReport x st k (s.countdown e k d)) := by
      have h : exec .reportStart s = execReportStart s := rfl
      rw [h, execReportStart, State.whenReleased_deasserted hreset, hdue]
      simp only [State.startReport, hst, hk, hd]
      rfl
    have hbody (count : Int) : reportBody st e k count s.quality = body count := by
      have hlabel : labelOctets (e.labelAt k) = label := by
        simp only [label]
        cases e.labelAt k <;> rfl
      simp only [reportBody, body, hlabel]
      rfl
    have hdrop (h : s.countdown e k d < 2000) : dropped := by
      have hx : (s.dropReport x st k).stations[x] = _ := (s.dropReport_stations x st k x).trans (if_pos rfl)
      rw [hd] at hx
      refine ⟨s.dropReport x st k, _, by rw [hexec, if_pos h], htx, rfl, hx, ?_, rfl, ?_, fun k' hk' =>
          Stream.choose_above (st := { st with skipped := min 255 (st.skipped + 1) }) hstep hk',
        fun y hy => (s.dropReport_stations x st k y).trans (if_neg hy), ?_⟩
      · rw [Stream.choose_uncounted]
      · rw [Stream.choose_uncounted]
      · exact ((s.setStation_sameBut x _).trans (State.countLine_sameBut _ _)).mono (by decide)
    refine ⟨fun a ha => ?_, fun a hkm hkl hlm hnow => ?_⟩
    · have hinst : e.reportInstant k = a := by
        rcases ha with ⟨h1, h2⟩ | ⟨h1, -, h3⟩
        · rw [Entry.reportInstant_ahead h1, h2]
        · exact Entry.reportInstant_past h1 h3
      have hcount : s.countdown e k d = a - (s.now + 360) - d := by
        rw [State.countdown, hinst]
        rfl
      intro count
      refine ⟨fun h => ?_, fun h => hdrop (by rw [hcount]; exact h)⟩
      rw [hexec, if_neg (by rw [hcount]; exact not_lt.2 h), State.sendReport, hbody, hcount]
      rfl
    · refine hdrop ?_
      rw [State.countdown, Entry.reportInstant_past hkm hlm]
      push_cast
      omega
  · intro f hf hk hx hl hle
    subst hx
    have hst' : s.stations[f.addr].stream = some st := hst
    refine ⟨s.finishReport f, st.reported f.mark s.entries[st.entry.index] s.stations[f.addr].delta s.now,
      exec_reportSent hreset hf hk hle, ?_⟩
    rw [State.finishReport_live hst hl]
    have huncounted := Stream.choose_uncounted { st with last := some f.mark, skipped := 0 } s.entries[st.entry.index]
      s.stations[f.addr].delta s.now (if st.kr = some f.mark then some f.mark else none)
    have hkeep : st.reported f.mark s.entries[st.entry.index] s.stations[f.addr].delta s.now = { st with
        last := some f.mark, skipped := 0
        kr := (st.reported f.mark s.entries[st.entry.index] s.stations[f.addr].delta s.now).kr
        s0 := (st.reported f.mark s.entries[st.entry.index] s.stations[f.addr].delta s.now).s0 } := huncounted
    refine ⟨rfl, rfl, rfl, ?_, by rw [hkeep], by rw [hkeep], by rw [hkeep], by rw [hkeep], by rw [hkeep], by rw [hkeep],
      by rw [hkeep], fun hn => ?_, ?_, fun y hy => ?_, ?_⟩
    · exact State.setStation_at _ _ _
    · rw [hn]
      exact ⟨rfl, rfl⟩
    · intro delay hd e fits hn hden hpf hslew hperiod
      obtain ⟨k, hfits, hleast, hval⟩ := Stream.choose_least (st := { st with last := some f.mark, skipped := 0 })
        (e := e) ⟨hn, hden, hpf, hslew, hperiod⟩ hstep delay s.now (if st.kr = some f.mark then some f.mark else none) false
      have hiff (j : Nat) : Stream.fits { st with last := some f.mark, skipped := 0 } e delay s.now
          (if st.kr = some f.mark then some f.mark else none) j ↔ fits j := by
        have habove : (∀ i, (if st.kr = some f.mark then some f.mark else none) = some i → i < j)
            ↔ (st.kr = some f.mark → f.mark < j) := by
          by_cases hkr : st.kr = some f.mark
          · simp [hkr]
          · simp [hkr]
        exact and_congr_right fun _ => and_congr_right fun _ => and_congr_left fun _ => habove
      refine ⟨k, (hiff k).1 hfits, fun j hj => hleast j ((hiff j).2 hj), ?_⟩
      have hrep : st.reported f.mark s.entries[st.entry.index] s.stations[f.addr].delta s.now
          = Stream.choose { st with last := some f.mark, skipped := 0 } e (some delay) s.now
            (if st.kr = some f.mark then some f.mark else none) false := by
        have hd' : s.stations[f.addr].delta = some delay := hd
        rw [Stream.reported, hd']
      rw [hrep]
      split
      · next he => rw [if_pos he] at hval; rw [hval]; exact ⟨rfl, rfl⟩
      · next he => rw [if_neg he] at hval; rw [hval]; exact ⟨rfl, rfl⟩
    · exact State.setStation_ne _ _ _ _ hy
    · exact ((State.setChain_sameBut s _).trans (State.setStation_sameBut _ _ _)).mono (by decide)
  · rw [exec_reportSent hreset hf hk hle, State.finishReport_closed hl]

end Sys2Proof.Machine

/-! PROOFS. O49: SAVE, LOAD and RESET begin. -/

namespace Sys2Proof.Machine

open Sys2Proof Config

/-! ## The stations and the chain at a soft reset (R132) -/

section

variable (s : State)

theorem State.clearStation_stations_at (x y : Addr) : (s.clearStation x).stations[y] =
    if y = x then { Station.cleared with
      owned := s.stations[x].owned, watchList := s.stations[x].watchList, notices := s.stations[x].notices }
    else s.stations[y] := by
  obtain ⟨w, hv, -, -, hst⟩ := s.clearStation_eq x
  rw [hv, (State.raise_sameBut w .stations) .stations (by decide), hst]
  simp only [Fin.getElem_fin, Vector.getElem_set, Fin.val_inj, eq_comm]

theorem State.clearStation_chain (x : Addr) : (s.clearStation x).chain = s.chain.forget x := by
  obtain ⟨w, hv, -, hc, -⟩ := s.clearStation_eq x
  rw [hv, (State.raise_sameBut w .stations) .chain (by decide), hc]

/-- R132: the stations of `l` that are not ABSENT are cleared, and nothing else is touched but the frame on CTX. -/
theorem clearAll {l : List Addr} (hl : l.Nodup) (s : State) : ∃ v,
    l.foldl (fun s x => if s.stations[x].state ≠ .absent then s.clearStation x else s) s = v
    ∧ (∀ y : Addr, v.stations[y] = if y ∈ l ∧ s.stations[y].state ≠ .absent then { Station.cleared with
        owned := s.stations[y].owned, watchList := s.stations[y].watchList, notices := s.stations[y].notices }
      else s.stations[y])
    ∧ v.chain = { s.chain with tx := v.chain.tx } ∧ (s.chain.tx = none → v.chain.tx = none) ∧ s.Raises v [.stations] := by
  induction l generalizing s with
  | nil => exact ⟨s, rfl, fun y => by simp, rfl, id, .refl s⟩
  | cons x l ih =>
    obtain ⟨hx, hl'⟩ := List.nodup_cons.1 hl
    by_cases hon : s.stations[x].state ≠ .absent
    · obtain ⟨v, hv, hst, hc, htx, hr⟩ := ih hl' (s.clearStation x)
      refine ⟨v, ?_, fun y => ?_, ?_, fun h => htx ?_, (s.clearStation_raises x).trans hr⟩
      · rw [List.foldl_cons, if_pos hon]; exact hv
      · by_cases hy : y = x
        · subst hy
          rw [hst y, s.clearStation_stations_at, if_neg fun g => hx g.1, if_pos rfl, if_pos ⟨List.mem_cons_self, hon⟩]
        · rw [hst y, s.clearStation_stations_at, if_neg hy]
          simp only [List.mem_cons, hy, false_or]
      · rw [hc, s.clearStation_chain]; rfl
      · rw [s.clearStation_chain, Chain.forget, h]; rfl
    · obtain ⟨v, hv, hst, hc, htx, hr⟩ := ih hl' s
      refine ⟨v, ?_, fun y => ?_, hc, htx, hr⟩
      · rw [List.foldl_cons, if_neg hon]; exact hv
      · rw [hst y]
        by_cases hy : y = x
        · subst hy
          rw [if_neg fun g => hx g.1, if_neg fun g => hon g.2]
        · simp only [List.mem_cons, hy, false_or]

/-- R132, R139: what the soft reset makes of the chain and of each station. -/
theorem State.resetChain_leaves : ∃ v, s.resetChain = v
    ∧ (∀ y : Addr, v.stations[y].state = .absent ∧ v.stations[y].owned = s.stations[y].owned
        ∧ v.stations[y].watchList = s.stations[y].watchList ∧ v.stations[y].notices = s.stations[y].notices
        ∧ (s.stations[y].state ≠ .absent → v.stations[y] = { Station.cleared with
            owned := s.stations[y].owned, watchList := s.stations[y].watchList, notices := s.stations[y].notices }))
    ∧ v.chain.state = .held ∧ v.chain.line = s.chain.line ∧ v.chain.pointer = 30 ∧ v.chain.cursor = 0
    ∧ v.chain.silenceStart = s.chain.silenceStart ∧ v.chain.liveStart = s.chain.liveStart
    ∧ (s.chain.state ≠ .held → v.shows .chain) ∧ s.Raises v [.chain, .stations] := by
  obtain ⟨u, hu, hst, ⟨hheld, hline, hsil, hlive⟩, hsh, hr⟩ : ∃ u, u = (if s.chain.state = .held then s else s.leaveChain .held)
      ∧ (∀ y : Addr, ∃ st, u.stations[y] = { s.stations[y] with stream := st })
      ∧ (u.chain.state = .held ∧ u.chain.line = s.chain.line ∧ u.chain.silenceStart = s.chain.silenceStart
        ∧ u.chain.liveStart = s.chain.liveStart)
      ∧ (s.chain.state ≠ .held → u.shows .chain) ∧ s.Raises u [.chain, .stations] := by
    refine ⟨_, rfl, ?_⟩
    by_cases h : s.chain.state = .held
    · rw [if_pos h]
      exact ⟨fun y => ⟨_, rfl⟩, ⟨h, rfl, rfl, rfl⟩, fun g => absurd h g, .refl s⟩
    · rw [if_neg h]
      obtain ⟨re, cut, base, hc⟩ := s.leaveChain_chain .held
      exact ⟨fun y => ⟨_, by rw [s.leaveChain_stations]; exact s.abortTx_stations_at y⟩, by rw [hc]; exact ⟨rfl, rfl, rfl, rfl⟩,
        fun _ => s.leaveChain_shows .held, (s.leaveChain_raises .held).mono (by decide)⟩
  obtain ⟨v, hv, hvst, hvc, -, hvr⟩ := clearAll (List.nodup_finRange 30) u
  refine ⟨_, rfl, ?_⟩
  rw [State.resetChain, ← hu, hv]
  refine ⟨fun y => ?_, (congrArg Chain.state hvc).trans hheld, (congrArg Chain.line hvc).trans hline, rfl, rfl,
    (congrArg Chain.silenceStart hvc).trans hsil, (congrArg Chain.liveStart hvc).trans hlive, fun h => hvr.kept _ (hsh h),
    (hr.trans (hvr.mono (by decide))).trans (.of_attn rfl)⟩
  · obtain ⟨st, hy⟩ := hst y
    have hat : v.stations[y] = _ := hvst y
    show v.stations[y].state = .absent ∧ v.stations[y].owned = _ ∧ v.stations[y].watchList = _ ∧ v.stations[y].notices = _
      ∧ (_ → v.stations[y] = _)
    rw [hat, hy]
    by_cases h : s.stations[y].state = .absent
    · rw [if_neg fun g => g.2 h]
      exact ⟨h, rfl, rfl, rfl, fun g => absurd h g⟩
    · rw [if_pos ⟨List.mem_finRange y, h⟩]
      exact ⟨rfl, rfl, rfl, rfl, fun _ => rfl⟩

end

/-! ## Requests for a bank (R173) -/

section

variable {s : State} {n : Nat} {h : Fin 4 → State → State × Option Reply}

theorem onBank_above (hn : ¬n < 4) : onBank n h s = (s, some (.badField, .empty)) := dif_neg hn

theorem onBank_busy (hn : n < 4) (hop : s.store.op.isSome = true) : onBank n h s = (s, some (.busy, .empty)) :=
  (dif_pos hn).trans (if_pos hop)

theorem onBank_free (b : Fin 4) (hop : s.store.op = none) : onBank b.val h s = h b s := by
  refine (dif_pos b.isLt).trans (if_neg ?_)
  simp [hop]

end

theorem State.leaveSlot_sameBut (s : State) : s.sameBut [.port, .arrivals] s.leaveSlot := by
  intro p hp
  cases p <;> simp [State.samePart] at hp ⊢

/-! ## The soft reset (R177) -/

theorem State.vacateAll_vacant (s : State) (i : Idx) : s.vacateAll.entries[i].state = .vacant := by
  refine (congrArg Entry.state (s.vacateAll_entries_at i)).trans ?_
  split
  · next h => exact h
  · rfl

/-- R177 steps 1 to 4, part by part. -/
theorem State.softReset_leaves (s : State) : ∃ v, s.softReset = v
    ∧ (∀ i : Idx, v.entries[i] = if s.entries[i].state = .vacant then s.entries[i] else Entry.vacantAt (s.entries[i].gen + 1))
    ∧ v.mgmtNotices = [] ∧ v.attn.causes.entries = false
    ∧ (∀ x : Addr, v.stations[x].state = .absent ∧ v.stations[x].owned = 0 ∧ v.stations[x].watchList = []
        ∧ v.stations[x].notices = [] ∧ (s.stations[x].state ≠ .absent → v.stations[x] = Station.cleared))
    ∧ v.chain.state = .held ∧ v.chain.line = s.chain.line ∧ v.chain.pointer = 30 ∧ v.chain.cursor = 0
    ∧ v.chain.silenceStart = s.chain.silenceStart ∧ v.chain.liveStart = s.chain.liveStart
    ∧ (s.chain.state ≠ .held → v.shows .chain) ∧ (∀ o : OutNo, v.outs[o] = s.outs[o].unbind)
    ∧ v.civil.pending = none ∧ v.civil.tL = none ∧ v.civil.offset = s.civil.offset ∧ v.civil.jam = s.civil.jam
    ∧ v.attn.mask = s.attn.mask ∧ v.attn.mode = s.attn.mode := by
  obtain ⟨u, hu, hst, hheld, hline, hptr, hcur, hsil, hlive, hsh, hr⟩ := s.vacateAll.resetChain_leaves
  have hvac : s.vacateAll.chain = s.chain := s.vacateAll_sameBut .chain (by decide)
  have hent : ¬s.vacateAll.shows .entries := by
    simp [State.shows, State.vacateAll, State.settleEntries, CauseSet.has, CauseSet.put]
  have hattn : s.vacateAll.attn.mask = s.attn.mask ∧ s.vacateAll.attn.mode = s.attn.mode := by
    simp [State.vacateAll, State.settleEntries]
  have hus := s.vacateAll.resetChain_sameBut
  rw [hu] at hus
  have hue : u.entries = s.vacateAll.entries := hus .entries (by decide)
  have huo : u.outs = s.outs := (hus .outs (by decide)).trans (s.vacateAll_sameBut .outs (by decide))
  have huc : u.civil = s.civil := (hus .civil (by decide)).trans (s.vacateAll_sameBut .civil (by decide))
  have hw : s.softReset = State.reschedule { (u.mapOutputs Output.unbind) with
      civil := { (u.mapOutputs Output.unbind).civil with pending := none, tL := none } } := by
    rw [State.softReset, hu]
  have hf : u.sameBut [.outs, .civil, .entries] s.softReset := by
    rw [hw]
    exact (((u.mapOutputs_sameBut _).trans (State.setCivilPart_sameBut _ _)).trans (State.reschedule_sameBut _)).mono (by decide)
  have hchain : s.softReset.chain = u.chain := hf .chain (by decide)
  have hstations : s.softReset.stations = u.stations := hf .stations (by decide)
  have hfa : s.softReset.attn = u.attn := hf .attn (by decide)
  refine ⟨_, rfl, fun i => ?_, ?_, ?_, fun x => ?_, ?_, ?_, ?_, ?_, ?_, ?_, fun h => ?_, fun o => ?_, ?_⟩
  · have hi : s.softReset.entries[i] = u.entries[i] := by
      rw [hw, State.reschedule_at]
      simp only [State.mapOutputs_entries, hue, s.vacateAll_vacant i, if_true]
    have hat : s.vacateAll.entries[i] = _ := s.vacateAll_entries_at i
    rw [hi, hue, hat]
  · rw [show s.softReset.mgmtNotices = s.vacateAll.mgmtNotices from
      (hf .mgmtNotices (by decide)).trans (hus .mgmtNotices (by decide))]
    simp [State.vacateAll, State.settleEntries_eq]
  · rw [hfa]
    exact Bool.eq_false_iff.2 ((hr.shows_iff (d := .entries) (by decide)).not.2 hent)
  · rw [hstations]
    obtain ⟨h1, h2, h3, h4, h5⟩ := hst x
    have hx : s.vacateAll.stations[x] = _ := s.vacateAll_stations_at x
    rw [hx] at h2 h3 h4 h5
    exact ⟨h1, h2, h3, h4, h5⟩
  · rw [hchain]; exact hheld
  · rw [hchain, hline, hvac]
  · rw [hchain]; exact hptr
  · rw [hchain]; exact hcur
  · rw [hchain, hsil, hvac]
  · rw [hchain, hlive, hvac]
  · rw [State.shows, hfa]
    exact hsh (by rw [hvac]; exact h)
  · rw [hw, State.reschedule_outs]
    exact (State.mapOutputs_at u _ o).trans (by rw [huo])
  · obtain ⟨c, hc, h1, h2, h3, h4⟩ : ∃ c, s.softReset.civil = c ∧ c.pending = none ∧ c.tL = none
        ∧ c.offset = u.civil.offset ∧ c.jam = u.civil.jam := by
      rw [hw, State.reschedule_civil]
      exact ⟨_, rfl, rfl, rfl, rfl, rfl⟩
    rw [hc, hfa, h3, h4, huc, hr.mask, hr.mode]
    exact ⟨h1, h2, rfl, rfl, hattn.1, hattn.2⟩

/-- Settles O49: SAVE, LOAD and RESET begin, or are refused. -/
theorem storeRequestsBegin : Obligations.StoreRequestsBegin := by
  unfold Obligations.StoreRequestsBegin
  intro s t shown
  have hsome (h : s.store.op ≠ none) : s.store.op.isSome = true := Option.isSome_iff_ne_none.2 h
  have hshown (u : State) (hp : u.port = s.port) (hd : s.port.deferred = none) : u.leaveSlot.port = shown := by
    have hv : s.port.vacate = { s.port with slot := .empty } := by
      simp only [Port.vacate, hd]
    rw [State.leaveSlot, hp, hv]
  have hload (b : Nat) : reqMeaning .mgmt t (.load b) s
      = onBank b (fun b s => (s.beginOp ⟨.load, b, some t, []⟩, none)) s := rfl
  refine ⟨fun r hr hs hop => exec_reply hs ?_, fun b hb => ⟨fun hs => exec_reply (r := .save b) hs ?_,
    fun hs => exec_reply (r := .load b) hs ?_⟩, fun hop hdef => ⟨fun b hs => ?_, fun b hs => ?_, fun hs => ?_⟩⟩
  · rcases hr with ⟨b, hb, rfl | rfl⟩ | rfl
    · exact onBank_busy (Nat.lt_succ_of_le hb) (hsome hop)
    · exact (hload b).trans (onBank_busy (Nat.lt_succ_of_le hb) (hsome hop))
    · exact if_pos (hsome hop)
  · exact onBank_above (not_lt.2 hb)
  · exact (hload b).trans (onBank_above (not_lt.2 hb))
  · refine ⟨_, exec_starts (r := .save b.val) hs (onBank_free b hop), hshown _ rfl hdef, rfl, rfl, ?_⟩
    exact ((s.setStore_sameBut _).trans (State.leaveSlot_sameBut _)).mono (by decide)
  · refine ⟨_, exec_starts (r := .load b.val) hs ((hload b).trans (onBank_free b hop)), hshown _ rfl hdef, rfl, rfl, ?_⟩
    exact ((s.setStore_sameBut _).trans (State.leaveSlot_sameBut _)).mono (by decide)
  · obtain ⟨v, hv, hent, hmg, hshow, hst, hheld, hline, hptr, hcur, hsil, hlive, hsh, houts, hciv⟩ := s.softReset_leaves
    have hsoft := s.softReset_sameBut
    rw [hv] at hsoft
    have hm : reqMeaning .mgmt t .reset s = ({ v with store := { v.store with
        op := some ⟨.startBank, v.store.startBank, some t, []⟩, startOk := false } }, none) := by
      show resetReply t s = _
      rw [resetReply, if_neg (by simp [hop]), startReset, hv]
    have hstore : v.store = s.store := hsoft .store (by decide)
    refine ⟨_, exec_starts (r := .reset) hs hm, hshown _ (hsoft .port (by decide)) hdef, ?_, hent, hmg, hshow, hst, hheld, hline,
      hptr, hcur, hsil, hlive, hsh, houts, ?_⟩
    · rw [← hstore]
      rfl
    · obtain ⟨h1, h2, h3, h4, h5, h6⟩ := hciv
      exact ⟨h1, h2, h3, h4, h5, h6,
        ((hsoft.trans (State.setStore_sameBut _ _)).trans (State.leaveSlot_sameBut _)).mono (by decide)⟩

end Sys2Proof.Machine

/-! PROOFS. The entries that a bank's definitions become (R30). -/

namespace Sys2Proof.Machine

open Sys2Proof Config

theorem EntryDef.entry_pending (d : EntryDef) (g : BitVec 8) (l : Link) (t : Nat) (c : Civil) :
    (d.entry g l t c).state = .pending := (d.entry_fields g l t c).1

theorem EntryDef.entry_name (d : EntryDef) (g : BitVec 8) (l : Link) (t : Nat) (c : Civil) : (d.entry g l t c).name = d.name := by
  obtain ⟨-, -, -, -, -, h, -⟩ := d.entry_fields g l t c
  exact h

/-- R30 steps 2 and 3: the definitions `ds` have become the entries `made` of `v`, each in the lowest that was VACANT in `u`. -/
structure State.FilledFrom (u : State) (ds : List EntryDef) (made : List (Option EntryRef)) (v : State) : Prop where
  length : made.length = ds.length
  sorted : (made.filterMap id).Pairwise fun a b => a.index < b.index
  filled : ∀ (k : Nat) (r : EntryRef) (d : EntryDef), made[k]? = some (some r) → ds[k]? = some d →
    u.entries[r.index].state = .vacant ∧ r.gen = u.entries[r.index].gen
    ∧ v.entries[r.index] = d.entry r.gen .mgmt u.now u.civil
  lowest : ∀ (r : EntryRef) (i : Idx), some r ∈ made → u.entries[i].state = .vacant → i < r.index →
    ∃ q, some q ∈ made ∧ q.index = i
  skipped : ∀ (k : Nat) (d : EntryDef), made[k]? = some none → ds[k]? = some d →
    (∀ i : Idx, u.entries[i].state = .vacant → ∃ j r, j < k ∧ made[j]? = some (some r) ∧ r.index = i)
    ∨ ∃ nm, d.name = some nm ∧ ((∃ i : Idx, u.entries[i].state ≠ .vacant ∧ u.entries[i].name = some nm)
      ∨ ∃ j r b, j < k ∧ made[j]? = some (some r) ∧ ds[j]? = some b ∧ b.name = some nm)
  named : ∀ (k : Nat) (r : EntryRef) (d : EntryDef) (nm : List Byte), made[k]? = some (some r) → ds[k]? = some d →
    d.name = some nm →
    (∀ i : Idx, u.entries[i].name = some nm → u.entries[i].state = .vacant)
    ∧ ∀ j q b, j < k → made[j]? = some (some q) → ds[j]? = some b → b.name ≠ some nm
  others : ∀ i : Idx, (∀ r, some r ∈ made → r.index ≠ i) → v.entries[i] = u.entries[i]

namespace State.FilledFrom

variable {u v : State} {d : EntryDef} {ds : List EntryDef} {made : List (Option EntryRef)} {i : Idx}

theorem nil (u : State) : u.FilledFrom [] [] u where
  length := rfl
  sorted := .nil
  filled _ _ _ h := nomatch h
  lowest _ _ h := nomatch h
  skipped _ _ h := nomatch h
  named _ _ _ _ h := nomatch h
  others _ _ := rfl

/-- The definition behind an entry made. -/
theorem source (h : u.FilledFrom ds made v) {r : EntryRef} (hr : some r ∈ made) :
    ∃ (k : Nat) (d : EntryDef), made[k]? = some (some r) ∧ ds[k]? = some d := by
  obtain ⟨k, hk, hget⟩ := List.mem_iff_getElem.1 hr
  exact ⟨k, ds[k]'(h.length ▸ hk), by rw [List.getElem?_eq_getElem hk, hget], List.getElem?_eq_getElem _⟩

theorem vacant (h : u.FilledFrom ds made v) {r : EntryRef} (hr : some r ∈ made) : u.entries[r.index].state = .vacant := by
  obtain ⟨k, d, hk, hd⟩ := h.source hr
  exact (h.filled k r d hk hd).1

/-- A definition is skipped: no entry remains for it, or its name is held. -/
theorem skip (h : u.FilledFrom ds made v) (hd : (∀ i : Idx, u.entries[i].state ≠ .vacant)
    ∨ ∃ nm, d.name = some nm ∧ ∃ i : Idx, u.entries[i].state ≠ .vacant ∧ u.entries[i].name = some nm) :
    u.FilledFrom (d :: ds) (none :: made) v where
  length := congrArg Nat.succ h.length
  sorted := h.sorted
  filled
    | 0, _, _, hm, _ => nomatch hm
    | k + 1, r, b, hm, hb => h.filled k r b hm hb
  lowest r i hr hv hlt := by
    obtain ⟨q, hq, hqi⟩ := h.lowest r i (by simpa using hr) hv hlt
    exact ⟨q, List.mem_cons_of_mem _ hq, hqi⟩
  skipped
    | 0, b, _, hb => by
      cases hb
      rcases hd with hd | ⟨nm, hnm, hd⟩
      · exact .inl fun i hi => absurd hi (hd i)
      · exact .inr ⟨nm, hnm, .inl hd⟩
    | k + 1, b, hm, hb => by
      rcases h.skipped k b hm hb with g | ⟨nm, hnm, g | ⟨j, r, a, hj, hr, ha, hn⟩⟩
      · refine .inl fun i hi => ?_
        obtain ⟨j, r, hj, hr, hri⟩ := g i hi
        exact ⟨j + 1, r, Nat.succ_lt_succ hj, hr, hri⟩
      · exact .inr ⟨nm, hnm, .inl g⟩
      · exact .inr ⟨nm, hnm, .inr ⟨j + 1, r, a, Nat.succ_lt_succ hj, hr, ha, hn⟩⟩
  named
    | 0, _, _, _, hm, _, _ => nomatch hm
    | k + 1, r, b, nm, hm, hb, hn => by
      obtain ⟨h1, h2⟩ := h.named k r b nm hm hb hn
      refine ⟨h1, fun j q a hj hq ha => ?_⟩
      cases j with
      | zero => exact nomatch hq
      | succ j => exact h2 j q a (Nat.lt_of_succ_lt_succ hj) hq ha
  others i hi := h.others i fun r hr => hi r (List.mem_cons_of_mem _ hr)

/-- A definition becomes the lowest VACANT entry. -/
theorem fill (hv : u.entries[i].state = .vacant) (hlow : ∀ j : Idx, u.entries[j].state = .vacant → i ≤ j)
    (hname : ∀ nm, d.name = some nm → ∀ j : Idx, u.entries[j].name = some nm → u.entries[j].state = .vacant)
    (h : (u.fillEntry i .mgmt d).FilledFrom ds made v) :
    u.FilledFrom (d :: ds) (some ⟨i, u.entries[i].gen⟩ :: made) v := by
  have hat : (u.fillEntry i .mgmt d).entries[i] = d.entry u.entries[i].gen .mgmt u.now u.civil := by
    simp [State.fillEntry_entries]
  have hne (j : Idx) (hj : j ≠ i) : (u.fillEntry i .mgmt d).entries[j] = u.entries[j] := by
    simp [State.fillEntry_entries, Vector.getElem_set_ne, Fin.val_ne_of_ne hj.symm]
  have hnow : (u.fillEntry i .mgmt d).now = u.now := by rw [State.now, State.now, State.fillEntry_tb]
  have hciv : (u.fillEntry i .mgmt d).civil = u.civil :=
    (u.fillEntry_sameBut i .mgmt d) .civil (by decide)
  have hstate : (u.fillEntry i .mgmt d).entries[i].state = .pending := by rw [hat]; exact EntryDef.entry_pending ..
  have heldat : (u.fillEntry i .mgmt d).entries[i].name = d.name := by rw [hat]; exact EntryDef.entry_name ..
  have hfree (j : Idx) : (u.fillEntry i .mgmt d).entries[j].state = .vacant ↔ j ≠ i ∧ u.entries[j].state = .vacant := by
    by_cases hj : j = i
    · subst hj
      rw [hstate]
      exact iff_of_false nofun fun g => g.1 rfl
    · rw [hne j hj, and_iff_right hj]
  have hother {r : EntryRef} (hr : some r ∈ made) : r.index ≠ i ∧ u.entries[r.index].state = .vacant :=
    (hfree r.index).1 (h.vacant hr)
  constructor
  case length => exact congrArg Nat.succ h.length
  case sorted =>
    refine List.pairwise_cons.2 ⟨fun r hr => ?_, h.sorted⟩
    obtain ⟨hne', hv'⟩ := hother (by simpa using hr)
    exact lt_of_le_of_ne (hlow _ hv') hne'.symm
  case filled =>
    intro k r b hm hb
    cases k with
    | zero =>
      cases hm
      cases hb
      exact ⟨hv, rfl, (h.others i fun r hr => (hother hr).1).trans hat⟩
    | succ k =>
      obtain ⟨h1, h2, h3⟩ := h.filled k r b hm hb
      obtain ⟨hri, hrv⟩ := (hfree r.index).1 h1
      rw [hne _ hri] at h2
      rw [hnow, hciv] at h3
      exact ⟨hrv, h2, h3⟩
  case lowest =>
    intro r j hr hj hlt
    by_cases hji : j = i
    · exact ⟨_, List.mem_cons_self, hji.symm⟩
    · rcases List.mem_cons.1 hr with hr | hr
      · cases hr
        exact absurd (hlow j hj) (not_le.2 hlt)
      · obtain ⟨q, hq, hqj⟩ := h.lowest r j hr ((hfree j).2 ⟨hji, hj⟩) hlt
        exact ⟨q, List.mem_cons_of_mem _ hq, hqj⟩
  case skipped =>
    intro k b hm hb
    cases k with
    | zero => exact nomatch hm
    | succ k =>
      rcases h.skipped k b hm hb with g | ⟨nm, hnm, ⟨j, hj, hjn⟩ | ⟨j, r, a, hj, hr, ha, hn⟩⟩
      · refine .inl fun j hj => ?_
        by_cases hji : j = i
        · exact ⟨0, _, Nat.zero_lt_succ k, rfl, hji.symm⟩
        · obtain ⟨m, r, hmk, hr, hrj⟩ := g j ((hfree j).2 ⟨hji, hj⟩)
          exact ⟨m + 1, r, Nat.succ_lt_succ hmk, hr, hrj⟩
      · by_cases hji : j = i
        · subst hji
          exact .inr ⟨nm, hnm, .inr ⟨0, _, d, Nat.zero_lt_succ k, rfl, rfl, heldat ▸ hjn⟩⟩
        · rw [hne j hji] at hj hjn
          exact .inr ⟨nm, hnm, .inl ⟨j, hj, hjn⟩⟩
      · exact .inr ⟨nm, hnm, .inr ⟨j + 1, r, a, Nat.succ_lt_succ hj, hr, ha, hn⟩⟩
  case named =>
    intro k r b nm hm hb hn
    cases k with
    | zero =>
      cases hb
      exact ⟨hname nm hn, fun j q a hj => absurd hj (Nat.not_lt_zero j)⟩
    | succ k =>
      obtain ⟨h1, h2⟩ := h.named k r b nm hm hb hn
      have hdn : d.name ≠ some nm := fun g => by
        have := h1 i (heldat.trans g)
        rw [hstate] at this
        exact nomatch this
      refine ⟨fun j hj => ?_, fun j q a hj hq ha => ?_⟩
      · by_cases hji : j = i
        · exact hji ▸ hv
        · exact ((hfree j).1 (h1 j (by rw [hne j hji]; exact hj))).2
      · cases j with
        | zero => cases ha; exact hdn
        | succ j => exact h2 j q a (Nat.lt_of_succ_lt_succ hj) hq ha
  case others =>
    intro j hj
    rw [h.others j fun r hr => hj r (List.mem_cons_of_mem _ hr), hne j (hj _ List.mem_cons_self).symm]

end State.FilledFrom

theorem State.lowestVacant_least {u : State} {i : Idx} (h : u.lowestVacant = some i) {j : Idx} (hj : u.entries[j].state = .vacant) :
    i ≤ j := by
  obtain ⟨-, as, bs, heq, has⟩ := List.find?_eq_some_iff_append.1 h
  by_contra hlt
  have hsort := List.pairwise_lt_finRange 64
  rw [heq] at hsort
  have hmem : j ∈ as ++ i :: bs := heq ▸ List.mem_finRange j
  rcases List.mem_append.1 hmem with hm | hm
  · exact absurd hj (by simpa using has j hm)
  · rcases List.mem_cons.1 hm with rfl | hm
    · exact hlt le_rfl
    · have := (List.pairwise_cons.1 (List.pairwise_append.1 hsort).2.1).1 j hm
      exact hlt (le_of_lt this)

theorem State.nameHeld_iff (u : State) (n : Option (List Byte)) : u.nameHeld n = true ↔
    ∃ nm, n = some nm ∧ ∃ i : Idx, u.entries[i].state ≠ .vacant ∧ u.entries[i].name = some nm := by
  cases n with
  | none => simp [State.nameHeld]
  | some nm => simp [State.nameHeld, State.nameHolder]

/-- R30: the entries of a bank count for no station. -/
theorem createDefs_sameBut_entries (ds : List EntryDef) (u : State) : u.sameBut [.entries] (createDefs ds u).1 := by
  induction ds generalizing u with
  | nil => exact .refl u _
  | cons d ds ih =>
    unfold createDefs
    split
    · split
      · exact ih u
      · exact (u.setEntry_sameBut _ _).comp (ih _)
    · exact ih u

/-- R30 steps 2 and 3. -/
theorem createDefs_filled (ds : List EntryDef) (u : State) : u.FilledFrom ds (createDefs ds u).2 (createDefs ds u).1 := by
  induction ds generalizing u with
  | nil => exact .nil u
  | cons d ds ih =>
    cases hlow : u.lowestVacant with
    | none =>
      have hnone (i : Idx) : u.entries[i].state ≠ .vacant := fun g => by
        obtain ⟨j, hj⟩ := State.lowestVacant_isSome g
        rw [hlow] at hj
        exact nomatch hj
      simp only [createDefs, hlow]
      exact (ih u).skip (.inl hnone)
    | some i =>
      by_cases hh : u.nameHeld d.name = true
      · simp only [createDefs, hlow, hh, if_true]
        exact (ih u).skip (.inr ((u.nameHeld_iff _).1 hh))
      · simp only [createDefs, hlow, hh]
        refine .fill (State.lowestVacant_vacant hlow) (fun j => State.lowestVacant_least hlow) (fun nm hnm j hj => ?_) (ih _)
        by_contra hlive
        exact hh ((u.nameHeld_iff _).2 ⟨nm, hnm, j, hlive, hj⟩)

end Sys2Proof.Machine

/-! PROOFS. The settings of a bank (R175 steps 1 to 4) up to the chain's, and what they leave of the entries and the streams. -/

namespace Sys2Proof.Machine

open Sys2Proof Config

/-! ## Causes raised by new parameters (R41, R90) -/

section

variable {s v w : State}

theorem State.noteClass_raises (s : State) : s.Raises s.noteClass [.servo] :=
  .ite (fun _ => .refl s) fun _ => .trans (u := { s with servo := { s.servo with noted := s.quality } }) (.of_attn rfl)
    (State.raise_raises _ (.head _))

theorem State.takeParams_raises (s : State) (p : ServoParams) : s.Raises (s.takeParams p) [.servo] := by
  rw [State.takeParams_eq]
  refine .ite (fun _ => ?_) fun _ => ?_
  · exact .trans (u := (s.limited p).heldOver) (.of_attn rfl) (State.noteClass_raises _)
  · exact .trans (u := s.limited p) (.of_attn rfl) (State.noteClass_raises _)

theorem State.holdOne_raises (s : State) (i : Idx) : s.Raises (s.holdOne i) [.entries] :=
  .ite (fun _ => (((s.setEntry_sameBut i _).trans (State.replan_sameBut _ i _ _)).raises (by decide)).trans
    (State.notify_raises _ i)) fun _ => .refl s

theorem State.holdWide_raises (s : State) : s.Raises s.holdWide [.entries] := by
  rw [State.holdWide_eq]
  induction List.finRange 64 generalizing s with
  | nil => exact .refl s
  | cons i l ih => exact (s.holdOne_raises i).trans (ih _)

theorem State.applyParams_raises (s : State) (p : ServoParams) : s.Raises (s.applyParams p) [.servo, .entries] := by
  rw [State.applyParams_eq]
  exact ((s.takeParams_raises p).mono (by decide)).trans ((State.holdWide_raises _).mono (by decide))

/-- What is said of the servo after a parameter set is said of every later state of that servo at the same cycle. -/
theorem State.tookParams.later {p : ServoParams} (h : s.tookParams p v) (hs : w.servo = v.servo) (hc : w.cycle = v.cycle)
    (hsh : v.shows .servo → w.shows .servo) : s.tookParams p w := by
  have hage : w.ageCycles = v.ageCycles := by
    unfold State.ageCycles
    rw [hs, hc]
  have hq : w.quality = v.quality := by
    unfold State.quality
    rw [hs, hage]
  obtain ⟨h1, h2, h3⟩ := h
  refine ⟨fun he => ?_, fun he => ?_, fun hn => hsh (h3 (hq ▸ hn))⟩
  · rw [hs, h1 he, hq]
  · rw [hs, h2 he, hq]

theorem State.applyParams_took (s : State) (p : ServoParams) : s.tookParams p (s.applyParams p) := by
  rw [State.applyParams_eq]
  exact (s.takeParams_took p).later (State.holdWide_servo _) ((s.takeParams p).holdWide_sameBut .cycle (by decide))
    ((State.holdWide_raises _).kept .servo)

end

/-! ## The civil settings of a bank (R57, R58, R71, R72) -/

theorem Civil.rebased_rebased (c : Civil) (r : Nat) : (c.rebased r).rebased r = c.rebased r := rfl

/-- R71, R72: O and J of a bank; `always` has the labels re-base although neither differs. -/
def State.bankCivil (s : State) (o : Int) (j : Nat) (always : Bool) : State :=
  if always then (s.setCivil o j).rebase (s.setCivil o j).civil (s.setCivil o j).now else s.setCivil o j

section

variable {s : State} {o : Int} {j : Nat} {always : Bool} {i : Idx}

/-- A new O or J has re-based already. -/
theorem State.bankCivil_new (h : ¬(o = s.civil.offset ∧ j = s.civil.jam)) : s.bankCivil o j always = s.setCivil o j := by
  have hre : (s.setCivil o j).civil.rebased (s.setCivil o j).now = (s.setCivil o j).civil := by
    rw [State.setCivil_now, State.setCivil_new h, State.rebase_civil, Civil.rebased_rebased]
  cases always with
  | false => rfl
  | true =>
    have hk : (s.setCivil o j).civil.keepsBases ((s.setCivil o j).civil.rebased (s.setCivil o j).now) = true := by
      rw [hre]
      exact (Civil.keepsBases_iff _ _).2 ⟨rfl, rfl, rfl⟩
    refine (State.rebase_kept hk).trans ?_
    rw [hre]

theorem State.bankCivil_same (h : o = s.civil.offset ∧ j = s.civil.jam) :
    s.bankCivil o j always = if always then s.rebase s.civil s.now else s := by
  rw [State.bankCivil, State.setCivil_same h.1 h.2]

theorem State.bankCivil_took : s.tookCivil o j always (s.bankCivil o j always) := by
  by_cases h : o = s.civil.offset ∧ j = s.civil.jam
  · rw [State.bankCivil_same h]
    cases always with
    | false => exact ⟨h.1.symm, h.2.symm, rfl, fun _ => rfl, fun g => absurd h g, fun g => g.elim (absurd h) nofun, fun _ _ => rfl⟩
    | true =>
      show s.tookCivil o j true (s.rebase s.civil s.now)
      unfold State.tookCivil
      rw [State.rebase_civil]
      exact ⟨h.1.symm, h.2.symm, rfl, fun _ => rfl, fun g => absurd h g, fun _ => Civil.rebased_basedAt _ _, nofun⟩
  · obtain ⟨htL, hbased⟩ := State.setCivil_based h
    rw [State.bankCivil_new h]
    exact ⟨State.setCivil_offset, State.setCivil_jam, State.setCivil_change, fun g => absurd g h, fun _ => htL, fun _ => hbased,
      fun g => absurd g h⟩

theorem State.bankCivil_unbased : (s.bankCivil o j always).entries[i].unbased = s.entries[i].unbased := by
  unfold State.bankCivil
  split
  · rw [State.rebase_unbased, State.setCivil_unbased]
  · exact State.setCivil_unbased

theorem State.bankCivil_follows (hl : s.entries[i].state ≠ .vacant) : s.basesFollow (s.bankCivil o j always) i := by
  by_cases h : o = s.civil.offset ∧ j = s.civil.jam
  · rw [State.bankCivil_same h]
    cases always with
    | false => exact ⟨fun _ => ⟨rfl, rfl⟩, fun g => absurd ⟨rfl, rfl, rfl⟩ g⟩
    | true =>
      show s.basesFollow (s.rebase s.civil s.now) i
      unfold State.basesFollow
      rw [State.rebase_civil]
      refine ⟨fun g => ?_, fun g hn hd => ?_⟩
      · rw [State.rebase_kept_at _ _ _ ((Civil.keepsBases_iff _ _).2 g)]
        exact ⟨rfl, rfl⟩
      · rw [State.rebase_moved_at _ _ _ (Bool.eq_false_iff.2 (mt (Civil.keepsBases_iff _ _).1 g)), if_neg hl]
        exact Entry.withBases_labelled _ hn hd
  · rw [State.bankCivil_new h]
    refine ⟨fun ⟨_, ho, hj⟩ => absurd ⟨?_, ?_⟩ h, fun _ hn hd => State.setCivil_labelled h hl hn hd⟩
    · rw [← ho, State.setCivil_offset]
    · rw [← hj, State.setCivil_jam]

theorem State.bankCivil_sameBut (s : State) (o : Int) (j : Nat) (always : Bool) : s.sameBut [.civil, .entries] (s.bankCivil o j always) :=
  .ite (fun _ => ((s.setCivil_sameBut o j).trans (State.rebase_sameBut _ _ _)).mono (by decide)) fun _ => s.setCivil_sameBut o j

end

/-! ## The settings but the chain's -/

/-- R175 steps 1 to 3: attention, servo and civil settings. -/
def State.bankSettled (s : State) (c : BankContent) (always : Bool) : State :=
  ((s.setAttention c.mode c.mask).applyParams c.params).bankCivil c.offset c.jam always

theorem State.takeSettings_eq (s : State) (c : BankContent) (always : Bool) :
    s.takeSettings c always = (s.bankSettled c always).chainSettings c.timeout c.orphan c.autoRelease := rfl

/-- What the settings of bank `c` leave before those of the chain are taken. -/
structure State.SettledBy (s : State) (c : BankContent) (always : Bool) (v : State) : Prop where
  params : s.tookParams c.params v
  civil : s.tookCivil c.offset c.jam always v
  mode : v.attn.mode = c.mode
  mask : v.attn.mask = c.mask
  entries : ∀ i : Idx, v.entries[i] = { s.entries[i].heldBy c.params.slewRange with
    base := v.entries[i].base, next := v.entries[i].next }
  bases : ∀ i : Idx, s.entries[i].state ≠ .vacant → s.basesFollow v i
  stations : ∀ x : Addr, v.stations[x] = { s.stations[x] with
    notices := v.stations[x].notices
    stream := s.stations[x].stream.map fun st =>
      st.heldBy s.entries[st.entry.index] c.params.slewRange s.stations[x].delta s.now }
  same : s.sameBut [.attn, .servo, .entries, .stations, .mgmtNotices, .civil] v

/-- A slew held moves neither the rate nor the bases of its entry. -/
theorem Entry.heldBy_bases (e : Entry) (range : Nat) : (e.heldBy range).num = e.num ∧ (e.heldBy range).den = e.den
    ∧ (e.heldBy range).base = e.base ∧ (e.heldBy range).next = e.next := by
  unfold Entry.heldBy
  split
  · exact ⟨rfl, rfl, rfl, rfl⟩
  · exact ⟨rfl, rfl, rfl, rfl⟩

theorem State.bankSettled_settledBy (s : State) (c : BankContent) (always : Bool) :
    s.SettledBy c always (s.bankSettled c always) := by
  obtain ⟨hservo, hentries, hstations, hsame⟩ := (s.setAttention c.mode c.mask).applyParams_left c.params
  have hr := (s.setAttention c.mode c.mask).applyParams_raises c.params
  have ha : s.sameBut [.attn] (s.setAttention c.mode c.mask) := s.setAttn_sameBut _
  unfold State.bankSettled
  generalize hb : (s.setAttention c.mode c.mask).applyParams c.params = b at *
  have hciv := b.bankCivil_sameBut c.offset c.jam always
  have hbc : b.civil = s.civil := hsame .civil (by decide)
  have hbt : b.tb = s.tb := hsame .tb (by decide)
  have hbn : b.now = s.now := by rw [State.now, State.now, hbt]
  have hattn : (b.bankCivil c.offset c.jam always).attn = b.attn := hciv .attn (by decide)
  have htook : s.tookParams c.params b := by
    rw [← hb]
    exact (s.setAttention c.mode c.mask).applyParams_took c.params
  constructor
  case params => exact htook.later (hciv .servo (by decide)) (hciv .cycle (by decide)) (by rw [State.shows, State.shows, hattn]; exact id)
  case civil =>
    have h : b.tookCivil c.offset c.jam always (b.bankCivil c.offset c.jam always) := State.bankCivil_took
    unfold State.tookCivil at h ⊢
    rw [hbc, hbn] at h
    exact h
  case mode => rw [hattn, hr.mode]; rfl
  case mask => rw [hattn, hr.mask]; rfl
  case entries =>
    intro i
    have h := Entry.unbased_eq_iff.1 (b.bankCivil_unbased (o := c.offset) (j := c.jam) (always := always) (i := i))
    rw [hentries i] at h
    exact h
  case bases =>
    intro i hl
    obtain ⟨hn, hd, hbase, hnext⟩ := s.entries[i].heldBy_bases c.params.slewRange
    have h : b.basesFollow (b.bankCivil c.offset c.jam always) i := State.bankCivil_follows (by
      rw [hentries i]; exact mt (Entry.heldBy_vacant _ _).1 hl)
    have hat : b.entries[i] = s.entries[i].heldBy c.params.slewRange := hentries i
    unfold State.basesFollow at h ⊢
    rw [hbc, hat, hn, hd, hbase, hnext] at h
    exact h
  case stations =>
    intro x
    rw [show (b.bankCivil c.offset c.jam always).stations = b.stations from hciv .stations (by decide)]
    exact hstations x
  case same => exact (ha.trans (hsame.trans hciv)).mono (by decide)

end Sys2Proof.Machine

/-! PROOFS. The outputs and the entries of a bank (R30, R110, R120): what `applyBank` leaves. -/

namespace Sys2Proof.Machine

open Sys2Proof Config

/-! ## Outputs (R110, R120) -/

section

variable {a : Output} {d : OutputDef}

theorem clampNat_narrow {lo hi hi' : Nat} (h : lo ≤ hi) (h' : hi ≤ hi') (x : Nat) :
    clampNat lo hi (clampNat lo hi' x) = clampNat lo hi x := by
  unfold clampNat
  split_ifs <;> omega

theorem Output.unbind_twice (a : Output) : a.unbind.unbind = a.unbind := by
  have h : satAdd counterTop a.unbind.skipped 0 = a.unbind.skipped := by
    have : a.unbind.skipped = satAdd counterTop a.skipped a.waiting.length := rfl
    rw [this]
    unfold satAdd
    omega
  have h2 : a.unbind.unbind = { a.unbind with skipped := satAdd counterTop a.unbind.skipped 0 } := rfl
  rw [h2, h]

theorem Output.takeBank_unbind (a : Output) (d : OutputDef) : a.unbind.takeBank d = a.takeBank d := by
  rw [Output.takeBank, Output.unbind_twice, Output.takeBank]

/-- R120: an output that has taken a bank's record and is not bound. -/
theorem Output.takeBank_eq (a : Output) (d : OutputDef) : a.takeBank d = { a with
    enabled := d.enabled, binding := none, divider := d.divider, delay := clampNat 0 freeDelay d.delay
    width := clampNat 8 freeWidth d.width, waiting := [], skipped := satAdd counterTop a.skipped a.waiting.length
    polarity := if a.inProgress = none then d.polarity else a.polarity
    pendingPol := if a.inProgress = none ∨ d.polarity = a.polarity then none else some d.polarity } := by
  rw [Output.takeBank, Output.setPolarity_eq]
  rfl

end

/-- R120: the definitions and records of a content lie in the ranges in which a bank is read. -/
structure BankContent.ranged (c : BankContent) : Prop where
  defs : ∀ d ∈ c.defs, 0 < d.den ∧ d.den ≤ d.num ∧ d.num ≤ 240000 * d.den
  outs : ∀ o : OutNo, 1 ≤ c.outs[o].divider ∧ c.outs[o].divider ≤ 65535

theorem readBank_ranged (ws : List Word32) : (readBank ws).ranged where
  defs d hd := by
    obtain ⟨j, -, rfl⟩ := List.mem_map.1 hd
    have hden := clampNat_bounds (lo := 1) (hi := 1001) (by decide) (wordAt ws (21 + 10 * j + 5))
    obtain ⟨h1, h2⟩ := clampNat_bounds (lo := clampNat 1 1001 (wordAt ws (21 + 10 * j + 5)))
      (hi := 240000 * clampNat 1 1001 (wordAt ws (21 + 10 * j + 5))) (by omega) (wordAt ws (21 + 10 * j + 4))
    exact ⟨hden.1, h1, h2⟩
  outs o := by
    simp only [readBank, Fin.getElem_fin, Vector.getElem_ofFn, outAt]
    exact clampNat_bounds (by decide) _

theorem BankContent.builtIn_ranged : BankContent.builtIn.ranged where
  defs _ hd := nomatch hd
  outs o := by simp [BankContent.builtIn, OutputDef.builtIn]

/-! ## The entries that make room (R30, R136, R175) -/

theorem Entry.heldBy_kept (e : Entry) (range : Nat) : ∃ m st, e.heldBy range = { e with motion := m, state := st } := by
  unfold Entry.heldBy
  split
  · exact ⟨_, _, rfl⟩
  · exact ⟨_, _, rfl⟩

theorem Stream.heldBy_entry (st : Stream) (e : Entry) (range : Nat) (delta : Option Nat) (t : Int) :
    (st.heldBy e range delta t).entry = st.entry := by
  unfold Stream.heldBy
  split
  · exact Stream.replan_entry ..
  · rfl

section

variable {s v : State} {c : BankContent} {always : Bool}

namespace State.SettledBy

theorem vacant_iff (h : s.SettledBy c always v) (i : Idx) : v.entries[i].state = .vacant ↔ s.entries[i].state = .vacant := by
  rw [h.entries i]
  exact Entry.heldBy_vacant _ _

/-- The settings move of an entry its motion, its state and its bases alone. -/
theorem kept (h : s.SettledBy c always v) (i : Idx) : v.entries[i].owner = s.entries[i].owner ∧ v.entries[i].gen = s.entries[i].gen
    ∧ v.entries[i].name = s.entries[i].name ∧ v.entries[i].watchers = s.entries[i].watchers
    ∧ v.entries[i].mgmtWatch = s.entries[i].mgmtWatch := by
  obtain ⟨m, st, hm⟩ := s.entries[i].heldBy_kept c.params.slewRange
  rw [h.entries i, hm]
  exact ⟨rfl, rfl, rfl, rfl, rfl⟩

theorem orphanedBy_iff (h : s.SettledBy c always v) (orphan : Nat) (x : Addr) : v.orphanedBy orphan x ↔ s.orphanedBy orphan x := by
  have hchain : v.chain = s.chain := h.same .chain (by decide)
  have hcycle : v.cycle = s.cycle := h.same .cycle (by decide)
  unfold State.orphanedBy
  rw [h.stations x, hchain, hcycle]

end State.SettledBy

theorem State.retireForBank_takesOut (s : State) (all : Bool) : s.TakesOut (s.retireForBank all)
    (fun i => s.entries[i].state ≠ .vacant ∧ (all = true ∨ s.entries[i].owner = .mgmt)) fun _ => False :=
  (State.retireAll_takesOut (fun l => all = true ∨ l = .mgmt) (List.finRange 64) s).congr (by simp) (by simp)

/-- R30, R136, R175: the entries that make room go, with the stations that the orphan time takes off. -/
theorem State.SettledBy.room_takesOut (h : s.SettledBy c always v) (all : Bool) :
    (v.withSettings c.timeout c.orphan c.autoRelease).TakesOut
      ((v.chainSettings c.timeout c.orphan c.autoRelease).retireForBank all)
      (fun i => s.entries[i].state ≠ .vacant ∧ s.givesWay all c.orphan i) (s.orphanedBy c.orphan) := by
  have h1 := v.chainSettings_takesOut c.timeout c.orphan c.autoRelease
  have h2 := (v.chainSettings c.timeout c.orphan c.autoRelease).retireForBank_takesOut all
  refine (h1.trans h2).congr (fun i => ?_) fun x => ?_
  · refine (h1.goes_iff (P := fun l => all = true ∨ l = .mgmt) i).trans ?_
    obtain ⟨ho, -⟩ := h.kept i
    have hw : (v.withSettings c.timeout c.orphan c.autoRelease).entries[i] = v.entries[i] := rfl
    rw [hw, ho, ne_eq, h.vacant_iff i]
    simp only [h.orphanedBy_iff, State.givesWay]
    constructor
    · rintro (⟨hl, x, hx, hxo⟩ | ⟨hl, ha | hm⟩)
      · exact ⟨hl, .inr (.inr (.inr ⟨x, hxo, hx⟩))⟩
      · exact ⟨hl, .inr (.inr (.inl ha))⟩
      · exact ⟨hl, .inr (.inl hm)⟩
    · rintro ⟨hl, hv | hm | ha | ⟨x, hxo, hx⟩⟩
      · exact absurd hv hl
      · exact .inr ⟨hl, .inr hm⟩
      · exact .inr ⟨hl, .inl ha⟩
      · exact .inl ⟨hl, x, hx, hxo⟩
  · rw [or_false]
    exact h.orphanedBy_iff _ _

/-- What a bank of content `c` leaves before it sets the outputs and fills entries: its settings are in force, and the entries that
make room are VACANT. -/
structure State.RoomMade (s : State) (c : BankContent) (always all : Bool) (x : State) : Prop where
  params : s.tookParams c.params x
  civil : s.tookCivil c.offset c.jam always x
  mode : x.attn.mode = c.mode
  mask : x.attn.mask = c.mask
  chain : x.chain = { s.chain with timeout := c.timeout, orphan := c.orphan, autoRelease := c.autoRelease, tx := x.chain.tx }
  absent : ∀ y : Addr, s.orphanedBy c.orphan y → x.stations[y].state = .absent
  free : ∀ i : Idx, x.entries[i].state = .vacant ↔ s.givesWay all c.orphan i
  gen : ∀ i : Idx, s.givesWay all c.orphan i → x.entries[i].gen = s.entries[i].genAfter
  named : ∀ i : Idx, ¬s.givesWay all c.orphan i → x.entries[i].name = s.entries[i].name
  kept : s.keptEntries all c x
  outs : ∀ o : OutNo, x.outs[o] = s.outs[o] ∨ x.outs[o] = s.outs[o].unbind
  now : x.now = s.now
  same : s.sameBut [.servo, .civil, .chain, .attn, .outs, .entries, .stations, .mgmtNotices, .arrivals] x

theorem State.SettledBy.roomMade (h : s.SettledBy c always v) (all : Bool) :
    s.RoomMade c always all ((v.chainSettings c.timeout c.orphan c.autoRelease).retireForBank all) := by
  have hx := h.room_takesOut all
  generalize (v.chainSettings c.timeout c.orphan c.autoRelease).retireForBank all = x at hx ⊢
  have hve (i : Idx) : (v.withSettings c.timeout c.orphan c.autoRelease).entries[i] = v.entries[i] := rfl
  have hvs (y : Addr) : (v.withSettings c.timeout c.orphan c.autoRelease).stations[y] = v.stations[y] := rfl
  have hciv : x.civil = v.civil := hx.same .civil (by decide)
  have hservo : x.servo = v.servo := hx.same .servo (by decide)
  have hcycle : x.cycle = v.cycle := hx.same .cycle (by decide)
  have hvc : v.chain = s.chain := h.same .chain (by decide)
  have hstay (i : Idx) (hi : ¬s.givesWay all c.orphan i) : x.entries[i] = { v.entries[i] with watchers := x.entries[i].watchers } :=
    hx.stayed i fun g => hi g.2
  have hlive (i : Idx) (hi : ¬s.givesWay all c.orphan i) : s.entries[i].state ≠ .vacant := fun g => hi (.inl g)
  have hsame : s.sameBut [.servo, .civil, .chain, .attn, .outs, .entries, .stations, .mgmtNotices, .arrivals] x :=
    ((h.same.trans (v.withSettings_sameBut _ _ _)).trans hx.same).mono (by decide)
  have htb : x.tb = s.tb := hsame .tb (by decide)
  constructor
  case params => exact h.params.later hservo hcycle (hx.causes.kept .servo)
  case civil =>
    have hc := h.civil
    unfold State.tookCivil at hc ⊢
    rw [hciv]
    exact hc
  case mode => exact hx.causes.mode.trans h.mode
  case mask => exact hx.causes.mask.trans h.mask
  case chain =>
    rw [hx.chain, ← hvc]
    rfl
  case absent => exact hx.left
  case free =>
    intro i
    by_cases hl : s.entries[i].state = .vacant
    · refine iff_of_true ?_ (.inl hl)
      rw [hx.state_of_stayed fun g => g.1 hl]
      exact (h.vacant_iff i).2 hl
    · by_cases hi : s.givesWay all c.orphan i
      · exact iff_of_true (hx.vacant_of_went ⟨hl, hi⟩) hi
      · refine iff_of_false ?_ hi
        rw [hx.state_of_stayed fun g => hi g.2]
        exact mt (h.vacant_iff i).1 hl
  case gen =>
    intro i hi
    obtain ⟨-, hgen, -⟩ := h.kept i
    by_cases hl : s.entries[i].state = .vacant
    · rw [Entry.genAfter, if_pos hl, hx.stayed i fun g => g.1 hl]
      exact hgen
    · rw [Entry.genAfter, if_neg hl, hx.went i ⟨hl, hi⟩, hve i, hgen]
      rfl
  case named =>
    intro i hi
    obtain ⟨-, -, hname, -⟩ := h.kept i
    rw [hstay i hi]
    exact hname
  case kept =>
    refine ⟨fun i hi => ⟨?_, ?_, fun y hy => ?_⟩, fun y hy => ⟨fun hn => ?_, fun st hst => ⟨fun hi => ?_, fun hl hi => ?_⟩⟩,
      fun i hl hi => ⟨fun hm => ?_, fun y hy hoff => ?_⟩⟩
    · have he := h.entries i
      rw [hstay i hi, he]
    · have hb := h.bases i (hlive i hi)
      unfold State.basesFollow at hb ⊢
      rw [hstay i hi, hciv]
      exact hb
    · obtain ⟨-, -, -, hw, -⟩ := h.kept i
      have hm : y ∈ x.entries[i].watchers ↔ y ∈ v.entries[i].watchers := hx.mem_watchers (fun g => hi g.2) hy
      rw [hm, hw]
    · rcases hx.streams y with e | e
      · exact e
      · rw [e, hvs y, h.stations y, hn]
        rfl
    · have hsv : v.stations[y].stream = some (st.heldBy s.entries[st.entry.index] c.params.slewRange s.stations[y].delta s.now) := by
        rw [h.stations y, hst]
        rfl
      refine (hx.streaming y hy fun j hj => ?_).trans hsv
      rw [hvs y, Station.streams, hsv]
      simp only [Option.any_some, Stream.heldBy_entry, decide_eq_false_iff_not]
      exact fun g => hi (g ▸ hj.2)
    · have hsv : v.stations[y].stream = some (st.heldBy s.entries[st.entry.index] c.params.slewRange s.stations[y].delta s.now) := by
        rw [h.stations y, hst]
        rfl
      refine hx.closed y st.entry.index ⟨hl, hi⟩ ?_
      rw [hvs y, Station.streams, hsv]
      simp only [Option.any_some, Stream.heldBy_entry, decide_true]
    · obtain ⟨-, -, -, -, hw⟩ := h.kept i
      exact hx.notedMgmt i ⟨hl, hi⟩ (hw.trans hm)
    · obtain ⟨-, -, -, hw, -⟩ := h.kept i
      refine hx.noted i y ⟨hl, hi⟩ hoff ?_
      rw [hve i, hw]
      exact hy
  case outs =>
    intro o
    have hvo : (v.withSettings c.timeout c.orphan c.autoRelease).outs = s.outs := h.same .outs (by decide)
    by_cases hb : ∃ i, (s.entries[i].state ≠ .vacant ∧ s.givesWay all c.orphan i) ∧ s.outs[o].boundTo i = true
    · obtain ⟨i, hi, hb⟩ := hb
      rw [hx.unbound o i hi (by rw [hvo]; exact hb), hvo]
      exact .inr rfl
    · rw [hx.bound o fun i hi => by rw [hvo]; simpa using fun g => hb ⟨i, hi, g⟩, hvo]
      exact .inl rfl
  case now => rw [State.now, State.now, htb]
  case same => exact hsame

end

end Sys2Proof.Machine

/-! PROOFS. What a bank that is applied leaves of the part (R175, R30, R120). -/

namespace Sys2Proof.Machine

open Sys2Proof Config

section

variable {s x z v w : State} {c : BankContent} {always all : Bool} {made : List (Option EntryRef)}

/-! ## Entries (R30) -/

theorem State.mem_filterMap_id {made : List (Option EntryRef)} {r : EntryRef} : r ∈ made.filterMap id ↔ some r ∈ made := by
  simp

/-- The entries that the definitions of `c` have become where room was made. -/
theorem State.RoomMade.madeFrom (h : s.RoomMade c always all x) (hc : c.ranged) (hz : x.FilledFrom c.defs made z)
    (hw : w.entries = z.entries) (hciv : w.civil = x.civil) : s.madeFrom all c made w := by
  unfold State.madeFrom
  rw [hw]
  refine ⟨hz.length, hz.sorted, fun k r d hk hd => ?_, fun k d hk hd => ?_, fun k r d nm hk hd hnm => ?_, fun i hi hno => ?_⟩
  · obtain ⟨hv, hg, he⟩ := hz.filled k r d hk hd
    have hway := (h.free r.index).1 hv
    obtain ⟨hden, hnum, -⟩ := hc.defs d (List.mem_of_getElem? hd)
    refine ⟨hway, by rw [hg, h.gen _ hway], ?_, fun i hi hlt => ?_⟩
    · rw [he, h.now, hciv]
      exact EntryDef.entry_made (by omega) hden
    · obtain ⟨q, hq, hqi⟩ := hz.lowest r i (List.mem_of_getElem? hk) ((h.free i).2 hi) hlt
      exact ⟨q, State.mem_filterMap_id.2 hq, hqi⟩
  · rcases hz.skipped k d hk hd with g | ⟨nm, hnm, ⟨i, hl, hi⟩ | g⟩
    · exact .inl fun i hi => g i ((h.free i).2 hi)
    · have hi' : ¬s.givesWay all c.orphan i := mt (h.free i).2 hl
      exact .inr ⟨nm, hnm, .inl ⟨i, hi', h.named i hi' ▸ hi⟩⟩
    · exact .inr ⟨nm, hnm, .inr g⟩
  · obtain ⟨h1, h2⟩ := hz.named k r d nm hk hd hnm
    refine ⟨fun i hi => ?_, h2⟩
    by_contra hway
    exact hway ((h.free i).1 (h1 i (by rw [h.named i hway]; exact hi)))
  · rw [hz.others i hno]
    exact ⟨(h.free i).2 hi, h.gen i hi⟩

/-- What is said of the entries that stay holds when the room has been filled. -/
theorem State.RoomMade.keptEntries (h : s.RoomMade c always all x) (hz : x.FilledFrom c.defs made z)
    (hw : w.entries = z.entries) (hsame : x.sameBut [.entries, .outs] w) : s.keptEntries all c w := by
  obtain ⟨h1, h2, h3⟩ := h.kept
  have hst : w.stations = x.stations := hsame .stations (by decide)
  have hmg : w.mgmtNotices = x.mgmtNotices := hsame .mgmtNotices (by decide)
  have hciv : w.civil = x.civil := hsame .civil (by decide)
  refine ⟨fun i hi => ?_, ?_, ?_⟩
  · have hz' : z.entries[i] = x.entries[i] := hz.others i fun r hr g => hi ((h.free i).1 (g ▸ hz.vacant hr))
    obtain ⟨h4, h5, h6⟩ := h1 i hi
    unfold State.basesFollow at h5 ⊢
    rw [hw, hz', hciv]
    exact ⟨h4, h5, h6⟩
  · rw [hst]
    exact h2
  · rw [hst, hmg]
    exact h3

/-- Entries filled are filled also from a state that agrees in the entries, the time and the civil settings. -/
theorem State.FilledFrom.of_sameBut {u : State} {ds : List EntryDef} {L : List Part} (h : u.FilledFrom ds made z) (hs : x.sameBut L u)
    (he : Part.entries ∉ L) (ht : Part.tb ∉ L) (hc : Part.civil ∉ L) : x.FilledFrom ds made z := by
  have he : u.entries = x.entries := hs .entries he
  have hc : u.civil = x.civil := hs .civil hc
  have ht : u.tb = x.tb := hs .tb ht
  have hn : u.now = x.now := by rw [State.now, State.now, ht]
  obtain ⟨h1, h2, h3, h4, h5, h6, h7⟩ := h
  rw [he] at h4 h5 h6 h7
  rw [he, hn, hc] at h3
  exact ⟨h1, h2, h3, h4, h5, h6, h7⟩

/-! ## Outputs (R120) -/

theorem State.bindByPosition_bound {outs : Vector OutputDef 16} {o : OutNo} {r : EntryRef}
    (h : boundRef made outs[o].binding = some r) :
    (z.bindByPosition outs made).outs[o] = { z.outs[o] with binding := some r }.fitTo z.entries[r.index].pf := by
  simp only [Fin.getElem_fin] at h
  simp only [State.bindByPosition, Fin.getElem_fin, Vector.getElem_ofFn, h]

theorem State.bindByPosition_free {outs : Vector OutputDef 16} {o : OutNo} (h : boundRef made outs[o].binding = none) :
    (z.bindByPosition outs made).outs[o] = z.outs[o] := by
  simp only [Fin.getElem_fin] at h
  simp only [State.bindByPosition, Fin.getElem_fin, Vector.getElem_ofFn, h]

theorem State.makeWay_outs (s : State) (c : BankContent) (all : Bool) (o : OutNo) :
    (s.makeWay c all).outs[o] = (s.retireForBank all).outs[o].takeBank c.outs[o] := by
  simp only [State.makeWay, Fin.getElem_fin, Vector.getElem_ofFn]

theorem State.makeWay_sameBut_outs (s : State) (c : BankContent) (all : Bool) :
    (s.retireForBank all).sameBut [.outs] (s.makeWay c all) := by
  unfold State.makeWay
  exact (s.retireForBank all).setOuts_sameBut _

/-- R106, R110: a whole period within the range of R166 leaves an output bound to it more room than an output that is not bound. -/
theorem period_room {num den divider : Nat} (hd : 0 < den) (h1 : den ≤ num) (h2 : num ≤ 240000 * den) (hv : 1 ≤ divider ∧ divider ≤ 65535) :
    divider * (den * 1000000000 / num) - 1 ≤ freeDelay ∧ 8 ≤ divider * (den * 1000000000 / num) / 2
    ∧ divider * (den * 1000000000 / num) / 2 ≤ freeWidth := by
  have hhi : den * 1000000000 / num ≤ 1000000000 := Nat.div_le_of_le_mul (by
    calc den * 1000000000 ≤ num * 1000000000 := Nat.mul_le_mul_right _ h1)
  have hlo : 4166 ≤ den * 1000000000 / num := (Nat.le_div_iff_mul_le (by omega)).2 (by omega)
  have hprod : divider * (den * 1000000000 / num) ≤ 65535 * 1000000000 := Nat.mul_le_mul hv.2 hhi
  have hprod' : 1 * 4166 ≤ divider * (den * 1000000000 / num) := Nat.mul_le_mul hv.1 hlo
  unfold freeDelay freeWidth
  omega

/-- R106: a polarity taken, at once or with the end of the pulse in progress. -/
theorem Output.tookPolarity {a r : Output} {p : Polarity} (h1 : r.polarity = if a.inProgress = none then p else a.polarity)
    (h2 : r.pendingPol = if a.inProgress = none ∨ p = a.polarity then none else some p) :
    if a.inProgress = none ∨ p = a.polarity then r.polarity = p ∧ r.pendingPol = none
    else r.polarity = a.polarity ∧ r.pendingPol = some p := by
  by_cases hn : a.inProgress = none
  · rw [if_pos hn] at h1
    rw [if_pos (.inl hn)] at h2 ⊢
    exact ⟨h1, h2⟩
  · rw [if_neg hn] at h1
    by_cases hp : p = a.polarity
    · rw [if_pos (.inr hp)] at h2 ⊢
      exact ⟨h1.trans hp.symm, h2⟩
    · rw [if_neg (not_or.2 ⟨hn, hp⟩)] at h2 ⊢
      exact ⟨h1, h2⟩

theorem boundRef_mem {p : Option Nat} {r : EntryRef} (h : boundRef made p = some r) : some r ∈ made := by
  obtain ⟨k, -, hk⟩ := Option.bind_eq_some_iff.1 h
  rw [List.getD_eq_getElem?_getD] at hk
  cases hm : made[k]? with
  | none => rw [hm] at hk; exact nomatch hk
  | some m =>
    rw [hm] at hk
    cases hk
    exact List.mem_of_getElem? hm

theorem State.RoomMade.takeBank_outs (h : s.RoomMade c always all x) (o : OutNo) (d : OutputDef) :
    x.outs[o].takeBank d = s.outs[o].takeBank d := by
  rcases h.outs o with e | e
  · rw [e]
  · rw [e, Output.takeBank_unbind]

theorem State.RoomMade.outputTook (h : s.RoomMade c always all x) (hc : c.ranged) (hz : x.FilledFrom c.defs made z)
    (hout : ∀ o : OutNo, z.outs[o] = x.outs[o].takeBank c.outs[o]) (o : OutNo) :
    s.outputTook c made (z.bindByPosition c.outs made) o := by
  have hzo : z.outs[o] = s.outs[o].takeBank c.outs[o] := (hout o).trans (h.takeBank_outs o _)
  rw [Output.takeBank_eq] at hzo
  unfold State.outputTook
  intro a d r
  have hent : (z.bindByPosition c.outs made).entries = z.entries := rfl
  rw [hent]
  cases hb : boundRef made d.binding with
  | none =>
    have hr : r = z.outs[o] := State.bindByPosition_free hb
    have hbind : d.binding.bind (fun k => made.getD k none) = none := hb
    rw [hbind, hr, hzo]
    refine ⟨rfl, rfl, rfl, rfl, rfl, rfl, rfl, ⟨rfl, rfl⟩, Output.tookPolarity rfl rfl⟩
  | some q =>
    have hr : r = { z.outs[o] with binding := some q }.fitTo z.entries[q.index].pf := State.bindByPosition_bound hb
    have hbind : d.binding.bind (fun k => made.getD k none) = some q := hb
    obtain ⟨k, b, hk, hbk⟩ := hz.source (boundRef_mem hb)
    obtain ⟨-, -, he⟩ := hz.filled k q b hk hbk
    obtain ⟨hden, hnum, hrate⟩ := hc.defs b (List.mem_of_getElem? hbk)
    have hpf : z.entries[q.index].pf = b.den * 1000000000 / b.num := by
      rw [he]
      obtain ⟨-, -, -, -, -, -, -, g, -⟩ : b.made q.gen .mgmt x.now x.civil (b.entry q.gen .mgmt x.now x.civil) :=
        EntryDef.entry_made (by omega) hden
      exact g
    obtain ⟨h1, h2, h3⟩ := period_room hden hnum hrate (hc.outs o)
    rw [← hpf] at h1 h2 h3
    rw [hbind, hr, hzo]
    refine ⟨rfl, rfl, rfl, rfl, rfl, rfl, rfl, ⟨?_, ?_⟩, Output.tookPolarity rfl rfl⟩
    · exact clampNat_narrow (Nat.zero_le _) h1 _
    · exact clampNat_narrow h2 h3 _

/-! ## The bank applied (R175) -/

/-- What a bank of content `c`, applied, leaves, its definitions having become `made`. -/
structure State.TookBank (s : State) (c : BankContent) (always all : Bool) (made : List (Option EntryRef)) (v : State) : Prop where
  settings : s.tookSettings c always v
  chain : v.chain = { s.chain with timeout := c.timeout, orphan := c.orphan, autoRelease := c.autoRelease, tx := v.chain.tx }
  defs : s.madeFrom all c made v
  kept : s.keptEntries all c v
  outs : ∀ o : OutNo, s.outputTook c made v o
  same : s.sameBut [.servo, .civil, .chain, .attn, .outs, .entries, .stations, .mgmtNotices, .arrivals] v

theorem State.applyBank_took (hc : c.ranged) (s : State) (always all : Bool) :
    s.TookBank c always all (s.applyBank c always all).2 (s.applyBank c always all).1 := by
  have hx := (s.bankSettled_settledBy c always).roomMade all
  rw [← State.takeSettings_eq] at hx
  generalize hu : s.takeSettings c always = u at hx
  have hz := createDefs_filled c.defs (u.makeWay c all)
  have hzs := createDefs_sameBut_entries c.defs (u.makeWay c all)
  have hstate : (s.applyBank c always all).1 = (createDefs c.defs (u.makeWay c all)).1.bindByPosition c.outs
      (createDefs c.defs (u.makeWay c all)).2 := by
    rw [State.applyBank, hu]
  have hmade : (s.applyBank c always all).2 = (createDefs c.defs (u.makeWay c all)).2 := by
    rw [State.applyBank, hu]
  rw [hstate, hmade]
  generalize (createDefs c.defs (u.makeWay c all)).1 = z at hz hzs ⊢
  generalize (createDefs c.defs (u.makeWay c all)).2 = made at hz ⊢
  have hway := u.makeWay_sameBut_outs c all
  have hzx : (u.retireForBank all).FilledFrom c.defs made z :=
    hz.of_sameBut hway (by decide) (by decide) (by decide)
  have hsame : (u.retireForBank all).sameBut [.entries, .outs] z :=
    (hway.trans hzs).mono (by decide)
  have hbind := z.bindByPosition_sameBut c.outs made
  have hzo (o : OutNo) : z.outs[o] = (u.retireForBank all).outs[o].takeBank c.outs[o] := by
    rw [show z.outs = (u.makeWay c all).outs from hzs .outs (by decide)]
    exact u.makeWay_outs c all o
  have hall : (u.retireForBank all).sameBut [.entries, .outs] (z.bindByPosition c.outs made) :=
    (hsame.trans hbind).mono (by decide)
  generalize u.retireForBank all = x at hx hzx hsame hzo hall
  have hciv : (z.bindByPosition c.outs made).civil = x.civil := hall .civil (by decide)
  have hchain : (z.bindByPosition c.outs made).chain = x.chain := hall .chain (by decide)
  have hattn : (z.bindByPosition c.outs made).attn = x.attn := hall .attn (by decide)
  constructor
  case settings =>
    refine ⟨hx.params.later (hall .servo (by decide)) (hall .cycle (by decide)) (by rw [State.shows, State.shows, hattn]; exact id), ?_,
      ?_, ?_, ?_, ?_, ?_, fun y hy => ?_⟩
    · have h := hx.civil
      unfold State.tookCivil at h ⊢
      rw [hciv]
      exact h
    · rw [hchain, hx.chain]
    · rw [hchain, hx.chain]
    · rw [hchain, hx.chain]
    · rw [hattn, hx.mode]
    · rw [hattn, hx.mask]
    · rw [show (z.bindByPosition c.outs made).stations = x.stations from hall .stations (by decide)]
      exact hx.absent y hy
  case chain =>
    rw [hchain]
    exact hx.chain
  case defs => exact hx.madeFrom hc hzx rfl hciv
  case kept => exact hx.keptEntries hzx rfl hall
  case outs => exact hx.outputTook hc hzx hzo
  case same => exact (hx.same.trans hall).mono (by decide)

end

end Sys2Proof.Machine

/-! PROOFS. O51 and O52: LOAD and the start bank load, from what a bank applied leaves. -/

namespace Sys2Proof.Machine

open Sys2Proof Config

section

variable {s v w : State} {c : BankContent} {always all : Bool} {made : List (Option EntryRef)} {cs : List Cause}

/-! ## After the bank has been applied -/

/-- What a bank has left stands where only the chain's state, the attention causes, the store and the port move. -/
theorem State.TookBank.later (h : s.TookBank c always all made v) (hs : v.sameBut [.chain, .attn, .store, .port, .outs] w)
    (hr : v.Raises w cs) (hc : w.chain.timeout = v.chain.timeout ∧ w.chain.orphan = v.chain.orphan
      ∧ w.chain.autoRelease = v.chain.autoRelease) :
    s.tookSettings c always w ∧ s.madeFrom all c made w ∧ s.keptEntries all c w := by
  have hent : w.entries = v.entries := hs .entries (by decide)
  have hciv : w.civil = v.civil := hs .civil (by decide)
  have hst : w.stations = v.stations := hs .stations (by decide)
  have hmg : w.mgmtNotices = v.mgmtNotices := hs .mgmtNotices (by decide)
  obtain ⟨hp, hcv, ht, ho, ha, hm, hk, hab⟩ := h.settings
  refine ⟨⟨hp.later (hs .servo (by decide)) (hs .cycle (by decide)) (hr.kept .servo), ?_, hc.1.trans ht, hc.2.1.trans ho,
    hc.2.2.trans ha, hr.mode.trans hm, hr.mask.trans hk, by rw [hst]; exact hab⟩, ?_, ?_⟩
  · unfold State.tookCivil at hcv ⊢
    rw [hciv]
    exact hcv
  · have hd := h.defs
    unfold State.madeFrom at hd ⊢
    rw [hent, hciv]
    exact hd
  · have hkept := h.kept
    unfold State.keptEntries State.basesFollow at hkept ⊢
    rw [hent, hciv, hst, hmg]
    exact hkept

theorem State.TookBank.outsLater (h : s.TookBank c always all made v) (hs : v.sameBut [.chain, .attn, .store, .port] w) (o : OutNo) :
    s.outputTook c made w o := by
  have hent : w.entries = v.entries := hs .entries (by decide)
  have houts : w.outs = v.outs := hs .outs (by decide)
  have hto := h.outs o
  unfold State.outputTook at hto ⊢
  rw [hent, houts]
  exact hto

theorem State.opEnded_raises (s : State) : s.Raises s.opEnded [.store] :=
  .trans (u := { s with store := { s.store with op := none } }) (.of_attn rfl) (State.raise_raises _ (.head _))

theorem State.endOp_raises (s : State) (code : Byte) (t : Tag) (st : Status) (b : Body) : s.Raises (s.endOp code t st b) [.store] := by
  rw [State.endOp_eq]
  exact s.opEnded_raises.trans ((State.setPort_sameBut_completeOp _ _).raises (by decide))

/-! ## LOAD (R175) -/

/-- R175: the positions of the definitions without an entry. -/
theorem skippedPositions_eq (made : List (Option EntryRef)) :
    skippedPositions made = (List.range made.length).filter fun k => made[k]? = some none := by
  refine List.filter_congr fun k hk => ?_
  have hlt : k < made.length := List.mem_range.1 hk
  rw [List.getD_eq_getElem?_getD, List.getElem?_eq_getElem hlt]
  cases made[k] <;> simp

theorem madeHandles_eq (made : List (Option EntryRef)) :
    (made.filterMap fun r => r.map EntryRef.handle) = (made.filterMap id).map fun r => (⟨r.index.val, r.gen⟩ : Handle) := by
  rw [List.map_filterMap]
  exact List.filterMap_congr fun r _ => by cases r <;> rfl

end

/-- Settles O51: a bank that fails its check ends the operation alone, and one that passes is applied first. -/
theorem loadAppliesBank : Obligations.LoadAppliesBank := by
  unfold Obligations.LoadAppliesBank
  intro s b t ws0 hreset hop ws c answered
  have hexec : exec .loadCompletion s = .next (s.finishLoad ⟨.load, b, some t, ws0⟩) := by
    refine congrArg Host.Outcome.next ((State.whenReleased_deasserted hreset _).trans ?_)
    rw [hop]
    rfl
  refine ⟨fun hbad => ?_, fun hok => ?_⟩
  · have hfin : s.finishLoad ⟨.load, b, some t, ws0⟩ = s.endOp 0x26#8 t .storeFault .empty := by
      rw [State.finishLoad]
      exact if_neg (by rw [Bool.not_eq_true]; exact hbad)
    refine ⟨_, hexec.trans (by rw [hfin]), ⟨s.endOp_store _ _ _ _, s.endOp_shows _ _ _ _, s.endOp_deliversTo _ _ _ _⟩,
      (s.endOp_sameBut _ _ _ _).mono (by decide)⟩
  · have htook := State.applyBank_took (readBank_ranged ws) s false false
    have hfin : s.finishLoad ⟨.load, b, some t, ws0⟩ = (s.applyBank c false false).1.endOp 0x26#8 t
        (if skippedPositions (s.applyBank c false false).2 = [] then .ok else .partially)
        (.loaded ((s.applyBank c false false).2.filterMap fun r => r.map EntryRef.handle)
          (skippedPositions (s.applyBank c false false).2)) := by
      rw [State.finishLoad]
      exact if_pos hok
    generalize (s.applyBank c false false).1 = v at htook hfin
    generalize (s.applyBank c false false).2 = made at htook hfin
    rw [skippedPositions_eq, madeHandles_eq] at hfin
    rw [hfin] at hexec
    have hstore : v.store = s.store := htook.same .store (by decide)
    have hport : v.port = s.port := htook.same .port (by decide)
    have hchain (code : Byte) (st : Status) (r : Body) : (v.endOp code t st r).chain = v.chain :=
      (v.endOp_sameBut code t st r) .chain (by decide)
    have hl (code : Byte) (st : Status) (r : Body) := htook.later ((v.endOp_sameBut code t st r).mono (by decide))
      (v.endOp_raises code t st r) (by rw [hchain]; exact ⟨rfl, rfl, rfl⟩)
    obtain ⟨h1, h2, h3⟩ := hl _ _ _
    refine ⟨_, made, hexec, ⟨?_, v.endOp_shows _ _ _ _, (v.endOp_deliversTo _ _ _ _).of_port hport⟩, h1, ?_, h2, h3,
      htook.outsLater ((v.endOp_sameBut _ _ _ _).mono (by decide)), (htook.same.trans (v.endOp_sameBut _ _ _ _)).mono (by decide)⟩
    · rw [v.endOp_store, hstore]
    · rw [hchain, htook.chain]

/-! ## The start bank load (R176, R177) -/

/-- R132, R176: the chain released when its settings say so. -/
def State.autoReleased (s : State) : State := if s.chain.autoRelease then s.releaseChain else s

theorem State.applyStartBank_eq (s : State) (c : BankContent) (ok : Bool) :
    s.applyStartBank c ok = (s.applyBank c true (!ok)).1.autoReleased := rfl

section

variable {s v w : State} {c : BankContent} {ok : Bool} {made : List (Option EntryRef)} {cs : List Cause}

theorem State.autoReleased_sameBut (s : State) : s.sameBut [.chain, .attn] s.autoReleased :=
  .ite (fun _ => s.releaseChain_sameBut.mono (by decide)) fun _ => .refl s _

theorem State.releaseChain_raises (s : State) : s.Raises s.releaseChain [.chain] := by
  refine .ite (fun _ => .ite (fun _ => ?_) fun _ => ?_) fun _ => .refl s
  · exact .trans (u := { s with chain := { s.chain with state := .running, step := .polls, cursor := 0, chosen := none } })
      (.of_attn rfl) (State.raise_raises _ (.head _))
  · exact .trans (u := { s with chain := { s.chain with state := .broken } }) (.of_attn rfl) (State.raise_raises _ (.head _))

theorem State.autoReleased_raises (s : State) : s.Raises s.autoReleased [.chain] :=
  .ite (fun _ => s.releaseChain_raises) fun _ => .refl s

theorem State.autoReleased_chain (s : State) : s.autoReleased.chain.timeout = s.chain.timeout
    ∧ s.autoReleased.chain.orphan = s.chain.orphan ∧ s.autoReleased.chain.autoRelease = s.chain.autoRelease := by
  unfold State.autoReleased
  split
  · obtain ⟨st, step, cursor, chosen, h⟩ := s.releaseChain_chain
    rw [h]
    exact ⟨rfl, rfl, rfl⟩
  · exact ⟨rfl, rfl, rfl⟩

/-- R132: the state of the chain after an automatic release. -/
theorem State.autoReleased_state (s : State) :
    (s.chain.state = .held → s.chain.autoRelease = true →
      ((∃ n, s.liveRun = some n ∧ liveRunGoal ≤ n) → s.autoReleased.chain.state = .running)
      ∧ (¬(∃ n, s.liveRun = some n ∧ liveRunGoal ≤ n) → s.autoReleased.chain.state = .broken))
    ∧ (s.chain.state ≠ .held ∨ s.chain.autoRelease = false → s.autoReleased.chain.state = s.chain.state) := by
  unfold State.autoReleased
  refine ⟨fun hh ha => ?_, fun h => ?_⟩
  · obtain ⟨-, h1, h2⟩ := s.releaseChain_held hh
    rw [if_pos ha]
    refine ⟨fun ⟨n, hn, hg⟩ => by rw [h1 n hn hg], fun hno => by rw [h2 fun n hn => Nat.lt_of_not_le fun hg => hno ⟨n, hn, hg⟩]⟩
  · split
    · next ha =>
      have hh : s.chain.state ≠ .held := h.resolve_right fun g => by rw [ha] at g; exact nomatch g
      rw [s.releaseChain_free hh]
    · rfl

/-- What a start bank load leaves, its content applied, the chain released where it says so, and the store and the port at `w`. -/
theorem State.TookBank.started (h : s.TookBank c true (!ok) made v) (hs : v.autoReleased.sameBut [.attn, .store, .port, .outs] w)
    (hr : v.autoReleased.Raises w cs) :
    s.tookSettings c true w ∧ s.madeFrom (!ok) c made w ∧ s.keptEntries (!ok) c w
    ∧ s.sameBut [.servo, .civil, .chain, .attn, .outs, .entries, .stations, .mgmtNotices, .arrivals, .store, .port] w
    ∧ (s.chain.state = .held → c.autoRelease = true →
      ((∃ a d, s.chain.liveStart = some a ∧ s.chain.lastDelim = some d ∧ s.cycle - d ≤ 12500 ∧ 125000 ≤ s.cycle - a) →
        w.chain.state = .running)
      ∧ (¬(∃ a d, s.chain.liveStart = some a ∧ s.chain.lastDelim = some d ∧ s.cycle - d ≤ 12500 ∧ 125000 ≤ s.cycle - a) →
        w.chain.state = .broken))
    ∧ (s.chain.state ≠ .held ∨ c.autoRelease = false → w.chain.state = s.chain.state) := by
  have hwc : w.chain = v.autoReleased.chain := hs .chain (by decide)
  have hcycle : v.cycle = s.cycle := h.same .cycle (by decide)
  obtain ⟨h1, h2, h3⟩ := h.later ((v.autoReleased_sameBut.trans hs).mono (by decide))
    ((v.autoReleased_raises.mono (List.subset_append_left [.chain] cs)).trans (hr.mono (List.subset_append_right [.chain] cs)))
    (by rw [hwc]; exact v.autoReleased_chain)
  have hlive : (∃ n, v.liveRun = some n ∧ liveRunGoal ≤ n) ↔ ∃ a d, s.chain.liveStart = some a ∧ s.chain.lastDelim = some d
      ∧ s.cycle - d ≤ 12500 ∧ 125000 ≤ s.cycle - a := by
    rw [State.liveRun_reaches, h.chain, hcycle]
  have hstate : v.chain.state = s.chain.state := by rw [h.chain]
  have hauto : v.chain.autoRelease = c.autoRelease := by rw [h.chain]
  obtain ⟨h4, h5⟩ := v.autoReleased_state
  rw [hstate, hauto, hlive] at h4
  rw [hstate, hauto] at h5
  rw [hwc]
  exact ⟨h1, h2, h3, (h.same.trans (v.autoReleased_sameBut.trans hs)).mono (by decide), h4, h5⟩

theorem State.setStartOk_store (s : State) (ok : Bool) : (s.setStartOk ok).store = { s.store with startOk := ok } := rfl

theorem State.endStart_store (s : State) (ok : Bool) : (s.endStart ok).store = { s.store with op := none, startOk := ok } := rfl

theorem State.finishHardStart_passes {x : StoreOp} (h : bankPasses s.store.banks[x.bank] = true) :
    s.finishHardStart x = (s.applyStartBank (readBank s.store.banks[x.bank]) true).endStart true := by
  rw [State.finishHardStart]
  exact if_pos h

theorem State.finishHardStart_fails {x : StoreOp} (h : bankPasses s.store.banks[x.bank] = false) :
    s.finishHardStart x = State.raise .store
      (((s.applyStartBank BankContent.builtIn false).mapOutputs fun _ => Output.builtIn).endStart false) := by
  rw [State.finishHardStart]
  exact if_neg (by rw [h]; decide)

theorem State.finishSoftStart_eq (s : State) (x : StoreOp) (t : Tag) : s.finishSoftStart x t
    = ((s.applyStartBank (if bankPasses s.store.banks[x.bank] then readBank s.store.banks[x.bank] else BankContent.builtIn)
        (bankPasses s.store.banks[x.bank])).setStartOk (bankPasses s.store.banks[x.bank])).endOp 0x27#8 t .ok
        (.resetDone (bankPasses s.store.banks[x.bank])) := by
  rw [State.finishSoftStart]
  rfl

end

/-- Settles O52: the bank or the built-in content applied, the chain released by its flag, and the end of the operation. -/
theorem startBankLoads : Obligations.StartBankLoads := by
  unfold Obligations.StartBankLoads
  intro s b tag ws0 hreset hop ws ok c all live loaded
  have hc : c.ranged := by
    by_cases h : ok = true
    · rw [show c = readBank ws from if_pos h]
      exact readBank_ranged ws
    · rw [show c = BankContent.builtIn from if_neg h]
      exact BankContent.builtIn_ranged
  have htook := State.applyBank_took hc s true all
  have hexec (x : StoreOp) (hx : s.store.op = some x) (hk : x.kind = .startBank) : exec .startBankLoadCompletion s
      = .next (match x.tag with
        | none => s.finishHardStart x
        | some t => s.finishSoftStart x t) := by
    refine congrArg Host.Outcome.next ((State.whenReleased_deasserted hreset _).trans ?_)
    rw [hx]
    exact if_pos hk
  have hstart : s.applyStartBank c ok = (s.applyBank c true all).1.autoReleased := rfl
  generalize (s.applyBank c true all).1 = v at htook hstart
  generalize (s.applyBank c true all).2 = made at htook
  have hvs : v.autoReleased.store = s.store := (v.autoReleased_sameBut .store (by decide)).trans (htook.same .store (by decide))
  have hvp : v.autoReleased.port = s.port := (v.autoReleased_sameBut .port (by decide)).trans (htook.same .port (by decide))
  refine ⟨fun htag hok => ?_, fun htag hbad => ?_, fun t htag => ?_⟩
  · subst htag
    have hfin : s.finishHardStart ⟨.startBank, b, none, ws0⟩ = v.autoReleased.endStart ok := by
      rw [← hstart, show c = readBank ws from if_pos hok, hok]
      exact State.finishHardStart_passes hok
    have hend := v.autoReleased.endStart_sameBut ok
    obtain ⟨h1, h2, h3, h4, h5, h6⟩ := htook.started (hend.mono (by decide)) (cs := []) (.of_attn rfl)
    refine ⟨v.autoReleased.endStart ok, made, ?_, ⟨h1, ?_, h3, h4, h5, h6⟩, h2,
      htook.outsLater ((v.autoReleased_sameBut.trans hend).mono (by decide)), hvp⟩
    · rw [← hfin]
      exact hexec _ hop rfl
    · rw [State.endStart_store, hvs]
  · subst htag
    set u := (v.autoReleased.mapOutputs fun _ => Output.builtIn).endStart ok with hu
    have hfin : s.finishHardStart ⟨.startBank, b, none, ws0⟩ = State.raise .store u := by
      rw [hu, ← hstart, show c = BankContent.builtIn from if_neg (by rw [hbad]; decide), hbad]
      exact State.finishHardStart_fails hbad
    have hu' : v.autoReleased.sameBut [.outs, .store] u := (v.autoReleased.mapOutputs_sameBut _).trans (State.endStart_sameBut _ ok)
    have hend : v.autoReleased.sameBut [.outs, .store, .attn] (State.raise .store u) := hu'.trans (u.raise_sameBut .store)
    have hraise : v.autoReleased.Raises (State.raise .store u) [.store] :=
      (hu'.raises (by decide)).trans (State.raise_raises _ (.head _))
    obtain ⟨h1, h2, h3, h4, h5, h6⟩ := htook.started (hend.mono (by decide)) hraise
    have hnil : made = [] := by
      have hlen := htook.defs.1
      rw [show c = BankContent.builtIn from if_neg (by rw [hbad]; decide)] at hlen
      exact List.eq_nil_of_length_eq_zero hlen
    refine ⟨State.raise .store u, ?_, ⟨h1, ?_, h3, h4, h5, h6⟩, hnil ▸ h2, fun o => ?_, State.raise_shows _ _, ?_⟩
    · rw [← hfin]
      exact hexec _ hop rfl
    · rw [show (State.raise .store u).store = u.store from (u.raise_sameBut .store) .store (by decide), hu,
        State.endStart_store, State.mapOutputs_store, hvs]
    · rw [show (State.raise .store u).outs = u.outs from (u.raise_sameBut .store) .outs (by decide), hu,
        show ((v.autoReleased.mapOutputs fun _ => Output.builtIn).endStart ok).outs = _ from
          (State.endStart_sameBut _ ok) .outs (by decide)]
      exact State.mapOutputs_at _ _ o
    · rw [hend .port (by decide), hvp]
  · subst htag
    set u := v.autoReleased.setStartOk ok with hu
    have hfin : s.finishSoftStart ⟨.startBank, b, some t, ws0⟩ t = u.endOp 0x27#8 t .ok (.resetDone ok) := by
      rw [hu, ← hstart]
      exact s.finishSoftStart_eq _ t
    have hu' : v.autoReleased.sameBut [.store] u := v.autoReleased.setStore_sameBut _
    have hend : v.autoReleased.sameBut [.store, .attn, .port] (u.endOp 0x27#8 t .ok (.resetDone ok)) :=
      (hu'.trans (u.endOp_sameBut _ _ _ _)).mono (by decide)
    have hraise : v.autoReleased.Raises (u.endOp 0x27#8 t .ok (.resetDone ok)) [.store] :=
      (hu'.raises (by decide)).trans (u.endOp_raises _ _ _ _)
    obtain ⟨h1, h2, h3, h4, h5, h6⟩ := htook.started (hend.mono (by decide)) hraise
    refine ⟨_, made, ?_, ⟨h1, ?_, h3, h4, h5, h6⟩, h2, htook.outsLater ((v.autoReleased_sameBut.trans hend).mono (by decide)),
      u.endOp_shows _ _ _ _, (u.endOp_deliversTo _ _ _ _).of_port hvp⟩
    · rw [← hfin]
      exact hexec _ hop rfl
    · rw [u.endOp_store, hu, State.setStartOk_store, hvs]

end Sys2Proof.Machine

/-! PROOFS. O56: the addressee of a service frame, and the frame that goes out or yields to a report (R139 to R141, R146, R147). -/

namespace Sys2Proof.Machine

open Sys2Proof Config

/-! ## First members -/

theorem find?_finRange_eq {n : Nat} {p : Fin n → Bool} {x : Fin n} (hx : p x = true) (hlow : ∀ y, y < x → p y = false) :
    (List.finRange n).find? p = some x := by
  cases hf : (List.finRange n).find? p with
  | none => exact absurd hx (List.find?_eq_none.1 hf x (List.mem_finRange x))
  | some z =>
    obtain ⟨hz, as, bs, heq, has⟩ := List.find?_eq_some_iff_append.1 hf
    have hsort := List.pairwise_lt_finRange n
    rw [heq] at hsort
    have hmem : x ∈ as ++ z :: bs := heq ▸ List.mem_finRange x
    rcases List.mem_append.1 hmem with hm | hm
    · have := has x hm
      rw [hx] at this
      exact nomatch this
    · rcases List.mem_cons.1 hm with rfl | hm
      · rfl
      · have hlt := (List.pairwise_cons.1 (List.pairwise_append.1 hsort).2.1).1 x hm
        rw [hlow z hlt] at hz
        exact nomatch hz

section

variable {s : State} {x : Addr} {k : FrameKind}

/-! ## The addressee (R139 to R141) -/

theorem State.pollTurn_eq {cursor : Nat} (hc : cursor ≤ x.val) (hx : s.stations[x].polled = true)
    (hlow : ∀ y : Addr, cursor ≤ y.val → y < x → s.stations[y].polled = false) : s.pollTurn cursor = some ⟨.poll, x, .polls, x.val⟩ := by
  rw [State.pollTurn, find?_finRange_eq (x := x)]
  · rfl
  · simp only [hx, Bool.and_true, decide_eq_true_eq]
    exact hc
  · intro y hy
    by_cases hcy : cursor ≤ y.val
    · rw [hlow y hcy hy, Bool.and_false]
    · rw [decide_eq_false hcy, Bool.false_and]

theorem State.pollTurn_none {cursor : Nat} (h : ∀ y : Addr, cursor ≤ y.val → s.stations[y].polled = false) :
    s.pollTurn cursor = none := by
  rw [State.pollTurn, Option.map_eq_none_iff, List.find?_eq_none]
  intro y _
  simp only [Bool.and_eq_true, decide_eq_true_eq, not_and]
  intro hy
  rw [h y hy]
  decide

theorem State.discoverTurn_eq {j : Nat} (hj : j < 30) (hx : x.val = (s.chain.pointer + j) % 30) (habs : s.stations[x].state = .absent)
    (hlow : ∀ k : Nat, k < j → ∀ y : Addr, y.val = (s.chain.pointer + k) % 30 → s.stations[y].state ≠ .absent) :
    s.discoverTurn = some ⟨.discover, x, .discover, 0⟩ := by
  have hxj : (⟨(s.chain.pointer + j) % 30, by omega⟩ : Addr) = x := Fin.ext hx.symm
  rw [State.discoverTurn, rotation, List.find?_map, find?_finRange_eq (x := (⟨j, hj⟩ : Fin 30))]
  · simp only [Option.map_some, hxj]
  · simp only [Function.comp_apply, hxj, habs, decide_true]
  · intro m hm
    exact decide_eq_false (hlow m.val hm _ rfl)

theorem State.discoverTurn_none (h : ∀ y : Addr, s.stations[y].state ≠ .absent) : s.discoverTurn = none := by
  rw [State.discoverTurn, Option.map_eq_none_iff, List.find?_eq_none]
  exact fun y _ => by simpa using h y

theorem State.olderDue_skip {y : Addr} {best : Option Addr} (hr : ¬s.stations[y].rangeable = true) : s.olderDue best y = best :=
  if_neg hr

theorem State.olderDue_foldl_none (h : ∀ y : Addr, s.stations[y].rangeable = false) (l : List Addr) :
    l.foldl s.olderDue none = none := by
  induction l with
  | nil => rfl
  | cons y l ih =>
    rw [List.foldl_cons, State.olderDue_skip (by rw [h y]; decide)]
    exact ih

theorem State.rangeTurn_none (h : ∀ y : Addr, s.stations[y].rangeable = false) : s.rangeTurn = none := by
  rw [State.rangeTurn, State.olderDue_foldl_none h]
  rfl

theorem State.olderDue_none {y : Addr} (hr : s.stations[y].rangeable = true) : s.olderDue none y = some y := if_pos hr

theorem State.olderDue_some {y b : Addr} (hr : s.stations[y].rangeable = true) : s.olderDue (some b) y =
    if s.stations[y].dueSince.getD 0 < s.stations[b].dueSince.getD 0 then some y else some b := if_pos hr

/-- Station `x` may be ranged, and has been due longer than any other that may, or as long with a lower address. -/
def State.duest (s : State) (x : Addr) : Prop :=
  s.stations[x].rangeable = true ∧ ∀ y : Addr, s.stations[y].rangeable = true → y ≠ x →
    s.stations[x].dueSince.getD 0 < s.stations[y].dueSince.getD 0 ∨ s.stations[x].dueSince = s.stations[y].dueSince ∧ x < y

/-- The station due the longest takes the lead when it is met, and keeps it. -/
theorem State.duest.foldl (h : s.duest x) (l : List Addr) (hs : l.Pairwise (· < ·)) (best : Option Addr)
    (hb : best = some x ∨ x ∈ l ∧ ∀ y, best = some y → s.stations[y].rangeable = true ∧ y < x) : l.foldl s.olderDue best = some x := by
  induction l generalizing best with
  | nil => exact hb.resolve_right fun g => List.not_mem_nil g.1
  | cons y l ih =>
    obtain ⟨hx, hmin⟩ := h
    obtain ⟨hy, hl⟩ := List.pairwise_cons.1 hs
    refine ih hl _ ?_
    by_cases hr : s.stations[y].rangeable = true
    · rcases hb with rfl | ⟨hm, hbest⟩
      · left
        rw [State.olderDue_some hr, if_neg]
        by_cases hyx : y = x
        · rw [hyx]
          exact lt_irrefl _
        · rcases hmin y hr hyx with g | ⟨g, -⟩
          · exact not_lt.2 g.le
          · rw [g]
            exact lt_irrefl _
      · rcases List.mem_cons.1 hm with rfl | hm
        · left
          cases best with
          | none => exact State.olderDue_none hr
          | some b =>
            obtain ⟨hrb, hlt⟩ := hbest b rfl
            rw [State.olderDue_some hr]
            rcases hmin b hrb hlt.ne with g | ⟨-, g⟩
            · exact if_pos g
            · exact absurd g hlt.asymm
        · refine .inr ⟨hm, fun z hz => ?_⟩
          cases best with
          | none =>
            rw [State.olderDue_none hr] at hz
            cases hz
            exact ⟨hr, hy x hm⟩
          | some b =>
            rw [State.olderDue_some hr] at hz
            split at hz
            · cases hz
              exact ⟨hr, hy x hm⟩
            · cases hz
              exact hbest _ rfl
    · rw [State.olderDue_skip hr]
      refine hb.imp_right fun ⟨hm, hbest⟩ => ⟨?_, hbest⟩
      rcases List.mem_cons.1 hm with rfl | hm
      · exact absurd hx hr
      · exact hm

theorem State.rangeTurn_eq (h : s.duest x) : s.rangeTurn = some ⟨.range, x, .range, 0⟩ := by
  rw [State.rangeTurn, h.foldl _ (List.pairwise_lt_finRange 30) none (.inr ⟨List.mem_finRange x, nofun⟩)]
  rfl

/-! ## The order of the steps (R139) -/

theorem State.nextTurn_polls (h : s.chain.step = .polls) :
    s.nextTurn = (s.pollTurn s.chain.cursor).or (s.discoverTurn.or (s.rangeTurn.or (s.pollTurn 0))) := by
  rw [State.nextTurn, h]

theorem State.nextTurn_discover (h : s.chain.step = .discover) : s.nextTurn = s.discoverTurn.or (s.rangeTurn.or (s.pollTurn 0)) := by
  rw [State.nextTurn, h]

theorem State.nextTurn_range (h : s.chain.step = .range) : s.nextTurn = s.rangeTurn.or ((s.pollTurn 0).or s.discoverTurn) := by
  rw [State.nextTurn, h]

/-- The addressees of a state do not hang on the step and the cursor. -/
theorem State.turns_atStep (s : State) (step : CycleStep) (cursor : Nat) :
    State.pollTurn { s with chain := { s.chain with step := step, cursor := cursor } } 0 = s.pollTurn 0
    ∧ State.discoverTurn { s with chain := { s.chain with step := step, cursor := cursor } } = s.discoverTurn
    ∧ State.rangeTurn { s with chain := { s.chain with step := step, cursor := cursor } } = s.rangeTurn := ⟨rfl, rfl, rfl⟩

theorem State.moveOn_some {n : Turn} (h : s.nextTurn = some n) :
    s.moveOn = { s with chain := { s.chain with step := n.step, cursor := n.cursor, chosen := some n.addr } } := by
  rw [State.moveOn, h]

theorem State.moveOn_none (h : s.nextTurn = none) :
    s.moveOn = { s with chain := { s.chain with step := .polls, cursor := 0, chosen := none } } := by
  rw [State.moveOn, h]

/-! ## The frame (R146, R147, R157) -/

theorem State.choose_chosen (h : s.chain.chosen = some x) : s.choose = s := by
  rw [State.choose, if_neg]
  simp [State.choiceDue, h]

theorem State.admits_iff (s : State) (bits : Nat) : s.admits bits = true ↔
    ∀ (y : Addr) (s0 : Int), s.holdsReport y = some s0 → ((s.now + 40 * bits : Nat) : Int) + 1000 ≤ s0 - 360 := by
  have hy (y : Addr) : (match s.holdsReport y with
      | some s0 => decide (((s.now + 8 * cyclesPerBit * bits + 1000 : Nat) : Int) ≤ s0 - 360)
      | none => true) = true ↔ ∀ s0, s.holdsReport y = some s0 → ((s.now + 40 * bits : Nat) : Int) + 1000 ≤ s0 - 360 := by
    cases s.holdsReport y with
    | none => simp
    | some s0 =>
      simp only [decide_eq_true_eq, Option.some.injEq, forall_eq', cyclesPerBit]
      push_cast
      omega
  rw [State.admits, List.all_eq_true]
  exact ⟨fun h y => (hy y).1 (h y (List.mem_finRange y)), fun h y _ => (hy y).2 (h y)⟩

/-- R139: a service frame of kind `k` can stand on the line now. -/
def State.mayServe (s : State) (k : FrameKind) : Prop :=
  s.chain.step.frame = k ∧ s.chain.state = .running ∧ s.chain.svc = none ∧ s.chain.tx = none ∧ s.chain.lineBase ≤ s.cycle
  ∧ (s.cycle - s.chain.lineBase) % 50 = 0

theorem State.serviceDue_eq (hx : s.chain.chosen = some x) : s.serviceDue k =
    if s.chain.step.frame = k ∧ s.chain.state = .running ∧ s.chain.svc = none ∧ s.lineFree
      ∧ s.admits (frameBits k x (s.serviceBody k x)) then some x else none := by
  rw [State.serviceDue, hx]

theorem State.serve1_forms (hx : s.chain.chosen = some x) (h : s.mayServe k) (ha : s.admits (frameBits k x (s.serviceBody k x)) = true) :
    s.serve1 k = if s.qualifies k x then s.sendService k x else s.passOver k x := by
  obtain ⟨h1, h2, h3, h4⟩ := h
  have hdue : s.serviceDue k = some x := by
    rw [State.serviceDue_eq hx]
    exact if_pos ⟨h1, h2, h3, s.lineFree_iff.2 h4, ha⟩
  rw [State.serve1, State.choose_chosen hx, State.formService, hdue]

theorem State.serve1_waits (hx : s.chain.chosen = some x) (h : ¬(s.mayServe k ∧ s.admits (frameBits k x (s.serviceBody k x)) = true)) :
    s.serve1 k = s := by
  have hdue : s.serviceDue k = none := by
    rw [State.serviceDue_eq hx]
    exact if_neg fun ⟨h1, h2, h3, h4, ha⟩ => h ⟨⟨h1, h2, h3, s.lineFree_iff.1 h4⟩, ha⟩
  rw [State.serve1, State.choose_chosen hx, State.formService, hdue]

theorem State.serve1_unchosen (hc : s.choose.chain.chosen = none) : s.serve1 k = s.choose := by
  rw [State.serve1, State.formService, State.serviceDue, hc]

/-- R139: the command that forms a frame of kind `k`. -/
def FrameKind.command : FrameKind → Instr
  | .discover => .discoverSend
  | .range => .rangeSend
  | _ => .pollSend

theorem exec_command (hr : s.resetPin = false) (hk : k ≠ .report) : exec k.command s = .next (s.serve1 k) := by
  cases k with
  | report => exact absurd rfl hk
  | poll | discover | range => exact congrArg Host.Outcome.next (State.whenReleased_deasserted hr _)

theorem exists_command {cmd : Instr} (h : cmd = .pollSend ∨ cmd = .discoverSend ∨ cmd = .rangeSend) :
    ∃ m : FrameKind, cmd = m.command ∧ m ≠ .report := by
  rcases h with rfl | rfl | rfl
  · exact ⟨.poll, rfl, nofun⟩
  · exact ⟨.discover, rfl, nofun⟩
  · exact ⟨.range, rfl, nofun⟩

/-- R157: the frame formed stands on CTX bit by bit. -/
theorem State.ctxHigh_sent (hr : s.resetPin = false) {n : Nat} (hn : n < 5 * frameBits k x (s.serviceBody k x)) :
    State.ctxHigh { s.sendService k x with cycle := s.cycle + n }
      = (lineOf (addrByte x) k.code (s.serviceBody k x)).getD (n / 5) false := by
  have hlt : n / 5 < (lineOf (addrByte x) k.code (s.serviceBody k x)).length :=
    Nat.div_lt_of_lt_mul hn
  have hsub : s.cycle + n - s.cycle = n := Nat.add_sub_cancel_left _ _
  have hlevel : State.ctxHigh { s.sendService k x with cycle := s.cycle + n }
      = (lineOf (addrByte x) k.code (s.serviceBody k x)).getD ((s.cycle + n - s.cycle) / 5)
        (fillLevel (s.cycle + 5 * (lineOf (addrByte x) k.code (s.serviceBody k x)).length) (s.cycle + n)) :=
    if_neg (by rw [show (s.sendService k x).resetPin = s.resetPin from rfl, hr]; decide)
  rw [hlevel, hsub, List.getD_eq_getElem?_getD, List.getD_eq_getElem?_getD, List.getElem?_eq_getElem hlt]
  rfl

/-- R180: the segment that a POLL carries. -/
theorem segmentOf_eq (res : Result) (m : Nat) : segmentOf res m
    = ((res.octets.drop (45 * m)).take 45, decide (res.octets.length ≤ 45 * m + 45)) := by
  have h : decide ((res.octets.drop (m * 45)).length ≤ 45) = decide (res.octets.length ≤ 45 * m + 45) := by
    refine decide_eq_decide.2 ?_
    rw [List.length_drop]
    omega
  rw [Nat.mul_comm 45 m] at h ⊢
  rw [← h]
  rfl

/-- R179: the first octet of a POLL. -/
theorem pollHead_eq (slot cls : Nat) (o : Option Tag) (notices : List Idx) :
    slot + (if o.isSome then 4 else 0) + (if notices = [] then 0 else 8) + 16 * cls
      = slot + (if o = none then 0 else 4) + (if notices = [] then 0 else 8) + 16 * cls := by
  cases o <;> rfl

end

/-- Settles O56: the frame by whether it may stand, is admitted and its addressee qualifies; the addressee by the order of the
steps. -/
theorem serviceFramesYieldToReports : Obligations.ServiceFramesYieldToReports := by
  unfold Obligations.ServiceFramesYieldToReports
  refine ⟨fun s x hreset hx => ?_, fun s cmd hreset hcmd hnone => ?_, fun s => ?_⟩
  · intro r c kind cmd polled qualifies segment final head body line bits behind
    have hkind : kind = s.chain.step.frame := by
      simp only [kind, c]
      cases s.chain.step <;> rfl
    have hcmd : cmd = kind.command := by
      simp only [cmd, kind, c]
      cases s.chain.step <;> rfl
    have hnr : kind ≠ .report := by
      simp only [kind, c]
      cases s.chain.step <;> exact nofun
    have hpolled : polled ↔ r.polled = true := by
      simp only [polled, Station.polled, Bool.or_eq_true, decide_eq_true_eq, or_assoc]
    have hrange : (r.state = .joining ∨ r.state = .present) ∧ r.rangeDue = true ↔ r.rangeable = true := by
      simp only [Station.rangeable, Bool.and_eq_true, Bool.or_eq_true, decide_eq_true_eq]
    have hq : qualifies ↔ s.qualifies kind x = true := by
      simp only [qualifies, kind, c]
      cases s.chain.step with
      | polls => exact hpolled
      | discover => exact (decide_eq_true_iff).symm
      | range => exact hrange
    have hbehind : behind = s.chain.passed kind x := by
      simp only [behind, kind, c]
      cases s.chain.step <;> rfl
    have hbody : body = s.serviceBody kind x := by
      simp only [body, kind, c]
      cases s.chain.step with
      | polls =>
        show _ = pollBody r s.quality
        have hhead (n : Nat) : head n = BitVec.ofNat 8
            (n + (if r.owed.isSome then 4 else 0) + (if r.notices = [] then 0 else 8) + 16 * s.quality) := by
          rw [pollHead_eq]
        unfold pollBody
        cases r.slot with
        | empty => simp only [hhead]
        | request q => simp only [hhead]
        | result res => simp only [hhead, segmentOf_eq, final, segment]
      | discover => rfl
      | range => rfl
    have hline : line = lineOf (addrByte x) kind.code (s.serviceBody kind x) := by
      simp only [line, hbody]
      rfl
    have hbits : bits = frameBits kind x (s.serviceBody kind x) := congrArg List.length hline
    have hexec : exec cmd s = .next (s.serve1 kind) := by
      rw [hcmd]
      exact exec_command hreset hnr
    refine ⟨fun hrun hsvc htx hbase hmod => ⟨fun hadm => ⟨fun hqual => ?_, fun hnq => ?_⟩, fun ⟨y, s0, hy, hlate⟩ => ?_⟩,
      fun hno => ?_, fun other hother hne => ?_⟩
    · have hserve : s.serve1 kind = s.sendService kind x :=
        (State.serve1_forms hx ⟨hkind.symm, hrun, hsvc, htx, hbase, hmod⟩ ((s.admits_iff _).2 (hbits ▸ hadm))).trans (if_pos (hq.1 hqual))
      refine ⟨s.sendService kind x, by rw [hexec, hserve], ?_, fun n hn => ?_, State.setChain_sameBut s _⟩
      · have hpoll : kind = .poll ↔ c.step = .polls := by
          simp only [kind, c]
          cases s.chain.step <;> simp
        have hdisc : kind = .discover ↔ c.step = .discover := by
          simp only [kind, c]
          cases s.chain.step <;> simp
        have hsent (seg : Option (Nat × Bool)) (hseg : seg = r.carried) : (s.sendService kind x).chain = { behind with
            pointer := if c.step = .discover then x.val + 1 else c.pointer
            svc := some {
              kind := kind, addr := x, window := none, segment := if c.step = .polls then seg else none
              refusal := if c.step = .polls then r.owed else none }
            tx := some { kind := kind, addr := x, body := body, startCycle := s.cycle, startTime := s.now, bits := bits,
                         mark := 0, live := false }
            reportEnd := none } := by
          rw [hseg, hbehind, hbody, hbits]
          simp only [← hpoll, ← hdisc]
          rfl
        refine hsent _ ?_
        unfold Station.carried
        cases r.slot with
        | empty => rfl
        | request q => rfl
        | result res =>
          show some (r.segment, final res) = some (r.segment, (segmentOf res r.segment).2)
          simp only [segmentOf_eq, final]
      · rw [hline]
        exact State.ctxHigh_sent hreset (hbits ▸ hn)
    · have hserve : s.serve1 kind = s.passOver kind x :=
        (State.serve1_forms hx ⟨hkind.symm, hrun, hsvc, htx, hbase, hmod⟩ ((s.admits_iff _).2 (hbits ▸ hadm))).trans
          (if_neg (mt hq.2 hnq))
      rw [hexec, hserve, hbehind]
      rfl
    · have hwait : ¬(s.mayServe kind ∧ s.admits (frameBits kind x (s.serviceBody kind x)) = true) := by
        rintro ⟨-, ha⟩
        have := (s.admits_iff _).1 ha y s0 hy
        rw [← hbits] at this
        omega
      rw [hexec, State.serve1_waits hx hwait]
    · have hwait : ¬(s.mayServe kind ∧ s.admits (frameBits kind x (s.serviceBody kind x)) = true) := by
        rintro ⟨⟨-, h1, h2, h3, h4, h5⟩, -⟩
        rcases hno with g | g | g | g | g
        · exact g h1
        · exact g h2
        · exact g h3
        · exact absurd h4 (not_le.2 g)
        · exact g h5
      rw [hexec, State.serve1_waits hx hwait]
    · obtain ⟨m, hm, hmr⟩ := exists_command hother
      have hwait : ¬(s.mayServe m ∧ s.admits (frameBits m x (s.serviceBody m x)) = true) := by
        rintro ⟨⟨h, -⟩, -⟩
        exact hne (by rw [hm, hcmd, hkind, h])
      rw [hm, exec_command hreset hmr, State.serve1_waits hx hwait]
  · obtain ⟨m, rfl, hmr⟩ := exists_command hcmd
    refine ⟨fun hrun hsvc hturn => ?_, fun hno => ?_⟩
    · have hdue : s.choiceDue = true := by
        simp only [State.choiceDue, hrun, hsvc, hnone, Option.isSome_iff_ne_none.2 hturn, decide_true, Option.isNone_none, Bool.and_true]
      obtain ⟨n, hn⟩ := Option.ne_none_iff_exists'.1 hturn
      have hmove : s.moveOn.chain.chosen = some n.addr := by rw [State.moveOn_some hn]
      have hpin : s.moveOn.resetPin = false := by rw [State.moveOn_some hn]; exact hreset
      rw [exec_command hreset hmr, exec_command hpin hmr, State.serve1, State.serve1, State.choose_chosen hmove,
        State.choose, if_pos hdue]
    · have hdue : ¬s.choiceDue = true := by
        simp only [State.choiceDue, Bool.and_eq_true, decide_eq_true_eq, Option.isNone_iff_eq_none]
        rintro ⟨⟨⟨h1, h2⟩, -⟩, h4⟩
        rcases hno with g | g | g
        · exact g h1
        · exact g h2
        · rw [g] at h4
          exact nomatch h4
      have hstay : s.choose = s := if_neg hdue
      rw [exec_command hreset hmr, State.serve1_unchosen (by rw [hstay]; exact hnone), hstay]
  · refine ⟨fun n hn => State.moveOn_some hn, State.moveOn_none, fun x hstep hc hx hlow => ?_, fun hstep hno => ?_,
      fun j hj x hx hstep habs hlow => ?_, fun hstep hno => ?_, fun x hstep hx hmin => ?_, fun hstep hno => ?_⟩
    · rw [State.nextTurn_polls hstep, State.pollTurn_eq hc hx hlow]
      rfl
    · rw [State.nextTurn_polls hstep, State.pollTurn_none hno, State.nextTurn_discover rfl]
      rfl
    · rw [State.nextTurn_discover hstep, State.discoverTurn_eq hj hx habs hlow]
      rfl
    · rw [State.nextTurn_discover hstep, State.discoverTurn_none hno, State.nextTurn_range rfl]
      show s.rangeTurn.or (s.pollTurn 0) = s.rangeTurn.or ((s.pollTurn 0).or s.discoverTurn)
      rw [State.discoverTurn_none hno, Option.or_none]
    · rw [State.nextTurn_range hstep, State.rangeTurn_eq ⟨hx, hmin⟩]
      rfl
    · rw [State.nextTurn_range hstep, State.rangeTurn_none hno, State.nextTurn_polls rfl]
      show (s.pollTurn 0).or s.discoverTurn = (s.pollTurn 0).or (s.discoverTurn.or (s.rangeTurn.or (s.pollTurn 0)))
      rw [State.rangeTurn_none hno]
      cases s.pollTurn 0 with
      | none => simp only [Option.none_or, Option.or_none]
      | some n => rfl

end Sys2Proof.Machine

/-! PROOFS. The octets of every result (R178). -/

namespace Sys2Proof.Machine

open Sys2Proof Config

/-! ## Fields (R178) -/

theorem optOctets_ite {α : Type} (f : α → List Byte) (p : Prop) [Decidable p] (o : Option α) :
    optOctets f (if p then o else none) = if p then optOctets f o else [0] := by
  split <;> rfl

theorem instantOctets_eq {x : Int} (h0 : 0 ≤ x) (h : x < 281474976710656000000000) :
    instantOctets x = leOctets 6 (x.toNat / 1000000000) ++ leOctets 4 (x.toNat % 1000000000) := if_pos ⟨h0, h⟩

theorem timeOctets_eq {x : Nat} (h : x < 281474976710656000000000) :
    timeOctets x = leOctets 6 (x / 1000000000) ++ leOctets 4 (x % 1000000000) :=
  instantOctets_eq (Int.natCast_nonneg x) (by exact_mod_cast h)

theorem offsetOctets_eq {x : Int} (h0 : -(9223372036854775808 : Int) ≤ x) (h : x ≤ 9223372036854775807) :
    offsetOctets x = leSigned 8 x := by
  rw [offsetOctets, if_pos]
  simp only [inOffsetRange, Bool.and_eq_true, decide_eq_true_eq]
  constructor
  · exact le_trans (by norm_num) h0
  · exact le_trans h (by norm_num)

theorem optOctets_some {α : Type} (f : α → List Byte) (x : α) : optOctets f (some x) = 1 :: f x := rfl

theorem leOctets_one (x : Nat) : leOctets 1 x = [BitVec.ofNat 8 x] := rfl

/-- Octets that begin alike and go on alike. -/
theorem octets_congr {a a' l l' : List Byte} (h : a = a') (h' : l = l') : a ++ l = a' ++ l' := by rw [h, h']

/-- An instant in an optional field. -/
theorem optTime_eq {o : Option Nat} (h : ∀ x, o = some x → x < 281474976710656000000000) :
    optOctets timeOctets o = optOctets (fun x => leOctets 6 (x / 1000000000) ++ leOctets 4 (x % 1000000000)) o := by
  cases o with
  | none => simp only [optOctets]
  | some x => simp only [optOctets, timeOctets_eq (h x rfl)]

theorem optInstant_eq {o : Option Int} (h : ∀ x, o = some x → 0 ≤ x ∧ x < 281474976710656000000000) :
    optOctets instantOctets o = optOctets (fun x => leOctets 6 (x.toNat / 1000000000) ++ leOctets 4 (x.toNat % 1000000000)) o := by
  cases o with
  | none => simp only [optOctets]
  | some x => simp only [optOctets, instantOctets_eq (h x rfl).1 (h x rfl).2]

theorem optOffset_eq {o : Option Int} (h : ∀ x, o = some x → -(9223372036854775808 : Int) ≤ x ∧ x ≤ 9223372036854775807) :
    optOctets offsetOctets o = optOctets (leSigned 8) o := by
  cases o with
  | none => simp only [optOctets]
  | some x => simp only [optOctets, offsetOctets_eq (h x rfl).1 (h x rfl).2]

theorem secondOctets_length (t : Nat) : (secondOctets t).length = 6 := by
  unfold secondOctets
  split <;> exact leOctets_length _ _

theorem secondOctets_eq {t : Nat} (h : t < 281474976710656) : secondOctets t = leOctets 6 t := by
  unfold secondOctets
  rw [if_pos (by simpa only [secondsWrap] using h)]

/-! ## The fields of each result (R178) -/

theorem Body.entry_octets (i : Idx) (e : Entry) (hend : ∀ x, e.endAt = some x → x < 281474976710656000000000) :
    (Body.entry i e).octets =
      [BitVec.ofNat 8 i.val, e.gen, e.state.code] ++ (if e.state = .ending then [1, e.motion.toState.code] else [0])
      ++ [BitVec.ofNat 8 e.owner.number] ++ (match e.name with | some cs => BitVec.ofNat 8 cs.length :: cs | none => [0])
      ++ leOctets 4 e.num ++ leOctets 2 e.den ++ leOctets 4 e.pf ++ leSigned 4 e.phi ++ leSigned 8 e.eps ++ [e.policy.code]
      ++ leOctets 4 e.slew ++ [e.label.code]
      ++ (if e.motion = .pending then (match e.ks with | some k => 1 :: leOctets 8 k | none => [0]) else [0])
      ++ (match e.kl with | some k => 1 :: leOctets 8 k | none => [0])
      ++ (match e.endAt with | some x => 1 :: leOctets 6 (x / 1000000000) ++ leOctets 4 (x % 1000000000) | none => [0])
      ++ BitVec.ofNat 8 e.watchers.length :: e.watchers.map (fun x => BitVec.ofNat 8 (x.val + 1))
      ++ [if e.mgmtWatch then 1 else 0, BitVec.ofNat 8 e.realigns] := by
  simp only [Body.octets, entryOctets, optOctets_ite, optTime_eq hend, handleOctets, handleOf, List.append_assoc, List.cons_append,
    List.nil_append, List.cons.injEq, true_and]
  refine octets_congr rfl ?_
  simp only [List.cons.injEq, true_and]
  refine octets_congr (by cases e.name <;> rfl) ?_
  simp only [List.append_cancel_left_eq, List.cons.injEq, true_and]
  exact octets_congr (by cases e.ks <;> rfl) (octets_congr (by cases e.kl <;> rfl) (octets_congr (by cases e.endAt <;> rfl) rfl))

theorem Body.next_octets (v : NextView) (h0 : 0 ≤ v.instant) (hv : v.instant < 281474976710656000000000) :
    (Body.next v).octets =
      [BitVec.ofNat 8 v.handle.index, v.handle.gen, v.state.code]
      ++ (if v.state = .ending then [1, v.motion.toState.code] else [0]) ++ leOctets 8 v.index
      ++ leOctets 6 (v.instant.toNat / 1000000000) ++ leOctets 4 (v.instant.toNat % 1000000000)
      ++ labelOctets v.label ++ [if v.afterEnd then 1 else 0] := by
  simp only [Body.octets, nextOctets, optOctets_ite, instantOctets_eq h0 hv, handleOctets, List.append_assoc, List.cons_append,
    List.nil_append, List.cons.injEq, true_and]
  exact octets_congr rfl rfl

theorem Body.sample_octets (v : SampleView) (hc : v.captured < 281474976710656000000000)
    (h0 : -(9223372036854775808 : Int) ≤ v.offset) (hv : v.offset ≤ 9223372036854775807) :
    (Body.sample v).octets = v.seq :: leOctets 6 (v.captured / 1000000000) ++ leOctets 4 (v.captured % 1000000000)
      ++ leSigned 8 v.offset ++ [if v.stepped then 1 else 0, v.servo.code, BitVec.ofNat 8 v.cls] := by
  rw [Body.octets, timeOctets_eq hc, offsetOctets_eq h0 hv]
  simp only [leOctets_one, flagOctet, List.append_assoc, List.cons_append, List.nil_append]

theorem Body.servo_octets (p : ServoParams) (st : ServoState) (cls : Nat) : (Body.servo p st cls).octets =
    paramOctets p ++ [st.code, BitVec.ofNat 8 cls] := by
  simp only [Body.octets, leOctets_one, List.append_assoc, List.cons_append, List.nil_append]

theorem Body.civil_octets (v : CivilView) : (Body.civil v).octets = leSigned 4 v.offset ++ leOctets 4 v.jam
    ++ (match v.pending with | some (o, eo) => 1 :: leSigned 4 o ++ leOctets 6 eo | none => [0])
    ++ leOctets 6 v.tB ++ secondOctets v.tn := by
  simp only [Body.octets, List.append_assoc, List.append_cancel_left_eq]
  exact octets_congr (by cases v.pending <;> rfl) rfl

theorem Body.output_octets (o : OutNo) (st : OutputState) (r : Output) : (Body.output o st r).octets =
    [BitVec.ofNat 8 o.val, st.code, if r.enabled then 1 else 0]
    ++ (match r.binding with | some b => [1, BitVec.ofNat 8 b.index.val, b.gen] | none => [0]) ++ leOctets 2 r.divider
    ++ leOctets 6 r.delay ++ leOctets 6 r.width ++ [r.polarity.code]
    ++ (match r.pendingPol with | some p => [1, p.code] | none => [0]) ++ leOctets 1 r.waiting.length
    ++ leOctets 2 r.skipped := by
  simp only [Body.octets, List.append_assoc, List.cons_append, List.nil_append, flagOctet, List.cons.injEq, true_and]
  refine octets_congr (by cases r.binding <;> rfl) ?_
  simp only [List.append_cancel_left_eq, List.cons.injEq, true_and]
  exact octets_congr (by cases r.pendingPol <;> rfl) rfl

theorem Body.chain_octets (v : ChainView) : (Body.chain v).octets =
    [v.state.code, BitVec.ofNat 8 v.timeout] ++ leOctets 2 v.orphan
    ++ [if v.autoRelease then 1 else 0, BitVec.ofNat 8 v.counts.absent, BitVec.ofNat 8 v.counts.joining,
        BitVec.ofNat 8 v.counts.present, BitVec.ofNat 8 v.counts.silent, BitVec.ofNat 8 v.counts.conflict] := by
  simp only [Body.octets, countOctets, leOctets_one, flagOctet, List.append_assoc, List.cons_append, List.nil_append]

theorem Body.status_octets (v : StatusView)
    (hoff : ∀ x, v.lastOffset = some x → -(9223372036854775808 : Int) ≤ x ∧ x ≤ 9223372036854775807) :
    (Body.status v).octets =
    [v.causes.toByte, v.mask.toByte, v.mode.code, v.servo.code] ++ leSigned 4 v.correction ++ leSigned 4 v.integral
    ++ [BitVec.ofNat 8 v.cls] ++ leOctets 4 v.ageSeconds
    ++ (match v.lastOffset with | some x => 1 :: leSigned 8 x | none => [0])
    ++ [BitVec.ofNat 8 v.good, BitVec.ofNat 8 v.outliers] ++ leOctets 2 v.counters.accepted ++ leOctets 2 v.counters.ignored
    ++ leOctets 2 v.counters.outliers ++ leOctets 2 v.counters.steps ++ leOctets 2 v.counters.glitches ++ [v.chain.code]
    ++ leOctets 2 v.line.short ++ leOctets 2 v.line.format ++ leOctets 2 v.line.check ++ leOctets 2 v.line.abort
    ++ leOctets 2 v.line.broken ++ leOctets 2 v.line.unexpected ++ leOctets 2 v.line.rangeRejected
    ++ leOctets 2 v.line.lateReport
    ++ [BitVec.ofNat 8 v.counts.absent, BitVec.ofNat 8 v.counts.joining, BitVec.ofNat 8 v.counts.present,
        BitVec.ofNat 8 v.counts.silent, BitVec.ofNat 8 v.counts.conflict]
    ++ leOctets 2 v.errors ++ leOctets 2 v.losses
    ++ (match v.op with | some (k, b) => [1, k.code, BitVec.ofNat 8 b.val] | none => [0])
    ++ [BitVec.ofNat 8 v.startBank.val, if v.startOk then 1 else 0] := by
  simp only [Body.octets]
  unfold statusOctets
  simp only [optOffset_eq hoff, lineOctets, countOctets, leOctets_one, flagOctet, List.append_assoc,
    List.cons_append, List.nil_append, List.cons.injEq, true_and, List.append_cancel_left_eq]
  refine octets_congr (by cases v.lastOffset <;> rfl) ?_
  simp only [List.append_cancel_left_eq, List.cons.injEq, true_and]
  exact octets_congr (by cases v.op <;> rfl) rfl

theorem streamOctets_eq {st : Stream} (hs0 : ∀ x, st.s0 = some x → 0 ≤ x ∧ x < 281474976710656000000000) :
    streamOctets st = [BitVec.ofNat 8 st.entry.index.val, st.entry.gen] ++ leOctets 2 st.step ++ leOctets 4 st.lead
      ++ [st.state.code] ++ (match st.kr with | some k => 1 :: leOctets 8 k | none => [0])
      ++ (match st.s0 with
          | some x => 1 :: (leOctets 6 (x.toNat / 1000000000) ++ leOctets 4 (x.toNat % 1000000000))
          | none => [0])
      ++ (match st.last with | some k => 1 :: leOctets 8 k | none => [0]) ++ [BitVec.ofNat 8 st.skipped] := by
  simp only [streamOctets, optInstant_eq hs0, handleOctets, List.append_assoc, List.cons_append, List.nil_append]
  refine congrArg (List.cons _) (congrArg (List.cons _) ?_)
  simp only [List.append_cancel_left_eq, List.cons.injEq, true_and]
  exact octets_congr (by cases st.kr <;> rfl) (octets_congr (by cases st.s0 <;> rfl)
    (octets_congr (by cases st.last <;> rfl) rfl))

end Sys2Proof.Machine

/-! PROOFS. O47: the transactions of the management port (R169, R170, R181), and the octets of every result. -/

namespace Sys2Proof.Machine

open Sys2Proof Config

/-! ## Write transactions (R169, R181) -/

/-- A length in two octets, and the length that two octets give. -/
theorem leOctets_two {n : Nat} (h : n ≤ 512) : ∃ l0 l1 : Byte, leOctets 2 n = [l0, l1] ∧ l0.toNat + 256 * l1.toNat = n := by
  refine ⟨BitVec.ofNat 8 n, BitVec.ofNat 8 (n / 256), rfl, ?_⟩
  rw [BitVec.toNat_ofNat, BitVec.toNat_ofNat]
  omega

theorem spiCheck_length (octets : List Byte) : (spiCheck octets).length = 2 := rfl

/-- R181: a write transaction that is whole brings its body. -/
theorem spiWriteBody_whole {body : List Byte} (h1 : 1 ≤ body.length) (h2 : body.length ≤ 512) :
    spiWriteBody (leOctets 2 body.length ++ body ++ spiCheck (leOctets 2 body.length ++ body)) = some body := by
  obtain ⟨l0, l1, hl, hn⟩ := leOctets_two h2
  have htake : (body ++ spiCheck (l0 :: l1 :: body)).take body.length = body := List.take_left
  have hdrop : (body ++ spiCheck (l0 :: l1 :: body)).drop body.length = spiCheck (l0 :: l1 :: body) := List.drop_left
  rw [hl]
  show spiWriteBody (l0 :: l1 :: (body ++ spiCheck (l0 :: l1 :: body))) = some body
  simp only [spiWriteBody, hn]
  rw [if_neg (by simp only [spiBody]; omega), if_pos, htake]
  rw [htake, hdrop]
  exact ⟨by rw [List.length_append, spiCheck_length], rfl⟩

/-- R181: what brings a body is a whole write transaction. -/
theorem spiWriteBody_some {rest body : List Byte} (h : spiWriteBody rest = some body) : 1 ≤ body.length ∧ body.length ≤ 512
    ∧ rest = leOctets 2 body.length ++ body ++ spiCheck (leOctets 2 body.length ++ body) := by
  match rest, h with
  | l0 :: l1 :: more, h =>
    simp only [spiWriteBody] at h
    split at h
    · exact nomatch h
    · next hlen =>
      split at h
      · next hw =>
        obtain ⟨hm, hc⟩ := hw
        have hb : more.take (l0.toNat + 256 * l1.toNat) = body := Option.some.inj h
        have hbl : body.length = l0.toNat + 256 * l1.toNat := by
          rw [← hb, List.length_take]
          omega
        have hle : leOctets 2 body.length = [l0, l1] := by
          have := leOctets_leValue [l0, l1]
          rw [hbl]
          simpa [leValue] using this
        have hsplit : more = body ++ spiCheck (l0 :: l1 :: body) := by
          rw [← hb, hc, List.take_append_drop]
        rw [not_or] at hlen
        refine ⟨by omega, by simp only [spiBody] at hlen; omega, ?_⟩
        rw [hle, hsplit]
        rfl
      · exact nomatch h

section

variable {s : State}

theorem exec_spiWrite_other (hr : s.resetPin = false) {first : Byte} (h1 : first ≠ 0x57) (h2 : first ≠ 0x52) (rest : List Byte) :
    exec (.spiWrite (first :: rest)) s = .next (s.noRead (first :: rest).length).countError := by
  refine congrArg Host.Outcome.next ((State.whenReleased_deasserted hr _).trans ?_)
  exact (if_neg h1).trans (if_neg h2)

theorem exec_spiWrite_write (hr : s.resetPin = false) (rest : List Byte) :
    exec (.spiWrite (0x57#8 :: rest)) s = .next ((s.noRead (rest.length + 1)).spiWritten rest) := by
  refine congrArg Host.Outcome.next ((State.whenReleased_deasserted hr _).trans ?_)
  exact if_pos rfl

theorem exec_spiWrite_empty (hr : s.resetPin = false) : exec (.spiWrite []) s = .next (s.noRead 0).countError :=
  congrArg Host.Outcome.next (State.whenReleased_deasserted hr _)

theorem exec_spiWrite_read (s : State) (rest : List Byte) :
    exec (.spiWrite (0x52#8 :: rest)) s = exec (.spiRead (.whole rest.length)) s := by
  refine congrArg Host.Outcome.next ?_
  refine congrArg (fun f => s.whenReleased f) (funext fun u => ?_)
  exact (if_neg (by decide)).trans (if_pos rfl)

theorem exec_spiRead (hr : s.resetPin = false) (part : ReadPart) : exec (.spiRead part) s = .next (s.spiRead part) :=
  congrArg Host.Outcome.next (State.whenReleased_deasserted hr _)

theorem State.spiWritten_discarded {rest : List Byte} (h : spiWriteBody rest = none) : s.spiWritten rest = s.countError := by
  rw [State.spiWritten, h]

theorem State.spiWritten_taken {rest body : List Byte} (h : spiWriteBody rest = some body) : s.spiWritten rest = s.portArrive body := by
  rw [State.spiWritten, h]

variable {body : List Byte}

theorem State.portArrive_empty (h : s.port.slot = .empty) : s.portArrive body = { s with
    port := { s.port with slot := .request body, pendingShown := false }, arrivals := s.arrivals ++ [.mgmt] } := by
  rw [State.portArrive, h]

theorem State.portArrive_request {q : List Byte} (h : s.port.slot = .request q) : s.portArrive body = s.countLoss := by
  rw [State.portArrive, h]

theorem State.portArrive_result {r : Result} (h : s.port.slot = .result r) : s.portArrive body = { s with
    port := { s.port with
      slot := .request body, pendingShown := false, losses := satAdd counterTop s.port.losses 1 }
    arrivals := s.arrivals ++ [.mgmt] } := by
  rw [State.portArrive, h]
  rfl

/-! ## Read transactions (R170) -/

theorem Port.answer_result {p : Port} {r : Result} (h : p.slot = .result r) : p.answer = 0x02#8 :: spiResult r := by
  rw [Port.answer, h]
  rfl

theorem Port.finishRead_idle {p : Port} (h : p.reading = none) (n : Nat) : p.finishRead n = p := by
  rw [Port.finishRead, h]

/-- R170: a read that ends before the whole of a result has gone out, or without one, leaves the slot. -/
theorem Port.endRead_kept {p : Port} {x : PortRead} {n : Nat} (h : ¬(x.holds = true ∧ x.answer.length ≤ n)) :
    p.endRead x n = { p with reading := none, sdo := x.clockOut n } := if_neg h

theorem Port.endRead_delivered {p : Port} {x : PortRead} {n : Nat} (h : x.holds = true ∧ x.answer.length ≤ n)
    (hd : p.deferred = none) : p.endRead x n = { p with reading := none, sdo := x.clockOut n, slot := .empty } := by
  refine (if_pos h).trans ?_
  simp only [Port.vacate, hd]

theorem State.completeOp_result (s : State) {old new : Result} (h : s.port.slot = .result old) :
    s.completeOp new = { s with port := { s.port with
      slot := .result new, pendingShown := false, losses := satAdd counterTop s.port.losses 1
      reading := s.port.reading.map fun x => { x with holds := false } } } := by
  rw [State.completeOp, h]
  rfl

theorem Port.finishRead_busy {p : Port} {x : PortRead} (h : p.reading = some x) (n : Nat) : p.finishRead n = p.endRead x n := by
  rw [Port.finishRead, h]

end

/-- Settles O47: what each transaction does by its first octet and by the slot, and the octets of each result by its fields. -/
theorem spiTransactionsMoveTheSlot : Obligations.SpiTransactionsMoveTheSlot := by
  unfold Obligations.SpiTransactionsMoveTheSlot
  refine ⟨fun s hreset => ?_, fun r => ⟨rfl, rfl⟩, fun h v => ⟨rfl, rfl, rfl, rfl⟩, fun e he => timeOctets_eq he, fun d lead => rfl,
    fun hs more => rfl, fun items more => rfl, fun hs skipped => rfl, Body.entry_octets, fun v h0 hv => ?_, fun q => rfl,
    Body.sample_octets, fun p st cls => ?_,
    fun v => ⟨secondOctets v.tn, secondOctets_length _, secondOctets_eq, Body.civil_octets v⟩, Body.output_octets, Body.chain_octets,
    fun ok => rfl, Body.status_octets, fun v => ?_⟩
  · intro p lost
    refine ⟨fun body h1 h2 => ?_, fun octets hread hwhole => ?_, exec_spiWrite_read s, fun n s' hs' => ?_, fun r hslot => ?_,
      fun b hslot => ?_, fun hslot => ?_, fun a holds n hreading => ?_, fun hreading n => ?_, fun old new a holds hslot hreading => ?_⟩
    · intro head p1
      rw [exec_spiWrite_write hreset, State.spiWritten_taken (spiWriteBody_whole h1 h2)]
      have hno : s.noRead ((leOctets 2 body.length ++ body ++ spiCheck (leOctets 2 body.length ++ body)).length + 1)
          = { s with port := p1 } := by
        have hlen : (leOctets 2 body.length ++ body ++ spiCheck (leOctets 2 body.length ++ body)).length + 1 = body.length + 5 := by
          simp only [List.length_append, leOctets_length, spiCheck_length]
          omega
        rw [hlen]
        rfl
      rw [hno]
      cases hslot : p.slot with
      | empty => exact congrArg Host.Outcome.next (State.portArrive_empty (s := { s with port := p1 }) hslot)
      | request q =>
        refine congrArg Host.Outcome.next ((State.portArrive_request (s := { s with port := p1 }) hslot).trans ?_)
        show _ = ({ s with port := { p1 with slot := .request q, losses := lost } } : State)
        rw [← hslot]
        rfl
      | result r => exact congrArg Host.Outcome.next (State.portArrive_result (s := { s with port := p1 }) hslot)
    · have hsdo : exec (.spiWrite octets) s = .next (s.noRead octets.length).countError := by
        cases octets with
        | nil => exact exec_spiWrite_empty hreset
        | cons first rest =>
          by_cases h1 : first = 0x57#8
          · subst h1
            rw [exec_spiWrite_write hreset, State.spiWritten_discarded]
            · rfl
            · cases hb : spiWriteBody rest with
              | none => rfl
              | some body =>
                obtain ⟨h1, h2, h3⟩ := spiWriteBody_some hb
                exact absurd (congrArg (List.cons 0x57#8) h3) (hwhole body h1 h2)
          · exact exec_spiWrite_other hreset h1 (fun h2 => hread (congrArg some h2)) rest
      rw [hsdo]
      rfl
    · rw [exec_spiRead hreset] at hs'
      cases hs'
      rw [exec_spiRead hreset, exec_spiRead (s := s.spiRead .start) hreset]
      rfl
    · rw [exec_spiRead hreset]
      rw [State.spiRead, Port.read, Port.startRead, Port.answer_result hslot, Port.ready, hslot]
      rfl
    · rw [exec_spiRead hreset, State.spiRead, Port.read, Port.startRead, Port.answer, Port.ready, hslot]
      rfl
    · rw [exec_spiRead hreset, State.spiRead, Port.read, Port.startRead, Port.answer, Port.ready, hslot]
      rfl
    · rw [exec_spiRead hreset, State.spiRead, Port.read, Port.finishRead_busy hreading]
      refine ⟨fun hnot => ?_, fun hh hle hdef => ?_⟩
      · rw [Port.endRead_kept fun g => ?_]
        · rfl
        · rcases hnot with hf | hlt
          · rw [hf] at g
            exact nomatch g.1
          · exact absurd g.2 (not_le.2 hlt)
      · rw [Port.endRead_delivered ⟨hh, hle⟩ hdef]
        rfl
    · rw [exec_spiRead hreset, State.spiRead, Port.read, Port.finishRead_idle hreading]
    · rw [s.completeOp_result hslot, hreading]
      rfl
  · rw [Body.next_octets v h0 hv]
    refine octets_congr (octets_congr rfl ?_) rfl
    cases v.label <;> rfl
  · rw [Body.servo_octets]
    simp only [paramOctets, List.append_assoc]
  · intro instant opt hbound hs0
    simp only [Body.octets, stationOctets, optTime_eq fun x hx => hbound x (.inl hx), optTime_eq fun x hx => hbound x (.inr (.inl hx)),
      optTime_eq fun x hx => hbound x (.inr (.inr (.inl hx))), optTime_eq fun x hx => hbound x (.inr (.inr (.inr hx))),
      List.append_assoc, List.cons_append, List.nil_append, List.cons.injEq, true_and, flagOctet]
    have hopt (o : Option Nat) : optOctets (fun x => leOctets 6 (x / 1000000000) ++ leOctets 4 (x % 1000000000)) o = opt o := by
      cases o <;> rfl
    simp only [hopt]
    refine octets_congr (by cases v.delta <;> rfl) (octets_congr (by cases v.trip <;> rfl) ?_)
    simp only [List.append_cancel_left_eq, List.cons.injEq, true_and]
    refine octets_congr ?_ rfl
    cases hst : v.stream with
    | none => rfl
    | some st =>
      simp only [optOctets_some, streamOctets_eq fun x => hs0 st x hst, List.append_assoc, List.cons_append, List.nil_append, instant]
        <;> rfl

end Sys2Proof.Machine

/-! PROOFS. What the answer of one station does (R134, R137, R143, R144, R148, R149, R158): which station it reaches, and what
it leaves of that station's record. -/

namespace Sys2Proof.Machine

open Sys2Proof Config

section

variable {s u v : State} {x : Addr} {L : List Part}

/-! ## Operations that reach one station -/

/-- Of the stations' records `x`'s alone differs between `s` and `v`. -/
def State.onlyAt (s v : State) (x : Addr) : Prop := ∀ y : Addr, y ≠ x → v.stations[y] = s.stations[y]

theorem State.onlyAt.refl (s : State) (x : Addr) : s.onlyAt s x := fun _ _ => rfl

theorem State.onlyAt.trans (h : s.onlyAt u x) (h' : u.onlyAt v x) : s.onlyAt v x := fun y hy => (h' y hy).trans (h y hy)

theorem State.onlyAt.ite {p : Prop} [Decidable p] (hu : p → s.onlyAt u x) (hv : ¬p → s.onlyAt v x) :
    s.onlyAt (if p then u else v) x := by
  split
  · next h => exact hu h
  · next h => exact hv h

theorem State.sameBut.station (h : s.sameBut L v) (hl : Part.stations ∉ L) (y : Addr) : v.stations[y] = s.stations[y] := by
  have hst : v.stations = s.stations := h .stations hl
  rw [hst]

theorem State.sameBut.onlyAt (h : s.sameBut L v) (hl : Part.stations ∉ L) : s.onlyAt v x := fun y _ => h.station hl y

theorem State.setStation_onlyAt (s : State) (x : Addr) (r : Station) : s.onlyAt (s.setStation x r) x :=
  fun y hy => State.setStation_ne s x y r hy

theorem State.setStation_self (s : State) (x : Addr) (r : Station) : (s.setStation x r).stations[x] = r := State.setStation_at s x r

theorem State.countLine_onlyAt (s : State) (f : LineCounters → LineCounters) : s.onlyAt (s.countLine f) x :=
  (s.countLine_sameBut f).onlyAt (by decide)

theorem State.raiseStation_onlyAt (s : State) (x : Addr) (r : Station) (c : Cause) : s.onlyAt ((s.setStation x r).raise c) x :=
  (s.setStation_onlyAt x r).trans ((State.raise_sameBut _ c).onlyAt (by decide))

theorem State.raiseStation_at (s : State) (x : Addr) (r : Station) (c : Cause) : ((s.setStation x r).raise c).stations[x] = r :=
  ((State.raise_sameBut _ c).station (by decide) x).trans (State.setStation_at s x r)

theorem State.silence_onlyAt (s : State) (x : Addr) : s.onlyAt (s.silence x) x :=
  fun y hy => (s.silence_stations_at x y).trans (if_neg hy)

theorem State.missAnswer_onlyAt (s : State) (x : Addr) : s.onlyAt (s.missAnswer x) x :=
  .ite (fun _ => .ite (fun _ => (s.setStation_onlyAt x _).trans (State.silence_onlyAt _ x)) fun _ => s.setStation_onlyAt x _)
    fun _ => .refl s x

theorem State.garble_onlyAt (s : State) (x : Addr) : s.onlyAt (s.garble x) x :=
  .ite (fun _ => s.setStation_onlyAt x _) fun _ => s.raiseStation_onlyAt x _ _

theorem State.resumeStream_onlyAt (s : State) (x : Addr) : s.onlyAt (s.resumeStream x) x := by
  simp only [State.resumeStream]
  split
  · exact .refl s x
  · exact s.setStation_onlyAt x _

theorem State.answered_onlyAt (s : State) (x : Addr) : s.onlyAt (s.answered x) x :=
  .ite (fun _ => ((s.setStation_onlyAt x _).trans (State.resumeStream_onlyAt _ x)).trans
    ((State.raise_sameBut _ _).onlyAt (by decide))) fun _ => s.setStation_onlyAt x _

theorem State.stationRequest_onlyAt (s : State) (x : Addr) (b : List Byte) : s.onlyAt (s.stationRequest x b) x := by
  simp only [State.stationRequest]
  split
  · exact (s.setStation_onlyAt x _).trans ((State.setArrivals_sameBut _ _).onlyAt (by decide))
  · exact s.setStation_onlyAt x _

theorem State.pollAnswer_onlyAt (s : State) (v : Service) (b : Option (List Byte)) : s.onlyAt (s.pollAnswer v b) v.addr := by
  have h := (s.answered_onlyAt v.addr).trans
    (State.setStation_onlyAt _ v.addr ((s.answered v.addr).stations[v.addr].delivered v))
  cases b with
  | none => exact h
  | some b => exact h.trans (State.stationRequest_onlyAt _ v.addr b)

theorem State.validRange_onlyAt (s : State) (x : Addr) (q t : Nat) : s.onlyAt (s.validRange x q t) x := by
  unfold State.validRange
  exact .ite (fun _ => s.raiseStation_onlyAt x _ _) fun _ => s.setStation_onlyAt x _

theorem State.rangeAnswer_onlyAt (s : State) (x : Addr) (w : Window) : s.onlyAt (s.rangeAnswer x w) x :=
  .ite (fun _ => (s.setStation_onlyAt x _).trans (State.countLine_onlyAt _ _))
    fun _ => (s.setStation_onlyAt x _).trans (State.validRange_onlyAt _ x _ _)

theorem State.stationAnswer_onlyAt (s : State) (v : Service) (w : Window) (a : Addr) (k : ReturnKind) (b : List Byte) :
    s.onlyAt (s.stationAnswer v w a k b) v.addr :=
  .ite (fun _ => .ite (fun _ => s.countLine_onlyAt _)
    fun _ => .ite (fun _ => s.rangeAnswer_onlyAt _ w) fun _ => s.pollAnswer_onlyAt v _)
    fun _ => (s.countLine_onlyAt _).trans (State.missAnswer_onlyAt _ _)

theorem State.discoverAnswer_onlyAt (s : State) (x : Addr) (j : Judgement) : s.onlyAt (s.discoverAnswer x j) x := by
  cases j with
  | valid a k b =>
    exact .ite (fun _ => s.raiseStation_onlyAt x _ _) fun _ => (s.countLine_onlyAt _).trans (State.garble_onlyAt _ x)
  | format => exact s.garble_onlyAt x
  | check => exact s.garble_onlyAt x
  | abort => exact s.setStation_onlyAt x _
  | short => exact s.setStation_onlyAt x _
  | fill => exact s.setStation_onlyAt x _

theorem State.settled_onlyAt (s : State) : s.onlyAt s.settled x := s.settled_sameBut.onlyAt (by decide)

theorem State.settle_onlyAt (s : State) (v : Service) (w : Window) (j : Judgement) : s.onlyAt (s.settle v w j) v.addr := by
  refine .trans (.ite (fun _ => .ite (fun _ => s.discoverAnswer_onlyAt _ j) fun _ => .refl s _) fun _ => ?_)
    (State.settled_onlyAt _)
  split
  · exact s.stationAnswer_onlyAt v w _ _ _
  · exact s.missAnswer_onlyAt _

theorem State.closeWindow_onlyAt (s : State) (v : Service) : s.onlyAt (s.closeWindow v) v.addr :=
  .trans (.ite (fun _ => .ite (fun _ => s.setStation_onlyAt _ _) fun _ => .refl s _) fun _ => s.missAnswer_onlyAt _)
    (State.settled_onlyAt _)

/-! ## Missed and garbled answers (R134, R135, R137) -/

/-- R134, R135: between `s` and `v` station `x` has missed one more answer. -/
def State.Misses (s v : State) (x : Addr) : Prop :=
  (s.stations[x].missed < 3 → v.stations[x] = { s.stations[x] with missed := s.stations[x].missed + 1 })
  ∧ (3 ≤ s.stations[x].missed →
      v.stations[x] = { s.stations[x] with
        missed := 4, state := .silent, silentSince := some s.now, orphanStart := some s.cycle, reRangeStart := none,
        stream := s.stations[x].stream.map fun st => { st with state := .suspended, holdStart := some s.cycle } }
      ∧ v.shows .stations)

/-- R137: between `s` and `v` one more answer to DISCOVER at address `x` was garbled. -/
def State.Garbles (s v : State) (x : Addr) : Prop :=
  (s.stations[x].garbled < 2 → v.stations[x] = { s.stations[x] with garbled := s.stations[x].garbled + 1 })
  ∧ (2 ≤ s.stations[x].garbled →
      v.stations[x] = { s.stations[x] with
        garbled := 3, state := .conflict, conflictSince := some s.now, conflictStart := some s.cycle }
      ∧ v.shows .stations)

theorem State.missAnswer_misses (h : s.stations[x].state = .joining ∨ s.stations[x].state = .present) :
    s.Misses (s.missAnswer x) x := by
  have heq : s.missAnswer x = if 4 ≤ s.stations[x].missed + 1
      then (s.setStation x { s.stations[x] with missed := min 4 (s.stations[x].missed + 1) }).silence x
      else s.setStation x { s.stations[x] with missed := min 4 (s.stations[x].missed + 1) } := if_pos h
  refine ⟨fun hm => ?_, fun hm => ?_⟩
  · rw [heq, if_neg (by omega), State.setStation_self, Nat.min_eq_right (by omega)]
  · rw [heq, if_pos (by omega), State.silence_stations_at, if_pos rfl, State.setStation_self, Nat.min_eq_left (by omega)]
    exact ⟨rfl, State.raise_shows _ _⟩

theorem State.missAnswer_absent (h : ¬(s.stations[x].state = .joining ∨ s.stations[x].state = .present)) :
    s.missAnswer x = s := if_neg h

theorem State.garble_garbles (s : State) (x : Addr) : s.Garbles (s.garble x) x := by
  refine ⟨fun hg => ?_, fun hg => ?_⟩
  · rw [State.garble, if_pos (by omega), State.setStation_self]
  · rw [State.garble, if_neg (by omega), State.raiseStation_at]
    exact ⟨rfl, State.raise_shows _ _⟩

theorem State.noAnswer_at (s : State) (x : Addr) : (s.noAnswer x).stations[x] = { s.stations[x] with garbled := 0 } :=
  State.setStation_self s x _

theorem State.join_at (s : State) (x : Addr) : (s.join x).stations[x] = { s.stations[x] with
    state := .joining, missed := 0, garbled := 0, rangeDue := true, dueSince := some s.chain.rx.arrival }
    ∧ (s.join x).shows .stations :=
  ⟨s.raiseStation_at x _ _, State.raise_shows _ _⟩

/-! ## Answers to POLL (R134, R155, R158) -/

/-- R134, R155: the record of station `x` at a valid answer to a POLL. -/
def State.backAt (s : State) (x : Addr) : Station :=
  let r := s.stations[x]
  if r.state = .silent then
    { r with
      state := if r.delta = none then .joining else .present
      missed := 0, rangeDue := true, dueSince := some s.now, silentSince := none, orphanStart := none, reRangeStart := none
      stream := r.stream.map fun st =>
        Stream.choose { st with state := .active, holdStart := none } s.entries[st.entry.index] r.delta s.now none true }
  else { r with missed := 0 }

/-- R158: record `r` when what frame `v` carried has been delivered. -/
def Station.afterPoll (back r : Station) (v : Service) : Station :=
  { back with
    slot := match v.segment with | some (_, true) => .empty | _ => r.slot
    segment := match v.segment with | some (_, true) => 0 | some (k, false) => k + 1 | none => r.segment
    owed := if v.refusal = none then r.owed else none }

theorem Station.delivered_eq {back r : Station} (hslot : back.slot = r.slot) (hseg : back.segment = r.segment)
    (howed : back.owed = r.owed) (v : Service) : back.delivered v = back.afterPoll r v := by
  unfold Station.delivered Station.afterPoll
  rw [← hslot, ← hseg, ← howed]
  rcases v.segment with _ | ⟨k, _ | _⟩ <;> cases v.refusal <;> rfl

theorem Station.ext_stream {r : Station} {o : Option Stream} (h : r.stream = o) : r = { r with stream := o } := by rw [← h]

theorem State.resumeStream_none (h : s.stations[x].stream = none) : s.resumeStream x = s := by
  unfold State.resumeStream
  simp only [h]

theorem State.resumeStream_some {st : Stream} (h : s.stations[x].stream = some st) : s.resumeStream x =
    s.setStation x { s.stations[x] with stream := some (Stream.choose { st with state := .active, holdStart := none }
      s.entries[st.entry.index] s.stations[x].delta s.now none true) } := by
  unfold State.resumeStream
  simp only [h]

theorem State.resumeStream_at (s : State) (x : Addr) : (s.resumeStream x).stations[x] = { s.stations[x] with
    stream := s.stations[x].stream.map fun st =>
      Stream.choose { st with state := .active, holdStart := none } s.entries[st.entry.index] s.stations[x].delta s.now none true } := by
  cases hst : s.stations[x].stream with
  | none =>
    rw [State.resumeStream_none hst]
    exact Station.ext_stream hst
  | some st =>
    rw [State.resumeStream_some hst]
    exact s.setStation_self x _

theorem State.returnStation_at (s : State) (x : Addr) (h : s.stations[x].state = .silent) :
    (s.returnStation x).stations[x] = s.backAt x := by
  have hd : (if s.stations[x].delta.isSome = true then StationState.present else .joining)
      = if s.stations[x].delta = none then StationState.joining else .present := by
    cases s.stations[x].delta <;> rfl
  refine ((State.raise_sameBut _ _).station (by decide) x).trans ?_
  rw [State.resumeStream_at, State.setStation_self, State.backAt, if_pos h, ← hd]
  rfl

theorem State.answered_at (s : State) (x : Addr) : (s.answered x).stations[x] = s.backAt x
    ∧ (s.stations[x].state = .silent → (s.answered x).shows .stations) := by
  by_cases h : s.stations[x].state = .silent
  · rw [State.answered, if_pos h]
    exact ⟨s.returnStation_at x h, fun _ => State.raise_shows _ _⟩
  · rw [State.answered, if_neg h, State.setStation_self, State.backAt, if_neg h]
    exact ⟨rfl, fun g => absurd g h⟩

theorem State.backAt_keeps (s : State) (x : Addr) : (s.backAt x).slot = s.stations[x].slot
    ∧ (s.backAt x).segment = s.stations[x].segment ∧ (s.backAt x).owed = s.stations[x].owed := by
  unfold State.backAt
  dsimp only
  split <;> exact ⟨rfl, rfl, rfl⟩

theorem State.stationRequest_empty {b : List Byte} (h : s.stations[x].slot = .empty) : s.stationRequest x b =
    { s.setStation x { s.stations[x] with slot := .request b, segment := 0 } with arrivals := s.arrivals ++ [.station x] } := by
  unfold State.stationRequest
  simp only [h]

theorem State.stationRequest_full {b : List Byte} (h : s.stations[x].slot ≠ .empty) :
    s.stationRequest x b = s.setStation x { s.stations[x] with owed := some (b.getD 1 0) } := by
  unfold State.stationRequest
  dsimp only
  split
  · next hs => exact absurd hs h
  · rfl

/-- R158: the answer has been taken and what the POLL carried delivered; the request in it has not arrived yet. -/
def State.polled (s : State) (v : Service) : State :=
  (s.answered v.addr).setStation v.addr ((s.answered v.addr).stations[v.addr].delivered v)

theorem State.polled_at (s : State) (v : Service) :
    (s.polled v).stations[v.addr] = (s.backAt v.addr).afterPoll s.stations[v.addr] v := by
  obtain ⟨hslot, hseg, howed⟩ := s.backAt_keeps v.addr
  rw [State.polled, State.setStation_self, (s.answered_at v.addr).1, Station.delivered_eq hslot hseg howed]

theorem State.polled_shows (v : Service) (h : s.stations[v.addr].state = .silent) : (s.polled v).shows .stations :=
  (s.answered_at v.addr).2 h

theorem State.polled_arrivals (s : State) (v : Service) : (s.polled v).arrivals = s.arrivals :=
  (s.answered_sameBut v.addr) .arrivals (by decide)

/-! ## Ranges (R148, R149) -/

theorem State.rangeAnswer_rejected {w : Window}
    (h : s.chain.rx.stepped = true ∨ s.chain.rx.arrival < w.openTime + 1280) : s.rangeAnswer x w =
      (s.setStation x { s.stations[x] with missed := 0 }).countLine fun c =>
        { c with rangeRejected := satAdd counterTop c.rangeRejected 1 } := if_pos h

theorem State.rangeAnswer_valid {w : Window} (hs : s.chain.rx.stepped = false) (ha : w.openTime + 1280 ≤ s.chain.rx.arrival) :
    s.rangeAnswer x w = (s.setStation x { s.stations[x] with missed := 0 }).validRange x
      (s.chain.rx.arrival - w.openTime) s.chain.rx.arrival := by
  refine if_neg ?_
  rintro (g | g)
  · rw [hs] at g
    exact nomatch g
  · exact absurd g (not_lt.2 ha)

/-- R148, R149: record `r` of a station whose valid range took `q` ns and arrived at `t`. -/
def State.rangedAt (s : State) (r : Station) (q t : Nat) : Station :=
  { r with
    missed := 0, state := .present, delta := some ((q - 1280) / 2), trip := some q, lastRange := some t, rangeDue := false
    dueSince := none, reRangeStart := some s.cycle
    stream :=
      if r.state = .joining then
        r.stream.map fun st => st.choose s.entries[st.entry.index] (some ((q - 1280) / 2)) s.now none false
      else r.stream }

theorem State.validRange_at {q t : Nat} (hm : s.stations[x].missed = 0)
    (h : s.stations[x].state = .joining ∨ s.stations[x].state = .present) :
    (s.validRange x q t).stations[x] = s.rangedAt s.stations[x] q t
    ∧ (s.stations[x].state = .joining → (s.validRange x q t).shows .stations) := by
  unfold State.validRange State.rangedAt
  rw [← hm]
  by_cases hj : s.stations[x].state = .joining
  · simp only [if_pos hj]
    exact ⟨s.raiseStation_at x _ _, fun _ => State.raise_shows _ _⟩
  · have hp := h.resolve_left hj
    simp only [if_neg hj]
    refine ⟨(State.setStation_self s x _).trans ?_, fun g => absurd g hj⟩
    rw [← hp]

end

end Sys2Proof.Machine

/-! PROOFS. How a judged frame settles the answer that is outstanding (R142 to R145), by the kind of the service frame. -/

namespace Sys2Proof.Machine

open Sys2Proof Config

section

variable {s u z : State} {v : Service} {w : Window} {j : Judgement}

/-! ## The settlement -/

/-- Behind `u` the answer is settled: nothing is outstanding, and the rest stands but for the service cycle's place. -/
structure State.Closes (u z : State) : Prop where
  svc : z.chain.svc = none
  line : z.chain.line = u.chain.line
  same : u.sameBut [.chain] z

theorem State.moveOn_svc (s : State) : s.moveOn.chain.svc = s.chain.svc ∧ s.moveOn.chain.line = s.chain.line := by
  cases h : s.nextTurn with
  | none => rw [State.moveOn_none h]; exact ⟨rfl, rfl⟩
  | some n => rw [State.moveOn_some h]; exact ⟨rfl, rfl⟩

theorem State.settled_closes (u : State) : u.Closes u.settled :=
  ⟨(State.moveOn_svc _).1, (State.moveOn_svc _).2, u.settled_sameBut⟩

theorem State.Closes.station (h : u.Closes z) (y : Addr) : z.stations[y] = u.stations[y] := h.same.station (by decide) y

theorem State.Closes.shows {c : Cause} (h : u.Closes z) (hs : u.shows c) : z.shows c := by
  have ha : z.attn = u.attn := h.same .attn (by decide)
  rw [State.shows, ha]
  exact hs

theorem State.Closes.arrivals (h : u.Closes z) : z.arrivals = u.arrivals := h.same .arrivals (by decide)

theorem State.Closes.misses {x : Addr} (h : u.Closes z) (hm : s.Misses u x) : s.Misses z x :=
  ⟨fun g => (h.station x).trans (hm.1 g), fun g => ⟨(h.station x).trans (hm.2 g).1, h.shows (hm.2 g).2⟩⟩

theorem State.Closes.garbles {x : Addr} (h : u.Closes z) (hm : s.Garbles u x) : s.Garbles z x :=
  ⟨fun g => (h.station x).trans (hm.1 g), fun g => ⟨(h.station x).trans (hm.2 g).1, h.shows (hm.2 g).2⟩⟩

theorem State.sameBut.now (h : s.sameBut [.chain] u) : u.now = s.now := by
  have ht : u.tb = s.tb := h .tb (by decide)
  rw [State.now, State.now, ht]

theorem State.sameBut.misses {x : Addr} (h : s.sameBut [.chain] u) (hm : u.Misses z x) : s.Misses z x := by
  have hcyc : u.cycle = s.cycle := h .cycle (by decide)
  rw [State.Misses, h.station (by decide) x, h.now, hcyc] at hm
  exact hm

theorem State.sameBut.garbles {x : Addr} (h : s.sameBut [.chain] u) (hm : u.Garbles z x) : s.Garbles z x := by
  have hcyc : u.cycle = s.cycle := h .cycle (by decide)
  rw [State.Garbles, h.station (by decide) x, h.now, hcyc] at hm
  exact hm

theorem State.missAnswer_line (s : State) (x : Addr) : (s.missAnswer x).chain.line = s.chain.line := by
  have h : (s.missAnswer x).chain = s.chain := (s.missAnswer_sameBut x) .chain (by decide)
  rw [h]

theorem State.garble_line (s : State) (x : Addr) : (s.garble x).chain.line = s.chain.line := by
  have h : (s.garble x).chain = s.chain := (s.garble_sameBut x) .chain (by decide)
  rw [h]

theorem State.join_line (s : State) (x : Addr) : (s.join x).chain.line = s.chain.line := by
  have h : (s.join x).chain = s.chain := (s.join_sameBut x) .chain (by decide)
  rw [h]

/-! ## What is settled, by the kind of the frame and the judgement -/

theorem State.settle_discover (hk : v.kind = .discover) (ha : u.stations[v.addr].state = .absent) :
    u.settle v w j = (u.discoverAnswer v.addr j).settled := by
  simp only [State.settle, if_pos hk]
  rw [if_pos ha]

theorem State.settle_present (hk : v.kind = .discover) (ha : u.stations[v.addr].state ≠ .absent) :
    u.settle v w j = u.settled := by
  simp only [State.settle, if_pos hk]
  rw [if_neg ha]

theorem State.settle_valid {a : Addr} {k : ReturnKind} {b : List Byte} (hk : v.kind ≠ .discover) :
    u.settle v w (.valid a k b) = (u.stationAnswer v w a k b).settled := by
  simp only [State.settle, if_neg hk]

/-- The frame was discarded: no octets of it are an answer. -/
def Judgement.discarded (j : Judgement) : Prop := j = .abort ∨ j = .short ∨ j = .format ∨ j = .check

theorem State.settle_discarded (hk : v.kind ≠ .discover) (hj : j.discarded) : u.settle v w j = (u.missAnswer v.addr).settled := by
  rcases hj with rfl | rfl | rfl | rfl <;> simp only [State.settle, if_neg hk]

theorem State.settle_svc (u : State) : (u.settle v w j).chain.svc = none := (State.settled_closes _).svc

theorem FrameKind.ne_discover {k : FrameKind} (h : k = .poll ∨ k = .range) : k ≠ .discover := by
  rcases h with rfl | rfl <;> decide

/-! ## Answers to DISCOVER (R144) -/

theorem State.discoverAnswer_discarded {x : Addr} (hj : j.discarded) :
    u.discoverAnswer x j = u.garble x ∨ u.discoverAnswer x j = u.noAnswer x := by
  rcases hj with rfl | rfl | rfl | rfl
  · exact .inr rfl
  · exact .inr rfl
  · exact .inl rfl
  · exact .inl rfl

/-- R142, R144: a discarded frame is counted as such alone. -/
theorem State.settle_line_discarded (hj : j.discarded) : (u.settle v w j).chain.line = u.chain.line := by
  refine (State.settled_closes _).line.trans ?_
  by_cases hk : v.kind = .discover
  · rw [if_pos hk]
    by_cases ha : u.stations[v.addr].state = .absent
    · rw [if_pos ha]
      rcases State.discoverAnswer_discarded (u := u) (x := v.addr) hj with h | h <;> rw [h]
      · exact u.garble_line v.addr
      · rfl
    · rw [if_neg ha]
  · rw [if_neg hk]
    rcases hj with rfl | rfl | rfl | rfl <;> exact u.missAnswer_line v.addr

theorem State.settle_discover_joins (hk : v.kind = .discover) (ha : u.stations[v.addr].state = .absent) {b : List Byte} :
    (u.settle v w (.valid v.addr .echo b)).stations[v.addr] = { u.stations[v.addr] with
        state := .joining, missed := 0, garbled := 0, rangeDue := true, dueSince := some u.chain.rx.arrival }
    ∧ (u.settle v w (.valid v.addr .echo b)).shows .stations
    ∧ (u.settle v w (.valid v.addr .echo b)).chain.line = u.chain.line := by
  have heq : u.discoverAnswer v.addr (.valid v.addr .echo b) = u.join v.addr := if_pos ⟨rfl, rfl⟩
  rw [State.settle_discover hk ha, heq]
  have hc := State.settled_closes (u.join v.addr)
  exact ⟨(hc.station _).trans (u.join_at _).1, hc.shows (u.join_at _).2, hc.line.trans (u.join_line _)⟩

theorem State.settle_discover_garbled (hk : v.kind = .discover) (ha : u.stations[v.addr].state = .absent)
    (hj : j = .format ∨ j = .check) : u.Garbles (u.settle v w j) v.addr := by
  have heq : u.discoverAnswer v.addr j = u.garble v.addr := by rcases hj with rfl | rfl <;> rfl
  rw [State.settle_discover hk ha, heq]
  exact (State.settled_closes _).garbles (u.garble_garbles v.addr)

theorem State.settle_discover_other {a : Addr} {k : ReturnKind} {b : List Byte} (hk : v.kind = .discover)
    (ha : u.stations[v.addr].state = .absent) (hne : a ≠ v.addr ∨ k ≠ .echo) :
    u.Garbles (u.settle v w (.valid a k b)) v.addr ∧ (u.settle v w (.valid a k b)).chain.line = u.chain.line.addFormat := by
  have heq : u.discoverAnswer v.addr (.valid a k b) = (u.countLine LineCounters.addFormat).garble v.addr :=
    if_neg fun g => hne.elim (fun h => h g.1) fun h => h g.2
  rw [State.settle_discover hk ha, heq]
  have hc := State.settled_closes ((u.countLine LineCounters.addFormat).garble v.addr)
  exact ⟨hc.garbles (State.garble_garbles (u.countLine LineCounters.addFormat) v.addr),
    hc.line.trans (State.garble_line _ _)⟩

theorem State.settle_discover_silent (hk : v.kind = .discover) (ha : u.stations[v.addr].state = .absent)
    (hj : j = .abort ∨ j = .short) : (u.settle v w j).stations[v.addr] = { u.stations[v.addr] with garbled := 0 } := by
  have heq : u.discoverAnswer v.addr j = u.noAnswer v.addr := by rcases hj with rfl | rfl <;> rfl
  rw [State.settle_discover hk ha, heq]
  exact ((State.settled_closes _).station _).trans (u.noAnswer_at _)

/-! ## Missed answers and strays (R143, R145) -/

theorem State.settle_missed (hk : v.kind ≠ .discover) (hj : j.discarded) :
    (u.stations[v.addr].state = .joining ∨ u.stations[v.addr].state = .present → u.Misses (u.settle v w j) v.addr)
    ∧ (¬(u.stations[v.addr].state = .joining ∨ u.stations[v.addr].state = .present) →
        (u.settle v w j).stations[v.addr] = u.stations[v.addr]) := by
  rw [State.settle_discarded hk hj]
  refine ⟨fun h => (State.settled_closes _).misses (State.missAnswer_misses h), fun h => ?_⟩
  rw [(State.settled_closes _).station, State.missAnswer_absent h]

theorem State.settle_stray {a : Addr} {k : ReturnKind} {b : List Byte} (hk : v.kind ≠ .discover)
    (hne : a ≠ v.addr ∨ ¬(k = .echo ↔ v.kind = .range)) :
    (u.settle v w (.valid a k b)).chain.line = u.chain.line.addFormat
    ∧ (u.stations[v.addr].state = .joining ∨ u.stations[v.addr].state = .present →
        u.Misses (u.settle v w (.valid a k b)) v.addr)
    ∧ (¬(u.stations[v.addr].state = .joining ∨ u.stations[v.addr].state = .present) →
        (u.settle v w (.valid a k b)).stations[v.addr] = u.stations[v.addr]) := by
  have heq : u.stationAnswer v w a k b = (u.countLine LineCounters.addFormat).missAnswer v.addr :=
    if_neg fun g => hne.elim (fun h => h g.1) fun h => h g.2
  rw [State.settle_valid hk, heq]
  have hc := State.settled_closes ((u.countLine LineCounters.addFormat).missAnswer v.addr)
  refine ⟨hc.line.trans (State.missAnswer_line _ _), fun h => ?_, fun h => ?_⟩
  · exact hc.misses (State.missAnswer_misses (s := u.countLine LineCounters.addFormat) h)
  · rw [hc.station, State.missAnswer_absent (s := u.countLine LineCounters.addFormat) h]
    rfl

/-- R145: an answer of a station gone since is unexpected. -/
theorem State.settle_gone {k : ReturnKind} {b : List Byte} (hk : v.kind ≠ .discover) (hiff : k = .echo ↔ v.kind = .range)
    (h : u.stations[v.addr].state = .absent ∨ u.stations[v.addr].state = .conflict) :
    (u.settle v w (.valid v.addr k b)).chain.line = u.chain.line.addUnexpected
    ∧ (u.settle v w (.valid v.addr k b)).stations[v.addr] = u.stations[v.addr]
    ∧ (u.settle v w (.valid v.addr k b)).arrivals = u.arrivals := by
  have hp : (!u.stations[v.addr].polled) = true := by
    unfold Station.polled
    rcases h with h | h <;> rw [h] <;> rfl
  have heq : u.stationAnswer v w v.addr k b = u.countLine LineCounters.addUnexpected :=
    (if_pos ⟨rfl, hiff⟩).trans (if_pos hp)
  rw [State.settle_valid hk, heq]
  have hc := State.settled_closes (u.countLine LineCounters.addUnexpected)
  exact ⟨hc.line, hc.station _, hc.arrivals⟩

theorem Station.polled_iff {r : Station} : r.polled = true ↔ (r.state = .joining ∨ r.state = .present) ∨ r.state = .silent := by
  simp only [Station.polled, Bool.or_eq_true, decide_eq_true_eq]

/-- R143: the frame is an answer of the station that was asked. -/
theorem State.stationAnswer_polled {k : ReturnKind} {b : List Byte} (hiff : k = .echo ↔ v.kind = .range)
    (hp : u.stations[v.addr].polled = true) : u.stationAnswer v w v.addr k b =
      if v.kind = .range then u.rangeAnswer v.addr w else u.pollAnswer v (if k = .request then some b else none) :=
  (if_pos ⟨rfl, hiff⟩).trans (if_neg (by rw [hp]; decide))

/-! ## Answers to POLL (R158) -/

theorem State.settle_poll {k : ReturnKind} {b : List Byte} (hk : v.kind = .poll) (hecho : k ≠ .echo)
    (hp : u.stations[v.addr].polled = true) :
    u.settle v w (.valid v.addr k b) = (u.pollAnswer v (if k = .request then some b else none)).settled := by
  have hr : v.kind ≠ .range := by rw [hk]; decide
  rw [State.settle_valid (by rw [hk]; decide), State.stationAnswer_polled (iff_of_false hecho hr) hp, if_neg hr]

theorem State.pollAnswer_line (b : Option (List Byte)) : (u.pollAnswer v b).chain.line = u.chain.line := by
  have h : (u.pollAnswer v b).chain = u.chain := (u.pollAnswer_sameBut v b) .chain (by decide)
  rw [h]

theorem State.polled_request_empty {b : List Byte} (h : (u.polled v).stations[v.addr].slot = .empty) :
    (u.pollAnswer v (some b)).stations[v.addr] = { (u.polled v).stations[v.addr] with slot := .request b, segment := 0 }
    ∧ (u.pollAnswer v (some b)).arrivals = u.arrivals ++ [.station v.addr] := by
  have heq : u.pollAnswer v (some b) = (u.polled v).stationRequest v.addr b := rfl
  rw [heq, State.stationRequest_empty h, State.polled_arrivals]
  exact ⟨State.setStation_self _ _ _, rfl⟩

theorem State.polled_request_full {b : List Byte} (h : (u.polled v).stations[v.addr].slot ≠ .empty) :
    (u.pollAnswer v (some b)).stations[v.addr] = { (u.polled v).stations[v.addr] with owed := some (b.getD 1 0) }
    ∧ (u.pollAnswer v (some b)).arrivals = u.arrivals := by
  have heq : u.pollAnswer v (some b) = (u.polled v).stationRequest v.addr b := rfl
  rw [heq, State.stationRequest_full h]
  exact ⟨State.setStation_self _ _ _, u.polled_arrivals v⟩

theorem State.pollAnswer_shows (b : Option (List Byte)) (h : u.stations[v.addr].state = .silent) :
    (u.pollAnswer v b).shows .stations := by
  have hs := State.polled_shows v h
  cases b with
  | none => exact hs
  | some b =>
    have ha : (u.pollAnswer v (some b)).attn = (u.polled v).attn :=
      ((u.polled v).stationRequest_sameBut v.addr b) .attn (by decide)
    rw [State.shows, ha]
    exact hs

/-! ## Answers to RANGE (R148, R149) -/

theorem State.settle_range {b : List Byte} (hk : v.kind = .range) (hp : u.stations[v.addr].polled = true) :
    u.settle v w (.valid v.addr .echo b) = (u.rangeAnswer v.addr w).settled := by
  rw [State.settle_valid (by rw [hk]; decide), State.stationAnswer_polled (iff_of_true rfl hk) hp, if_pos hk]

theorem State.settle_range_rejected {b : List Byte} (hk : v.kind = .range) (hp : u.stations[v.addr].polled = true)
    (h : u.chain.rx.stepped = true ∨ u.chain.rx.arrival < w.openTime + 1280) :
    (u.settle v w (.valid v.addr .echo b)).stations[v.addr] = { u.stations[v.addr] with missed := 0 }
    ∧ (u.settle v w (.valid v.addr .echo b)).chain.line =
        { u.chain.line with rangeRejected := satAdd counterTop u.chain.line.rangeRejected 1 } := by
  rw [State.settle_range hk hp, State.rangeAnswer_rejected h]
  exact ⟨((State.settled_closes _).station _).trans (State.setStation_self _ _ _), (State.settled_closes _).line⟩

theorem State.settle_range_valid {b : List Byte} (hk : v.kind = .range)
    (h : u.stations[v.addr].state = .joining ∨ u.stations[v.addr].state = .present) (hs : u.chain.rx.stepped = false)
    (ha : w.openTime + 1280 ≤ u.chain.rx.arrival) :
    (u.settle v w (.valid v.addr .echo b)).stations[v.addr] =
        u.rangedAt u.stations[v.addr] (u.chain.rx.arrival - w.openTime) u.chain.rx.arrival
    ∧ (u.settle v w (.valid v.addr .echo b)).chain.line = u.chain.line
    ∧ (u.stations[v.addr].state = .joining → (u.settle v w (.valid v.addr .echo b)).shows .stations) := by
  rw [State.settle_range hk (Station.polled_iff.2 (.inl h)), State.rangeAnswer_valid hs ha]
  generalize hg : u.setStation v.addr { u.stations[v.addr] with missed := 0 } = g
  have hat : g.stations[v.addr] = { u.stations[v.addr] with missed := 0 } := by rw [← hg]; exact State.setStation_self _ _ _
  have hchain : g.chain = u.chain := by rw [← hg]; rfl
  have hranged : g.rangedAt g.stations[v.addr] = u.rangedAt u.stations[v.addr] := by rw [hat, ← hg]; rfl
  have hst : g.stations[v.addr].state = u.stations[v.addr].state := by rw [hat]
  obtain ⟨h1, h2⟩ := State.validRange_at (s := g) (x := v.addr) (q := u.chain.rx.arrival - w.openTime) (t := u.chain.rx.arrival)
    (by rw [hat]) (by rw [hst]; exact h)
  have hc := State.settled_closes (g.validRange v.addr (u.chain.rx.arrival - w.openTime) u.chain.rx.arrival)
  have hl : (g.validRange v.addr (u.chain.rx.arrival - w.openTime) u.chain.rx.arrival).chain = g.chain :=
    (g.validRange_sameBut _ _ _) .chain (by decide)
  exact ⟨by rw [hc.station, h1, hranged], by rw [hc.line, hl, hchain], fun hj => hc.shows (h2 (hst.trans hj))⟩

end

end Sys2Proof.Machine

/-! PROOFS. O57: answer windows, what discards a frame at the receiver, and how answers settle (R124, R127, R142 to R145). -/

namespace Sys2Proof.Machine

open Sys2Proof Config

/-! ## One bit at the receiver (R123, R124, R127) -/

section

variable {r : Receiver} {b : Bool} {j : Judgement}

/-- `r'` is `r` but for the bits it has taken. -/
def Receiver.sameFrame (r r' : Receiver) : Prop := r'.inWindow = r.inWindow ∧ r'.arrival = r.arrival ∧ r'.stepped = r.stepped

theorem Receiver.bound_sameFrame (r : Receiver) : r.sameFrame r.bound.1 := by
  unfold Receiver.bound
  split <;> exact ⟨rfl, rfl, rfl⟩

theorem Receiver.bit_sameFrame (r : Receiver) (b : Bool) : r.sameFrame (r.bit b).1 := by
  unfold Receiver.bit
  dsimp only
  split
  · split
    · exact ⟨rfl, rfl, rfl⟩
    · split
      · exact Receiver.bound_sameFrame _
      · exact ⟨rfl, rfl, rfl⟩
  · split
    · exact ⟨rfl, rfl, rfl⟩
    · split
      · split <;> exact Receiver.bound_sameFrame _
      · exact ⟨rfl, rfl, rfl⟩

/-- R127: only the 53rd octet is an event of the bound, and the receiver then waits for a delimiter. -/
theorem Receiver.bound_cases (r : Receiver) : r.bound.2 = .overlong ∧ r.bound.1.mode = .idle ∨ r.bound.2 = .none := by
  unfold Receiver.bound
  split
  · exact .inl ⟨rfl, rfl⟩
  · exact .inr rfl

/-- R123, R124, R127: the events of a bit, and what each leaves of the receiver. -/
theorem Receiver.bit_cases (r : Receiver) (b : Bool) :
    (r.bit b).2 = .none ∨ ((r.bit b).2 = .aborted ∧ (r.bit b).1.mode = .aborted) ∨ ((r.bit b).2 = .overlong ∧ (r.bit b).1.mode = .idle)
    ∨ ((r.bit b).2 = .delimiter r.closed ∧ (r.bit b).1 = { r with mode := .content, ones := 0, bits := [] }) := by
  have hbound (q : Receiver) : q.bound.2 = .none ∨ (q.bound.2 = .aborted ∧ q.bound.1.mode = .aborted)
      ∨ (q.bound.2 = .overlong ∧ q.bound.1.mode = .idle)
      ∨ (q.bound.2 = .delimiter r.closed ∧ q.bound.1 = { r with mode := .content, ones := 0, bits := [] }) :=
    q.bound_cases.elim (fun h => .inr (.inr (.inl h))) .inl
  unfold Receiver.bit
  dsimp only
  split
  · split
    · exact .inr (.inl ⟨rfl, rfl⟩)
    · split
      · exact hbound _
      · exact .inl rfl
  · split
    · exact .inr (.inr (.inr ⟨rfl, rfl⟩))
    · split
      · split <;> exact hbound _
      · exact .inl rfl

theorem Receiver.bit_aborted (h : (r.bit b).2 = .aborted) : (r.bit b).1.mode = .aborted := by
  rcases r.bit_cases b with g | ⟨-, g⟩ | ⟨g, -⟩ | ⟨g, -⟩
  · rw [h] at g; exact nomatch g
  · exact g
  · rw [h] at g; exact nomatch g
  · rw [h] at g; exact nomatch g

theorem Receiver.bit_overlong (h : (r.bit b).2 = .overlong) : (r.bit b).1.mode = .idle := by
  rcases r.bit_cases b with g | ⟨g, -⟩ | ⟨-, g⟩ | ⟨g, -⟩
  · rw [h] at g; exact nomatch g
  · rw [h] at g; exact nomatch g
  · exact g
  · rw [h] at g; exact nomatch g

theorem Receiver.bit_delimiter (h : (r.bit b).2 = .delimiter j) : (r.bit b).1 = { r with mode := .content, ones := 0, bits := [] } := by
  rcases r.bit_cases b with g | ⟨g, -⟩ | ⟨g, -⟩ | ⟨-, g⟩
  · rw [h] at g; exact nomatch g
  · rw [h] at g; exact nomatch g
  · rw [h] at g; exact nomatch g
  · exact g

end

section

variable {s z : State} {v : Service} {w : Window} {j : Judgement} {p : Fin 8} {b : Bool}

/-! ## What a bit brings about (R122, R127, R142) -/

/-- The receiver of `s` is `r`. -/
def State.hearing (r : Receiver) (s : State) : State := { s with chain := { s.chain with rx := r } }

theorem State.hearing_sameBut (s : State) (r : Receiver) : s.sameBut [.chain] (s.hearing r) := s.setChain_sameBut _

/-- R122: a single bit begins in the present cycle and is read at the present time. -/
theorem exec_returnFrame_bit (hr : s.resetPin = false) : exec (.returnFrame p [b]) s =
    .next (State.rxEvent (s.chain.rx.bit b).2 s.cycle (s.now + p.val) (s.hearing (s.chain.rx.bit b).1)) := by
  have hexec : exec (.returnFrame p [b]) s = .next (s.whenReleased (State.rxLine p [b])) := rfl
  have hbit : s.rxLine p [b] = State.rxEvent (s.chain.rx.bit b).2 s.cycle (s.timeAt s.cycle + p.val)
      (s.hearing (s.chain.rx.bit b).1) := rfl
  rw [hexec, State.whenReleased_deasserted hr, hbit, State.timeAt_cycle]

/-- R124: the receiver behind a delimiter. -/
def Receiver.opened (r : Receiver) : Receiver := { r with mode := .content, ones := 0, bits := [] }

theorem exec_returnFrame_delimiter (hr : s.resetPin = false) (hd : (s.chain.rx.bit false).2 = .delimiter j) :
    exec (.returnFrame p [false]) s =
      .next (State.rxEvent (.delimiter j) s.cycle (s.now + p.val) (s.hearing s.chain.rx.opened)) := by
  rw [exec_returnFrame_bit hr, hd, Receiver.bit_delimiter hd]
  rfl

theorem State.rxEvent_delimiter {c t : Nat} (hj : j ≠ .fill) : s.rxEvent (.delimiter j) c t = (s.handFrame j).openFrame c t := by
  cases j with
  | fill => exact absurd rfl hj
  | _ => rfl

theorem State.openFrame_sameBut (s : State) (c t : Nat) : s.sameBut [.chain] (s.openFrame c t) := s.setChain_sameBut _

/-- R127: the frame judged `j` has been counted. -/
def State.judged (j : Judgement) (s : State) : State := s.countLine fun c => c.addJudged j

theorem State.judged_sameBut (s : State) (j : Judgement) : s.sameBut [.chain] (s.judged j) := s.countLine_sameBut _

theorem bind_window {o : Option Service} (hv : o = some v) (hw : v.window = some w) :
    (o.bind fun v => v.window.map fun w => (v, w)) = some (v, w) := by
  rw [hv, Option.bind_some, hw]
  rfl

/-- R142: the frame is the answer of the window it started in. -/
theorem State.handFrame_inWindow (hv : s.chain.svc = some v) (hw : v.window = some w) (hin : s.chain.rx.inWindow = true) :
    s.handFrame j = (s.judged j).settle v w j := by
  have hb := bind_window hv hw
  unfold State.handFrame State.judged
  simp only [State.countLine, hb, hin] <;> rfl

/-- R145: a valid frame outside every window is unexpected. -/
theorem State.handFrame_unexpected {a : Addr} {k : ReturnKind} {f : List Byte} (hv : s.chain.svc = some v) (hw : v.window = some w)
    (hin : s.chain.rx.inWindow = false) : s.handFrame (.valid a k f) = s.countLine LineCounters.addUnexpected := by
  have hb := bind_window hv hw
  unfold State.handFrame
  simp only [State.countLine, LineCounters.addJudged, hb, hin] <;> rfl

/-- R127: a frame discarded outside every window is counted alone. -/
theorem State.handFrame_discarded (hv : s.chain.svc = some v) (hw : v.window = some w) (hin : s.chain.rx.inWindow = false)
    (hj : j.discarded) : s.handFrame j = s.judged j := by
  have hb := bind_window hv hw
  unfold State.handFrame
  rcases hj with rfl | rfl | rfl | rfl <;> simp only [State.countLine, hb, hin] <;> rfl

/-! ## Discarded frames and empty windows (R124, R127, R142) -/

theorem State.settle_discarded_sameBut (hj : j.discarded) : s.sameBut [.chain, .stations, .attn] (s.settle v w j) := by
  by_cases hk : v.kind = .discover
  · by_cases ha : s.stations[v.addr].state = .absent
    · rw [State.settle_discover hk ha]
      exact (s.discoverAnswer_sameBut _ j).comp ((State.settled_sameBut _).mono (by decide))
    · rw [State.settle_present hk ha]
      exact s.settled_sameBut.mono (by decide)
  · rw [State.settle_discarded hk hj]
    exact ((s.missAnswer_sameBut _).mono (by decide)).comp ((State.settled_sameBut _).mono (by decide))

/-- R142: the line and the outstanding frame of an empty window that has closed. -/
theorem State.closeWindow_chain (s : State) (v : Service) :
    (s.closeWindow v).chain.svc = none ∧ (s.closeWindow v).chain.line = s.chain.line := by
  have hc := State.settled_closes (if v.kind = .discover then
    if s.stations[v.addr].state = .absent then s.noAnswer v.addr else s else s.missAnswer v.addr)
  refine ⟨hc.svc, hc.line.trans ?_⟩
  by_cases hk : v.kind = .discover
  · rw [if_pos hk]
    split <;> rfl
  · rw [if_neg hk]
    exact s.missAnswer_line _

theorem State.closeWindow_absent (hk : v.kind = .discover) (ha : s.stations[v.addr].state = .absent) :
    (s.closeWindow v).stations[v.addr] = { s.stations[v.addr] with garbled := 0 } := by
  have heq : s.closeWindow v = (s.noAnswer v.addr).settled := by
    rw [State.closeWindow, if_pos hk, if_pos ha]
  rw [heq, (State.settled_closes _).station]
  exact s.noAnswer_at _

theorem State.closeWindow_present (hk : v.kind = .discover) (ha : s.stations[v.addr].state ≠ .absent) :
    (s.closeWindow v).stations[v.addr] = s.stations[v.addr] := by
  have heq : s.closeWindow v = s.settled := by
    rw [State.closeWindow, if_pos hk, if_neg ha]
  rw [heq, (State.settled_closes _).station]

theorem State.closeWindow_missed (hk : v.kind ≠ .discover) :
    (s.stations[v.addr].state = .joining ∨ s.stations[v.addr].state = .present → s.Misses (s.closeWindow v) v.addr)
    ∧ (¬(s.stations[v.addr].state = .joining ∨ s.stations[v.addr].state = .present) →
        (s.closeWindow v).stations[v.addr] = s.stations[v.addr]) := by
  have heq : s.closeWindow v = (s.missAnswer v.addr).settled := by
    rw [State.closeWindow, if_neg hk]
  rw [heq]
  refine ⟨fun h => (State.settled_closes _).misses (State.missAnswer_misses h), fun h => ?_⟩
  rw [(State.settled_closes _).station, State.missAnswer_absent h]

theorem State.windowOver_some (hv : s.chain.svc = some v) (hw : v.window = some w) (h : w.length ≤ s.cycle - w.openCycle) :
    s.windowOver = some v := by
  rw [State.windowOver, hv]
  exact if_pos (by rw [hw]; exact decide_eq_true h)

theorem State.windowOver_none (hv : s.chain.svc = some v) (hw : v.window = some w) (h : s.cycle - w.openCycle < w.length) :
    s.windowOver = none := by
  rw [State.windowOver, hv]
  exact if_neg (by rw [hw]; exact fun g => absurd (of_decide_eq_true g) (not_le.2 h))

theorem exec_answerWindowClose_over (hr : s.resetPin = false) (h : s.windowOver = some v) (hin : s.chain.rx.inWindow = false) :
    exec .answerWindowClose s = .next (s.closeWindow v) := by
  refine congrArg Host.Outcome.next ((State.whenReleased_deasserted hr _).trans ?_)
  simp only [h, hin] <;> rfl

theorem exec_answerWindowClose_early (hr : s.resetPin = false) (h : s.windowOver = none) :
    exec .answerWindowClose s = .next s := by
  refine congrArg Host.Outcome.next ((State.whenReleased_deasserted hr _).trans ?_)
  simp only [h]

theorem exec_answerWindowOpen_due {f : TxFrame} (hr : s.resetPin = false) (hf : s.chain.tx = some f) (hk : f.kind ≠ .report)
    (hs : f.startCycle + 5 * (f.bits - 1) ≤ s.cycle) : exec .answerWindowOpen s = .next s.openWindow := by
  have hdue : s.openDue = true := by
    rw [State.openDue, hf]
    simp only [Option.any_some, Bool.and_eq_true, decide_eq_true_eq]
    exact ⟨hk, hs⟩
  exact congrArg Host.Outcome.next ((State.whenReleased_deasserted hr _).trans (if_pos hdue))

end

end Sys2Proof.Machine

/-! PROOFS. O57, its statement: the windows, the discarded frames and the answers, each from the lemmas of its part. -/

namespace Sys2Proof.Machine

open Sys2Proof Config

section

variable {s z : State} {v : Service} {w : Window} {j : Judgement} {p : Fin 8} {b : Bool}

/-! ## Frames outside the window, and frames that are cut short -/

theorem returnFrame_aborted (hr : s.resetPin = false) (hv : s.chain.svc = some v) (hb : (s.chain.rx.bit true).2 = .aborted) :
    ∃ s' : State, exec (.returnFrame p [true]) s = .next s' ∧ s'.chain.svc = some v
      ∧ s'.chain.line = { s.chain.line with abort := min 65535 (s.chain.line.abort + 1) } ∧ s'.chain.rx.mode = .aborted
      ∧ s'.chain.rx.inWindow = s.chain.rx.inWindow ∧ s.sameBut [.chain] s' := by
  refine ⟨_, exec_returnFrame_bit hr, ?_⟩
  rw [hb]
  obtain ⟨hin, -, -⟩ := s.chain.rx.bit_sameFrame true
  exact ⟨hv, rfl, Receiver.bit_aborted hb, hin, s.setChain_sameBut _⟩

theorem State.settled_rx (z : State) : z.settled.chain.rx = { z.chain.rx with inWindow := false } := by
  rw [State.settled]
  generalize hg : ({ z with chain := { z.chain with svc := none, rx := { z.chain.rx with inWindow := false } } } : State) = g
  have hrx : g.chain.rx = { z.chain.rx with inWindow := false } := by rw [← hg]
  rw [← hrx]
  cases h : g.nextTurn with
  | none => rw [State.moveOn_none h]
  | some n => rw [State.moveOn_some h]

theorem State.missAnswer_chain (s : State) (x : Addr) : (s.missAnswer x).chain = s.chain :=
  (s.missAnswer_sameBut x) .chain (by decide)

theorem State.garble_chain (s : State) (x : Addr) : (s.garble x).chain = s.chain := (s.garble_sameBut x) .chain (by decide)

theorem State.settle_format_mode : (s.settle v w .format).chain.rx.mode = s.chain.rx.mode := by
  by_cases hk : v.kind = .discover
  · by_cases ha : s.stations[v.addr].state = .absent
    · have heq : s.discoverAnswer v.addr .format = s.garble v.addr := rfl
      rw [State.settle_discover hk ha, State.settled_rx, heq, State.garble_chain]
    · rw [State.settle_present hk ha, State.settled_rx]
  · rw [State.settle_discarded hk (.inr (.inr (.inl rfl))), State.settled_rx, State.missAnswer_chain]

/-- Station `x` is one of which an answer can be missed (R134). -/
def State.here (s : State) (x : Addr) : Prop := s.stations[x].state = .joining ∨ s.stations[x].state = .present

theorem Judgement.discarded_format : Judgement.format.discarded := .inr (.inr (.inl rfl))

theorem returnFrame_overlong_outside (hr : s.resetPin = false) (hv : s.chain.svc = some v) (hw : v.window = some w)
    (hb : (s.chain.rx.bit b).2 = .overlong) (hin : s.chain.rx.inWindow = false) :
    exec (.returnFrame p [b]) s = .next ((s.hearing (s.chain.rx.bit b).1).judged .format) := by
  have hi : (s.hearing (s.chain.rx.bit b).1).chain.rx.inWindow = false := (s.chain.rx.bit_sameFrame b).1.trans hin
  rw [exec_returnFrame_bit hr, hb]
  exact congrArg Host.Outcome.next
    (State.handFrame_discarded (s := s.hearing (s.chain.rx.bit b).1) hv hw hi Judgement.discarded_format)

theorem returnFrame_overlong_inWindow (hr : s.resetPin = false) (hv : s.chain.svc = some v) (hw : v.window = some w)
    (hb : (s.chain.rx.bit b).2 = .overlong) (hin : s.chain.rx.inWindow = true) :
    exec (.returnFrame p [b]) s = .next (((s.hearing (s.chain.rx.bit b).1).judged .format).settle v w .format) := by
  have hi : (s.hearing (s.chain.rx.bit b).1).chain.rx.inWindow = true := (s.chain.rx.bit_sameFrame b).1.trans hin
  rw [exec_returnFrame_bit hr, hb]
  exact congrArg Host.Outcome.next (State.handFrame_inWindow (s := s.hearing (s.chain.rx.bit b).1) hv hw hi)

theorem State.judged_hearing_sameBut (s : State) (r : Receiver) (j : Judgement) : s.sameBut [.chain] ((s.hearing r).judged j) :=
  (s.hearing_sameBut r).comp (State.judged_sameBut _ j)

theorem returnFrame_overlong (hr : s.resetPin = false) (hv : s.chain.svc = some v) (hw : v.window = some w)
    (hb : (s.chain.rx.bit b).2 = .overlong) :
    ∃ s' : State, exec (.returnFrame p [b]) s = .next s' ∧ s'.chain.line = s.chain.line.addFormat ∧ s'.chain.rx.mode = .idle
      ∧ s.onlyAt s' v.addr ∧ s.sameBut [.chain, .stations, .attn] s'
      ∧ (s.chain.rx.inWindow = false → s'.chain.svc = some v ∧ s'.stations[v.addr] = s.stations[v.addr])
      ∧ (s.chain.rx.inWindow = true → s'.chain.svc = none
          ∧ (v.kind = .discover → s.stations[v.addr].state = .absent → s.Garbles s' v.addr)
          ∧ (v.kind = .poll ∨ v.kind = .range → s.here v.addr → s.Misses s' v.addr)
          ∧ (v.kind = .poll ∨ v.kind = .range → ¬s.here v.addr → s'.stations[v.addr] = s.stations[v.addr])) := by
  have hsame := s.judged_hearing_sameBut (s.chain.rx.bit b).1 .format
  cases hin : s.chain.rx.inWindow with
  | false =>
    exact ⟨_, returnFrame_overlong_outside hr hv hw hb hin, rfl, Receiver.bit_overlong hb, hsame.onlyAt (by decide),
      hsame.mono (by decide), fun _ => ⟨hv, rfl⟩, nofun⟩
  | true =>
    generalize hu : (s.hearing (s.chain.rx.bit b).1).judged .format = u at hsame
    have hat : u.stations[v.addr] = s.stations[v.addr] := hsame.station (by decide) _
    have hmode : u.chain.rx.mode = .idle := by rw [← hu]; exact Receiver.bit_overlong hb
    have hline : u.chain.line = s.chain.line.addFormat := by rw [← hu]; rfl
    refine ⟨u.settle v w .format, by rw [returnFrame_overlong_inWindow hr hv hw hb hin, hu],
      (State.settle_line_discarded Judgement.discarded_format).trans hline, State.settle_format_mode.trans hmode,
      (hsame.onlyAt (by decide)).trans (u.settle_onlyAt v w .format),
      (hsame.mono (by decide)).comp (State.settle_discarded_sameBut Judgement.discarded_format), nofun, fun _ =>
      ⟨u.settle_svc, fun hk ha => ?_, fun hk h => ?_, fun hk h => ?_⟩⟩
    · exact hsame.garbles (State.settle_discover_garbled hk (by rw [hat]; exact ha) (.inl rfl))
    · exact hsame.misses ((State.settle_missed (FrameKind.ne_discover hk) Judgement.discarded_format).1 (by rw [hat]; exact h))
    · exact ((State.settle_missed (FrameKind.ne_discover hk) Judgement.discarded_format).2 (by rw [hat]; exact h)).trans hat

/-! ## Delimiters -/

theorem returnFrame_fill (hr : s.resetPin = false) (hv : s.chain.svc = some v) (hw : v.window = some w)
    (hd : (s.chain.rx.bit false).2 = .delimiter .fill) :
    ∃ s' : State, exec (.returnFrame p [false]) s = .next s' ∧ s'.chain.svc = some v ∧ s'.chain.line = s.chain.line
      ∧ s'.chain.rx = { s.chain.rx with
          mode := .content, ones := 0, bits := [], arrival := s.now + p.val
          inWindow := decide (w.openCycle ≤ s.cycle ∧ s.cycle ≤ w.openCycle + w.length)
          stepped := decide (∃ a ∈ w.steppedAt, a ≤ s.cycle) }
      ∧ s'.chain.silenceStart = s.cycle ∧ s'.chain.lastDelim = some s.cycle ∧ s.sameBut [.chain] s' := by
  have hb : (s.chain.svc.bind fun v => v.window) = some w := by rw [hv]; exact hw
  have hin : (some w).any (fun w => w.openCycle ≤ s.cycle && s.cycle ≤ w.openCycle + w.length)
      = decide (w.openCycle ≤ s.cycle ∧ s.cycle ≤ w.openCycle + w.length) := by
    rw [Option.any_some, Bool.decide_and]
  have hst : (some w).any (fun w => w.steppedAt.any fun a => a ≤ s.cycle) = decide (∃ a ∈ w.steppedAt, a ≤ s.cycle) := by
    rw [Option.any_some]
    cases w.steppedAt <;> simp
  refine ⟨_, exec_returnFrame_delimiter hr hd, hv, rfl, ?_, rfl, rfl,
    (s.hearing_sameBut s.chain.rx.opened).comp (State.openFrame_sameBut _ _ _)⟩
  rw [← hin, ← hst, ← hb]
  rfl

theorem returnFrame_outside (hr : s.resetPin = false) (hv : s.chain.svc = some v) (hw : v.window = some w)
    (hd : (s.chain.rx.bit false).2 = .delimiter j) (hin : s.chain.rx.inWindow = false) (hj : j.discarded) :
    exec (.returnFrame p [false]) s =
      .next (((s.hearing s.chain.rx.opened).judged j).openFrame s.cycle (s.now + p.val)) := by
  have hne : j ≠ .fill := by rcases hj with rfl | rfl | rfl | rfl <;> decide
  rw [exec_returnFrame_delimiter hr hd, State.rxEvent_delimiter hne, State.handFrame_discarded (s := s.hearing s.chain.rx.opened) hv hw hin hj]

theorem returnFrame_unexpected {a : Addr} {k : ReturnKind} {f : List Byte} (hr : s.resetPin = false) (hv : s.chain.svc = some v)
    (hw : v.window = some w) (hd : (s.chain.rx.bit false).2 = .delimiter (.valid a k f)) (hin : s.chain.rx.inWindow = false) :
    exec (.returnFrame p [false]) s = .next (((s.hearing s.chain.rx.opened).countLine
      LineCounters.addUnexpected).openFrame s.cycle (s.now + p.val)) := by
  rw [exec_returnFrame_delimiter hr hd, State.rxEvent_delimiter (j := .valid a k f) nofun, State.handFrame_unexpected (s := s.hearing s.chain.rx.opened) hv hw hin]

theorem returnFrame_inWindow (hr : s.resetPin = false) (hv : s.chain.svc = some v) (hw : v.window = some w)
    (hd : (s.chain.rx.bit false).2 = .delimiter j) (hin : s.chain.rx.inWindow = true) (hj : j ≠ .fill) :
    exec (.returnFrame p [false]) s =
      .next ((((s.hearing s.chain.rx.opened).judged j).settle v w j).openFrame s.cycle (s.now + p.val)) := by
  rw [exec_returnFrame_delimiter hr hd, State.rxEvent_delimiter hj, State.handFrame_inWindow (s := s.hearing s.chain.rx.opened) hv hw hin]

end

end Sys2Proof.Machine

/-! PROOFS. O57, its statement: what the answer in a window does, told of the state before its closing delimiter. -/

namespace Sys2Proof.Machine

open Sys2Proof Config

section

variable {s u z : State} {v : Service} {w : Window} {j : Judgement} {a : Addr} {k : ReturnKind} {f : List Byte}

/-! ## From the delimiter to the settlement -/

/-- `u` is `s` when the frame judged `j` has been counted. -/
structure State.Judges (s u : State) (j : Judgement) : Prop where
  same : s.sameBut [.chain] u
  line : u.chain.line = s.chain.line.addJudged j
  arrival : u.chain.rx.arrival = s.chain.rx.arrival
  stepped : u.chain.rx.stepped = s.chain.rx.stepped

theorem State.judged_judges (s : State) (j : Judgement) : s.Judges ((s.hearing s.chain.rx.opened).judged j) j :=
  ⟨s.judged_hearing_sameBut _ j, rfl, rfl, rfl⟩

theorem State.openFrame_closes {c t : Nat} (h : s.chain.svc = none) : s.Closes (s.openFrame c t) :=
  ⟨h, rfl, s.openFrame_sameBut c t⟩

theorem State.Judges.station (h : s.Judges u j) (y : Addr) : u.stations[y] = s.stations[y] := h.same.station (by decide) y

theorem State.Judges.here (h : s.Judges u j) (y : Addr) :
    (u.stations[y].state = .joining ∨ u.stations[y].state = .present) ↔ s.here y := by
  rw [h.station y]
  exact .rfl

theorem State.Judges.arrivals (h : s.Judges u j) : u.arrivals = s.arrivals := h.same .arrivals (by decide)

theorem State.Judges.backAt (h : s.Judges u j) (x : Addr) : u.backAt x = s.backAt x := by
  have he : u.entries = s.entries := h.same .entries (by decide)
  unfold State.backAt
  rw [h.station x, he, h.same.now]

theorem State.Judges.rangedAt (h : s.Judges u j) : u.rangedAt = s.rangedAt := by
  have he : u.entries = s.entries := h.same .entries (by decide)
  have hcyc : u.cycle = s.cycle := h.same .cycle (by decide)
  unfold State.rangedAt
  rw [he, hcyc, h.same.now]

/-! ## DISCOVER (R144) -/

theorem State.Judges.joins (h : s.Judges u (.valid v.addr .echo f)) (hc : (u.settle v w (.valid v.addr .echo f)).Closes z)
    (hk : v.kind = .discover) (ha : s.stations[v.addr].state = .absent) :
    z.stations[v.addr] = { s.stations[v.addr] with
        state := .joining, missed := 0, garbled := 0, rangeDue := true, dueSince := some s.chain.rx.arrival }
    ∧ z.shows .stations ∧ z.chain.line = s.chain.line := by
  obtain ⟨hst, hsh, hl⟩ := State.settle_discover_joins (u := u) (w := w) hk (by rw [h.station]; exact ha) (b := f)
  exact ⟨by rw [hc.station, hst, h.station, h.arrival], hc.shows hsh, by rw [hc.line, hl, h.line]; rfl⟩

theorem State.Judges.garbles (h : s.Judges u j) (hc : (u.settle v w j).Closes z) (hk : v.kind = .discover)
    (ha : s.stations[v.addr].state = .absent) (hj : j = .format ∨ j = .check) : s.Garbles z v.addr :=
  h.same.garbles (hc.garbles (State.settle_discover_garbled hk (by rw [h.station]; exact ha) hj))

theorem State.Judges.other (h : s.Judges u (.valid a k f)) (hc : (u.settle v w (.valid a k f)).Closes z) (hk : v.kind = .discover)
    (ha : s.stations[v.addr].state = .absent) (hne : a ≠ v.addr ∨ k ≠ .echo) :
    s.Garbles z v.addr ∧ z.chain.line = s.chain.line.addFormat := by
  obtain ⟨hg, hl⟩ := State.settle_discover_other (u := u) (w := w) (b := f) hk (by rw [h.station]; exact ha) hne
  exact ⟨h.same.garbles (hc.garbles hg), by rw [hc.line, hl, h.line]; rfl⟩

theorem State.Judges.silent (h : s.Judges u j) (hc : (u.settle v w j).Closes z) (hk : v.kind = .discover)
    (ha : s.stations[v.addr].state = .absent) (hj : j = .abort ∨ j = .short) :
    z.stations[v.addr] = { s.stations[v.addr] with garbled := 0 } := by
  rw [hc.station, State.settle_discover_silent hk (by rw [h.station]; exact ha) hj, h.station]

/-! ## Missed answers, strays and answers of stations gone since (R143, R145) -/

theorem State.Judges.misses (h : s.Judges u j) (hc : (u.settle v w j).Closes z) (hk : v.kind ≠ .discover) (hj : j.discarded) :
    (s.here v.addr → s.Misses z v.addr) ∧ (¬s.here v.addr → z.stations[v.addr] = s.stations[v.addr]) := by
  obtain ⟨hm, hn⟩ := State.settle_missed (u := u) (w := w) hk hj
  refine ⟨fun g => h.same.misses (hc.misses (hm ((h.here _).2 g))), fun g => ?_⟩
  rw [hc.station, hn fun g' => g ((h.here _).1 g'), h.station]

theorem State.Judges.strays (h : s.Judges u (.valid a k f)) (hc : (u.settle v w (.valid a k f)).Closes z) (hk : v.kind ≠ .discover)
    (hne : a ≠ v.addr ∨ ¬(k = .echo ↔ v.kind = .range)) :
    z.chain.line = s.chain.line.addFormat
    ∧ (s.here v.addr → s.Misses z v.addr) ∧ (¬s.here v.addr → z.stations[v.addr] = s.stations[v.addr]) := by
  obtain ⟨hl, hm, hn⟩ := State.settle_stray (u := u) (w := w) (b := f) hk hne
  refine ⟨by rw [hc.line, hl, h.line]; rfl, fun g => h.same.misses (hc.misses (hm ((h.here _).2 g))), fun g => ?_⟩
  rw [hc.station, hn fun g' => g ((h.here _).1 g'), h.station]

theorem State.Judges.gone (h : s.Judges u (.valid v.addr k f)) (hc : (u.settle v w (.valid v.addr k f)).Closes z)
    (hk : v.kind ≠ .discover) (hiff : k = .echo ↔ v.kind = .range)
    (hg : s.stations[v.addr].state = .absent ∨ s.stations[v.addr].state = .conflict) :
    z.chain.line = s.chain.line.addUnexpected ∧ z.stations[v.addr] = s.stations[v.addr] ∧ z.arrivals = s.arrivals := by
  obtain ⟨hl, hst, harr⟩ := State.settle_gone (u := u) (w := w) (b := f) hk hiff (by rw [h.station]; exact hg)
  exact ⟨by rw [hc.line, hl, h.line]; rfl, by rw [hc.station, hst, h.station], by rw [hc.arrivals, harr, h.arrivals]⟩

/-! ## POLL (R134, R143, R158) -/

theorem State.Judges.polled (h : s.Judges u j) (hp : s.here v.addr ∨ s.stations[v.addr].state = .silent) :
    u.stations[v.addr].polled = true := by
  rw [Station.polled_iff, h.station]
  exact hp

theorem State.Judges.rest (h : s.Judges u j) :
    (u.polled v).stations[v.addr] = (s.backAt v.addr).afterPoll s.stations[v.addr] v := by
  rw [State.polled_at, h.backAt, h.station]

theorem State.Judges.answers (h : s.Judges u (.valid v.addr k f)) (hc : (u.settle v w (.valid v.addr k f)).Closes z)
    (hk : v.kind = .poll) (hp : s.here v.addr ∨ s.stations[v.addr].state = .silent) (hecho : k ≠ .echo) :
    z.chain.line = s.chain.line ∧ (s.stations[v.addr].state = .silent → z.shows .stations)
    ∧ (k = .empty → z.stations[v.addr] = (s.backAt v.addr).afterPoll s.stations[v.addr] v ∧ z.arrivals = s.arrivals)
    ∧ (k = .request → ((s.backAt v.addr).afterPoll s.stations[v.addr] v).slot = .empty →
        z.stations[v.addr] = { (s.backAt v.addr).afterPoll s.stations[v.addr] v with slot := .request f, segment := 0 }
        ∧ z.arrivals = s.arrivals ++ [.station v.addr])
    ∧ (k = .request → ((s.backAt v.addr).afterPoll s.stations[v.addr] v).slot ≠ .empty →
        z.stations[v.addr] = { (s.backAt v.addr).afterPoll s.stations[v.addr] v with owed := some (f.getD 1 0) }
        ∧ z.arrivals = s.arrivals) := by
  rw [State.settle_poll hk hecho (h.polled hp)] at hc
  have hd := State.settled_closes (u.pollAnswer v (if k = .request then some f else none))
  refine ⟨?_, fun hs => ?_, ?_, ?_, ?_⟩
  · rw [hc.line, hd.line, State.pollAnswer_line, h.line]
    rfl
  · exact hc.shows (hd.shows (State.pollAnswer_shows _ (by rw [h.station]; exact hs)))
  · rintro rfl
    rw [hc.station, hd.station, hc.arrivals, hd.arrivals]
    exact ⟨h.rest, (u.polled_arrivals v).trans h.arrivals⟩
  · rintro rfl hslot
    rw [← h.rest] at hslot
    obtain ⟨h1, h2⟩ := State.polled_request_empty (b := f) hslot
    rw [hc.station, hd.station, hc.arrivals, hd.arrivals, if_pos rfl, h1, h2, h.rest, h.arrivals]
    exact ⟨rfl, rfl⟩
  · rintro rfl hslot
    rw [← h.rest] at hslot
    obtain ⟨h1, h2⟩ := State.polled_request_full (b := f) hslot
    rw [hc.station, hd.station, hc.arrivals, hd.arrivals, if_pos rfl, h1, h2, h.rest, h.arrivals]
    exact ⟨rfl, rfl⟩

/-! ## RANGE (R148, R149) -/

theorem State.Judges.rejects (h : s.Judges u (.valid v.addr .echo f)) (hc : (u.settle v w (.valid v.addr .echo f)).Closes z)
    (hk : v.kind = .range) (hp : s.here v.addr) (hrej : s.chain.rx.stepped = true ∨ s.chain.rx.arrival < w.openTime + 1280) :
    z.stations[v.addr] = { s.stations[v.addr] with missed := 0 }
    ∧ z.chain.line = { s.chain.line with rangeRejected := min 65535 (s.chain.line.rangeRejected + 1) } := by
  obtain ⟨hst, hl⟩ := State.settle_range_rejected (u := u) (w := w) (b := f) hk (h.polled (.inl hp))
    (by rw [h.stepped, h.arrival]; exact hrej)
  exact ⟨by rw [hc.station, hst, h.station], by rw [hc.line, hl, h.line]; rfl⟩

theorem State.Judges.ranges (h : s.Judges u (.valid v.addr .echo f)) (hc : (u.settle v w (.valid v.addr .echo f)).Closes z)
    (hk : v.kind = .range) (hp : s.here v.addr) (hs : s.chain.rx.stepped = false)
    (ha : w.openTime + 1280 ≤ s.chain.rx.arrival) :
    z.stations[v.addr] = s.rangedAt s.stations[v.addr] (s.chain.rx.arrival - w.openTime) s.chain.rx.arrival
    ∧ z.chain.line = s.chain.line ∧ (s.stations[v.addr].state = .joining → z.shows .stations) := by
  obtain ⟨hst, hl, hsh⟩ := State.settle_range_valid (u := u) (w := w) (b := f) hk ((h.here _).2 hp) (by rw [h.stepped]; exact hs)
    (by rw [h.arrival]; exact ha)
  exact ⟨by rw [hc.station, hst, h.station, h.arrival, h.rangedAt], by rw [hc.line, hl, h.line]; rfl,
    fun g => hc.shows (hsh (by rw [h.station]; exact g))⟩

end

/-! ## The statement -/

section

variable {s : State} {v : Service} {w : Window} {j : Judgement} {p : Fin 8}

/-- R142: the delimiter that closes a frame in the window settles its answer. -/
theorem returnFrame_settles (hr : s.resetPin = false) (hv : s.chain.svc = some v) (hw : v.window = some w)
    (hd : (s.chain.rx.bit false).2 = .delimiter j) (hin : s.chain.rx.inWindow = true) (hj : j ≠ .fill) :
    ∃ u z : State, exec (.returnFrame p [false]) s = .next z ∧ s.Judges u j ∧ (u.settle v w j).Closes z :=
  ⟨_, _, returnFrame_inWindow hr hv hw hd hin hj, s.judged_judges j, State.openFrame_closes (State.settle_svc _)⟩

theorem State.Judges.onlyAt {u z : State} (h : s.Judges u j) (hc : (u.settle v w j).Closes z) : s.onlyAt z v.addr :=
  ((h.same.onlyAt (by decide)).trans (u.settle_onlyAt v w j)).trans (hc.same.onlyAt (by decide))

theorem State.Judges.sameBut {u z : State} (h : s.Judges u j) (hc : (u.settle v w j).Closes z) :
    s.sameBut [.chain, .stations, .attn, .arrivals] z :=
  ((h.same.mono (by decide)).comp (u.settle_sameBut v w j)).comp (hc.same.mono (by decide))

theorem State.Judges.line_discarded {u z : State} (h : s.Judges u j) (hc : (u.settle v w j).Closes z) (hj : j.discarded) :
    z.chain.line = s.chain.line.addJudged j := by
  rw [hc.line, State.settle_line_discarded hj, h.line]

end

/-- Settles O57: the lemmas of this part give each clause. -/
theorem answersSettle : Obligations.AnswersSettle := by
  unfold Obligations.AnswersSettle
  intro s v hr hv x r line here misses garbled format unexpected counted
  refine ⟨fun f hf hk hs => ?_, fun w hw => ⟨fun hover hin => ?_, fun hearly _ => ?_, fun p hb => ?_, fun p b hb => ?_,
    fun p j hd => ⟨?_, fun hin hj => ?_, fun hin hj => ?_⟩⟩⟩
  · rw [exec_answerWindowOpen_due hr hf hk hs, State.openWindow, hf, hv]
    rfl
  · obtain ⟨hsvc, hline⟩ := s.closeWindow_chain v
    exact ⟨_, exec_answerWindowClose_over hr (State.windowOver_some hv hw (by omega)) hin, hsvc, hline, s.closeWindow_onlyAt v,
      s.closeWindow_sameBut v, State.closeWindow_absent, State.closeWindow_present,
      fun hk => (State.closeWindow_missed hk).1, fun hk => (State.closeWindow_missed hk).2⟩
  · exact exec_answerWindowClose_early hr (State.windowOver_none hv hw (by omega))
  · exact returnFrame_aborted hr hv hb
  · exact returnFrame_overlong hr hv hw hb
  · rintro rfl
    exact returnFrame_fill hr hv hw hd
  · have hsame (y : State) (hy : (s.hearing s.chain.rx.opened).sameBut [.chain] y) :
        s.sameBut [.chain] (y.openFrame s.cycle (s.now + p.val)) :=
      ((s.hearing_sameBut _).comp hy).comp (State.openFrame_sameBut _ _ _)
    cases j with
    | fill => exact absurd rfl hj
    | valid a k f => exact ⟨_, returnFrame_unexpected hr hv hw hd hin, hv, rfl, hsame _ (State.countLine_sameBut _ _)⟩
    | abort => exact ⟨_, returnFrame_outside hr hv hw hd hin (.inl rfl), hv, rfl, hsame _ (State.judged_sameBut _ _)⟩
    | short => exact ⟨_, returnFrame_outside hr hv hw hd hin (.inr (.inl rfl)), hv, rfl, hsame _ (State.judged_sameBut _ _)⟩
    | format =>
      exact ⟨_, returnFrame_outside hr hv hw hd hin (.inr (.inr (.inl rfl))), hv, rfl, hsame _ (State.judged_sameBut _ _)⟩
    | check =>
      exact ⟨_, returnFrame_outside hr hv hw hd hin (.inr (.inr (.inr rfl))), hv, rfl, hsame _ (State.judged_sameBut _ _)⟩
  · obtain ⟨u, z, hexec, h, hc⟩ := returnFrame_settles (p := p) hr hv hw hd hin hj
    refine ⟨z, hexec, hc.svc, h.onlyAt hc, h.sameBut hc, fun hdis => ?_, fun hk ha => ⟨?_, h.garbles hc hk ha, ?_,
      h.silent hc hk ha⟩, ?_, ?_, ?_, fun hk => ⟨?_, fun hdis => ?_⟩⟩
    · rw [h.line_discarded hc (by unfold Judgement.discarded; tauto)]
      rcases hdis with rfl | rfl | rfl | rfl <;> rfl
    · rintro f rfl
      exact h.joins hc hk ha
    · rintro a k f rfl hne
      exact h.other hc hk ha hne
    · rintro hk hp back rest k f rfl hecho
      exact h.answers hc hk hp hecho
    · rintro hk hp f rfl q
      exact ⟨h.rejects hc hk hp, h.ranges hc hk hp⟩
    · rintro hk hg k f rfl hiff
      exact h.gone hc (FrameKind.ne_discover hk) hiff hg
    · rintro a k f rfl hne
      exact h.strays hc (FrameKind.ne_discover hk) hne
    · exact h.misses hc (FrameKind.ne_discover hk) hdis

end Sys2Proof.Machine
